-- ==== Sys2Proof/Word.lean ====
section
/-! DEFINITION. The machine word, the byte, table entries and the sparse map in which registers, counters and table slots
are kept (a list of key and value pairs). -/

namespace Sys2Proof

/-- A register of the register window (R103: every access is 32 bits wide). -/
abbrev Word := BitVec 32

/-- One byte of a frame, of a PDU, of a key or of the logbook. -/
abbrev Byte := BitVec 8

/-- The eight data words of a table entry, DATA0 lowest (the table before R114). -/
abbrev Entry := BitVec 256

/-- A sparse map: pairs of a key and a value. The operations are in Machine/Map.lean. -/
abbrev SMap (α : Type) := List (Nat × α)

end Sys2Proof
end

