-- ==== Sys2Proof/Syntax.lean ====
section
/-! DEFINITION. The commands of the VX9690: one constructor of `Instr` per row of spec/opcode_table.json. A command is a register
write or a read with a side effect, sent by a master, or an event of the device's surroundings or of its own timers. Its
operands are what the sender or the surroundings bring; everything else comes from the state. -/

namespace Sys2Proof

/-- The masters that send register accesses (the master table of chapter 00): M0 is the Coach, M1 the secure function PF0
of P0, M2 its normal function PF1, M3 a virtual function of PF1, M4 the logger P1. -/
inductive Master where
  | m0
  | m1
  | m2
  | m3 (vf : Fin 8)
  | m4
  deriving DecidableEq, Repr

/-- The windows through which a function writes (R368): the register window, the boot window or logbook port, the MSI-X
table, and of the function's configuration space the MSI-X control word and the SR-IOV words of PF1. -/
inductive Window where
  | bar0
  | bar2
  | bar4
  | msixControl
  | sriov
  deriving DecidableEq, Repr

/-- What the boot checks find in an image (R95): whether the header is well formed, whether digest and signature verify, the
security version, whether the image kind is factory, the version that DEV_FW_VER shows, and the SHA-384 digest of its body. -/
structure ImageFacts where
  headerOk : Bool
  sigOk : Bool
  secver : BitVec 8
  factory : Bool
  version : BitVec 24
  bodyHash : BitVec 384
  deriving DecidableEq, Repr

/-- A failing bit found by memory BIST (R435 to R437): the memory number, the failing word, the bit, and the unit code of the unit that holds
the memory where that unit has a class of its own (R436). -/
structure MemFailure where
  memory : BitVec 16
  address : BitVec 20
  bit : BitVec 7
  holder : Option (BitVec 16)
  deriving DecidableEq, Repr

/-- How far a write reaches: a word, less than a word, or a word and those that follow it (R103, R369). -/
inductive Extent where
  | word
  | narrow
  | words (more : List Word)
  deriving DecidableEq, Repr

/-- The words that a read through a window asks for: the offset of the first, and how many (R103, R369). -/
structure Span where
  off : BitVec 26
  dw : Nat
  deriving DecidableEq, Repr

/-- What lane and PHY report of a port (R136, R137): the bits of LANE_STAT, and the speed of the in-band control word (7: none). -/
structure LaneReport where
  stat : BitVec 5
  speed : Fin 8
  deriving DecidableEq, Repr

/-- The clock islands of R12, each with its own replica of the device times (R18). -/
inductive Island where
  | aon
  | time
  | key
  | coach
  | ctrl
  | periph
  | hostP0
  | logP1
  | dma
  | slice (i : Fin 3)
  | pktbuf
  | classify
  | macX
  | macG1
  | egrA
  | macG2
  | egrB
  | t1s
  | quad (q : Fin 6)
  | canA
  | canB
  | lin
  | relay
  | canauth
  | macsecX
  | macsecG
  | bulk
  deriving DecidableEq, Repr

/-- Bad parity in the reads that follow a bridge or a route decision (R206): in none, in the port group's slot, in one of the route lookup, or in
that of the VLAN of the next hop. -/
inductive OnwardParity where
  | good
  | group
  | route
  | hopVlan
  deriving DecidableEq, Repr

/-- What takes the link of P0 or P1 down or lets it come up: a hot reset, or a level of its PERSTn_N (R98, R389). -/
inductive LinkEvent where
  | hotReset (k : Fin 2)
  | perst (k : Fin 2) (high : Bool)
  deriving DecidableEq, Repr

/-- What the SECDED of the packet buffer finds in a cell read for a frame (R437, R472): nothing, an error it corrects in a bit of a location
of the buffer's memories, or one it cannot correct. -/
inductive CellRead where
  | clean
  | corrected (memory : BitVec 12) (address : BitVec 20) (bit : BitVec 7)
  | uncorrectable
  deriving DecidableEq, Repr

/-- What the wake logic takes as a wake event (R456): an input, a CAN filter's wake-up pattern or frame, a filter's error
counter overflow, a T1S wake signal, or the return of power. -/
inductive WakeSource where
  | input (n : Fin 16)
  | wup (c : Fin 48)
  | wuf (c : Fin 48) (ide : Bool) (id : BitVec 29)
  | fecOverflow (c : Fin 48)
  | t1s (i : Fin 4)
  | power
  deriving DecidableEq, Repr

/-- What a fabric parity error ended (R473): a read, a posted write of a master, or a transfer of a ring. -/
inductive FabricVictim where
  | read (m : Master)
  | write (m : Master) (off : BitVec 26) (value : Word)
  | ring (fn : Fin 11) (r : Fin 32)
  deriving DecidableEq, Repr

/-- A fragment of a preemptable frame as the merge sublayer receives it (R151), or a verify mPacket (R147) where `verify` is true: the first of its frame, the frame number of its
SMD, its fragment count, whether the SMD is known, its bytes, whether it ends the frame, and whether its check sequence is good. -/
structure Fragment where
  verify : Bool
  first : Bool
  frame : Fin 4
  count : Fin 4
  smdKnown : Bool
  bytes : List Byte
  last : Bool
  crcOk : Bool
  deriving DecidableEq, Repr

/-- A received PAUSE frame, or PFC frame where `pfc` is true (R153): destination, FCS, the class enable vector and the times (one
quanta value for PAUSE, eight for PFC). -/
structure PauseFrame where
  pfc : Bool
  da : BitVec 48
  fcsOk : Bool
  enable : BitVec 8
  times : List (BitVec 16)
  deriving DecidableEq, Repr

/-- The CAN error kinds of R272, and the protocol exception event of R256. -/
inductive CanErrKind where
  | bit
  | stuff
  | form
  | crc
  | ack
  | protocol
  deriving DecidableEq, Repr

/-- A bus error as the protocol core sees it (R253): its kind; whether it lies in the data phase of a CAN XL frame (R250); whether it is a
bit error of an active error or overload flag being sent; how often eight further dominant bits followed the flag; whether the first bit after a receiver's
flag was dominant; whether an error-passive node saw a dominant bit during its flag (R255); and whether it is a stuff error of
the arbitration field on a bit sent recessive.
`pastEdge`: in an FD or XL frame of its own, after the edge at which its delay is measured (R249). -/
structure CanError where
  kind : CanErrKind
  xlData : Bool
  inFlag : Bool
  longDominant : Nat
  dominantAfter : Bool
  passiveDominant : Bool
  arbStuff : Bool
  pastEdge : Bool
  deriving DecidableEq, Repr

/-- A CAN frame on a bus: format (0 Classical, 1 FD, 2 XL), identifier, flags, the CAN XL fields, payload. -/
structure CanWire where
  fmt : Fin 3
  ide : Bool
  id : BitVec 29
  brs : Bool
  rtr : Bool
  esi : Bool
  sec : Bool
  sdt : Byte
  vcid : Byte
  af : Word
  data : List Byte
  deriving DecidableEq, Repr

/-- The gPTP message types that the device takes (R328, R329). -/
inductive PtpKind where
  | sync
  | followUp
  | pdelayReq
  | pdelayResp
  | pdelayRespFollowUp
  | announce
  | other
  deriving DecidableEq, Repr

/-- A gPTP message (R328): majorSdoId, type, domainNumber, whether a Sync is two-step, the correctionField in units of 2^-16 ns,
sequenceId, the timestamp of its body, the cumulative scaled rate offset of a Follow_Up, the source port, and the requesting port of a
Pdelay response. -/
structure PtpMsg where
  sdo : BitVec 4
  kind : PtpKind
  domain : Byte
  twoStep : Bool
  correction : Int
  seq : BitVec 16
  sec : BitVec 48
  ns : BitVec 32
  rate : Int
  source : BitVec 80
  requester : BitVec 80
  deriving DecidableEq, Repr

/-- What the Coach decides for a domain on an Announce (R329): the role of each port (0 DISABLED, 1 SLAVE, 2 MASTER, 3 PASSIVE), whether
the device is grandmaster, and asCapable of the port. -/
structure BmcaResult where
  roles : List (Fin 24 × Fin 4)
  gm : Bool
  asCapable : Bool
  deriving DecidableEq, Repr

/-- A run of a test slice (R430): patterns applied and target, signature and golden signature. -/
structure SliceRun where
  patterns : BitVec 16
  target : BitVec 16
  misr : BitVec 64
  golden : BitVec 64
  deriving DecidableEq, Repr

/-- The runs of a unit's test slices in full BIST or hard repair (R443), each with its repeat where one was made. -/
structure UnitRun where
  unit : BitVec 16
  runs : List (SliceRun × Option SliceRun)
  deriving DecidableEq, Repr


/-- What the shadow compare finds at a static slot (R206, R207): the slice, the table (of page 0x088 + `table`), the physical slot,
whether its parity is bad, and what the hardware copy holds. -/
structure ShadowFinding where
  slice : Fin 3
  table : Fin 7
  slot : BitVec 24
  parity : Bool
  data : BitVec 256
  deriving DecidableEq, Repr


/-- The commands. The comment before each gives its row: mnemonic and governing rule. -/
inductive Instr where
  /-- TRIM_REQ (R42): A write of DEV_MODE_REQ.TRIM_REQ requests TRIM or withdraws the request, taken by the mode arbiter within one AON cycle. -/
  | trimReq (m : Master) (on : Bool)
  /-- REST_REQ (R458): A write of DEV_MODE_REQ.REST_REQ is taken or refused; once taken it clears WAKE_PEND, arms the wake sources, closes ingress and writes the PHY sleep slots. -/
  | restReq (m : Master) (trim : Bool)
  /-- SERVICE_REQ_HALT (R50): SERVICE_REQ = HALT stops forwarding from RUN or DIAGNOSE within 10 µs and keeps the live heat; from any other state it has no effect. -/
  | serviceReqHalt (m : Master) (trim : Bool)
  /-- SERVICE_REQ_MAINTAIN (R54): SERVICE_REQ = MAINTAIN enters MAINTAIN, or sets MAINT_PENDING in LEAN or REST, and is refused in DIAGNOSE. -/
  | serviceReqMaintain (m : Master) (trim : Bool)
  /-- SERVICE_REQ_LEAVE_MAINTAIN (R54): SERVICE_REQ = LEAVE_MAINTAIN returns to HALT with no live or armed heat, or ends a pending MAINTAIN at once. -/
  | serviceReqLeaveMaintain (m : Master) (trim : Bool)
  /-- QUAR_CLEAR (R58): QUAR_CLEAR from M1 deletes the QUARANTINE record and enters SEALED if the measurements match and no tamper source is active; otherwise it is refused. -/
  | quarClear (m : Master) (trim : Bool)
  /-- DROOP_DETECT (R83): A droop sensor crosses below its threshold; TRIM_DROOP is set and the halved islands switch to half frequency within 50 ns. -/
  | droopDetect
  /-- DROOP_CRIT (R84): A sensor below 0.680 V for 1 µs raises DROOP_CRIT and asserts FAULT_N. -/
  | droopCrit
  /-- THERMAL_SAMPLE (R85): Every 50 µs the thermal sensors are sampled, and TRIM_THERMAL and ABOVE_CRIT are updated. -/
  | thermalSample (samples : List Int)
  /-- TRIM_HOLD_EXPIRY (R42): All TRIM causes absent for TRIM_HOLD returns the device from TRIM to FULL. -/
  | trimHoldExpiry
  /-- PG_MAIN_LOSS (R45): PG_MAIN low with PG_BAK high forces LEAN and isolates every domain outside the lean set, discarding its in-flight work. -/
  | pgMainLoss
  /-- PG_HOLD_EXPIRY (R43): PG_MAIN high for PG_HOLD leaves LEAN into FULL or TRIM and powers the shed domains again. -/
  | pgHoldExpiry
  /-- DOMAIN_GROUP_START (R82): A group of domains switches on 20 µs after the previous group, under the inrush grouping rule. -/
  | domainGroupStart
  /-- DOMAIN_RESTORE (R47): Once a domain is powered, the Coach loads its configuration from the restore image and then enables its ports. -/
  | domainRestore (pd : Fin 16)
  /-- SUPPLY_LOSS_REST (R42): PG_MAIN and PG_BAK both low force an entry to REST within 20 µs, with no PHY slots and no journal records written. -/
  | supplyLossRest
  /-- TAMPER_EVENT (R57): A tamper source in SEALED moves the device to QUARANTINE within 10 µs and writes a QUARANTINE record. -/
  | tamperEvent
  /-- RUNTIME_REMEASURE (R57): The Coach's runtime re-measurement completes; a mismatch in SEALED moves the device to QUARANTINE. -/
  | runtimeRemeasure (hash : BitVec 384)
  /-- DIAG_EXIT_HOLD_EXPIRY (R50): The activation line inactive for DIAG_EXIT_HOLD moves the device from DIAGNOSE to RUN. -/
  | diagExitHoldExpiry
  /-- STANDBY_SWITCHOVER (R70): VSB_MAIN crossing 2.9 V falling moves the standby switch to VSB_BAK within 1 µs and raises SBY_SWITCH. -/
  | standbySwitchover
  /-- STANDBY_RETURN (R69): VSB_MAIN above 3.05 V for 1 ms returns the standby switch to VSB_MAIN. -/
  | standbyReturn
  /-- VAON_COLLAPSE (R72): VAON falls to 0.62 V after both standby sources are lost and the internal power-on reset fires, losing counters, volatile slots and AON state. -/
  | vaonCollapse
  /-- INTERNAL_POR_RELEASE (R72): A standby source and the reference are back in range for the required times, and the device boots with POR_INTERNAL set. -/
  | internalPorRelease (bootsel : BitVec 2) (main : Bool) (bak : Bool)
  /-- PORST_ASSERT (R92): PORST_N low for at least 1 µs puts the whole device into power-on reset. -/
  | porstAssert
  /-- PORST_RELEASE (R96): The release of PORST_N samples BOOTSEL and starts the power-on boot sequence. -/
  | porstRelease (bootsel : BitVec 2)
  /-- WRST_ASSERT (R495): WRST_N low for at least 1 µs holds PD3–PD15 in warm reset. -/
  | wrstAssert
  /-- WRST_RELEASE (R495): The release of WRST_N starts the warm boot from the PD3 step, or lets a waiting power-on boot continue. -/
  | wrstRelease
  /-- RST_CTRL_WARM (R92): A write of RST_CTRL.WARM from M0 or M1 starts a warm reset at once. -/
  | rstCtrlWarm (m : Master)
  /-- RST_CTRL_DOM_RST (R92): A write of RST_CTRL.DOM_RST resets the named domains, which are then restored from the restore image. -/
  | rstCtrlDomRst (m : Master) (mask : BitVec 16)
  /-- WATCHDOG_EXPIRY (R92): Expiry of the Coach watchdog causes a warm reset. -/
  | watchdogExpiry
  /-- PWR_LEAN_CFG_WRITE (R78): A write of PWR_LEAN_CFG is checked against its own BUDGET and refused as a whole with LEAN_BUDGET or LEAN_CFG_BUSY. -/
  | pwrLeanCfgWrite (m : Master) (value : Word)
  /-- PLL_LOCK_LOSS (R89): Loss of lock of PLL0–PLL4 holds the islands it feeds, discards their in-flight work and starts the substitution by PLL5. -/
  | pllLockLoss (plls : List (Fin 5))
  /-- PLL_SUBSTITUTE_DONE (R89): PLL5 has switched or relocked in place of the failing PLL; the islands resume and the failing PLL is scratched with PLL_FAIL. -/
  | pllSubstituteDone
  /-- REFCLK_LOST (R91): No reference edge for 200 ns moves AON to its internal oscillator, holds every PLL-fed island and declares every time domain invalid. -/
  | refclkLost
  /-- REFCLK_RETURN (R91): The reference is back and within tolerance for 1 ms, and the device performs a warm reset. -/
  | refclkReturn
  /-- BOOT_FUSE_SENSE (R96): The fuses are sensed at the start of boot; a device in END stays in reset. -/
  | bootFuseSense
  /-- BOOT_PLL_LOCK (R96): PLL0, PLL1, PLL2 and PLL5 lock and PD1 and PD2 are released. -/
  | bootPllLock
  /-- BOOT_HOSTIF_ON (R96): PD3 and PD4 are switched on, and P0 and P1 may start link training. -/
  | bootHostifOn
  /-- BOOT_ROM_MBIST (R435): The boot ROM runs memory BIST and soft repair over the COACH SRAMs. -/
  | bootRomMbist (failures : List MemFailure)
  /-- BOOT_IMAGE_READ (R94): The header and body of a boot image are read from xSPI, with SHA-384 computed as they are read. -/
  | bootImageRead (image : Option ImageFacts)
  /-- BOOT_IMAGE_CHECK (R95): The signature, rollback and kind checks of the image run; the image starts, or the slot is abandoned and the next source is tried. -/
  | bootImageCheck
  /-- P0_BOOT_GO (R100): The host sets BOOT_STATUS.GO while P0_WAIT = 1, and the device checks and boots the image in the buffer. -/
  | p0BootGo (m : Master) (value : Word)
  /-- P0_BOOT_TIMEOUT (R100): No GO within 10 s fails P0 boot with BOOT_P0_TIMEOUT. -/
  | p0BootTimeout
  /-- BOOT_NVM_RECOVERY (R411): The nonvolatile store is recovered position by position, and the scratch list and repair records are loaded. -/
  | bootNvmRecovery (badDigest : List (Fin 512))
  /-- BOOT_DOMAIN_SWITCH_ON (R99): PG_MAIN and PG_BAK are sampled and PD5–PD15, or the lean set, are switched on; with both low the boot is abandoned into REST. -/
  | bootDomainSwitchOn (pgMain : Bool) (pgBak : Bool)
  /-- BOOT_DOMAIN_MBIST (R435): Memory BIST and soft repair of PD4–PD15 run, with SerDes calibration in parallel. -/
  | bootDomainMbist (failures : List MemFailure)
  /-- BOOT_MEASUREMENT (R56): The Coach completes the boot measurement, sets the trust axis and decodes BAR0. -/
  | bootMeasurement (ok : Bool)
  /-- BOOT_HALT (R96): The boot completes in HALT, or in MAINTAIN where MAINT_PENDING is set, with HEAT_LIVE = 0. -/
  | bootHalt
  /-- PCIE_DETECT (R98): With PD4 on and PERSTn_N high, P0 and P1 enter Detect within 1 ms. -/
  | pcieDetect
  /-- REGISTER_WRITE (R104): A write to a register that has no row of its own sets or clears its fields under their access codes. -/
  | registerWrite (m : Master) (w : Window) (off : BitVec 26) (value : Word) (extent : Extent)
  /-- ERR_COUNT_READ (R106): A read of ERR_COUNT returns the error count and clears it, re-opening ERR_ADDR and ERR_INFO for capture. -/
  | errCountRead (m : Master) (page : BitVec 14)
  /-- COUNTER_READ_CLEAR (R107): A read of an RC counter returns its value, or the snapshot under FREEZE, and subtracts that value from it. -/
  | counterReadClear (m : Master) (w : Window) (span : Span)
  /-- COUNTER64_LO_READ (R142): A read of the LO word of a 64-bit counter clears the counter and latches the HI word. -/
  | counter64LoRead (m : Master) (page : BitVec 14) (off : BitVec 12)
  /-- PAGE_SOFT_RESET (R92): PAGE_CTRL.SOFT_RESET resets the running state of the page's block, discarding its in-flight work and keeping its configuration. -/
  | pageSoftReset (m : Master) (page : BitVec 14) (value : Word)
  /-- PAGE_FREEZE (R107): Setting PAGE_CTRL.FREEZE latches a snapshot of every counter of the page. -/
  | pageFreeze (m : Master) (page : BitVec 14) (value : Word)
  /-- LOCK_WRITE (R108): A write of a page's LOCK from M0 or M1 sets the read and write access of M2–M4; a write from any other master is refused. -/
  | lockWrite (m : Master) (page : BitVec 14) (value : Word)
  /-- LOCK_FINAL (R108): Setting LOCK.FINAL freezes the page's LOCK until a warm or power-on reset. -/
  | lockFinal (m : Master) (page : BitVec 14) (value : Word)
  /-- STAGED_REGISTER_WRITE (R118): A write to an RWS field goes to the staged copy, marks the page DIRTY and adds or updates a register record of the open heat. -/
  | stagedRegisterWrite (m : Master) (page : BitVec 14) (off : BitVec 12) (value : Word)
  /-- TBL_READ_LIVE (R114): The table command READ_LIVE loads DATA0–DATA7 with the entry as the live epoch sees it. -/
  | tblReadLive (m : Master) (page : BitVec 14)
  /-- TBL_READ_STAGED (R114): The table command READ_STAGED loads the entry as the latest open or armed change leaves it. -/
  | tblReadStaged (m : Master) (page : BitVec 14)
  /-- TBL_WRITE_STAGED (R114): The table command WRITE_STAGED records DATA0–DATA7 at TBL_IDX in the open heat, reserving a slot where the table needs one. -/
  | tblWriteStaged (m : Master) (page : BitVec 14)
  /-- TBL_DELETE_STAGED (R114): The table command DELETE_STAGED records the removal of an entry in the open heat. -/
  | tblDeleteStaged (m : Master) (page : BitVec 14)
  /-- TBL_WRITE_DIRECT (R114): The table command WRITE_DIRECT writes the live entry at once, where the page has PAGE_CAP.DIRECT = 1. -/
  | tblWriteDirect (m : Master) (page : BitVec 14)
  /-- TBL_READ_RAW (R114): The table command READ_RAW loads the physical slot, including its V, E and B bits. -/
  | tblReadRaw (m : Master) (page : BitVec 14)
  /-- TBL_OWNER_TIMEOUT (R116): After 1 ms with no access from the latched master, the table port releases its owner latch. -/
  | tblOwnerTimeout (page : BitVec 14)
  /-- HEAT_COMMIT (R121): HEAT_CMD = COMMIT passes the commit checks or is refused, captures the open heat and starts loading and the referee check. -/
  | heatCommit (m : Master)
  /-- HEAT_ABORT (R134): HEAT_CMD = ABORT removes the named armed heat and every heat armed after it, and empties the open heat. -/
  | heatAbort (m : Master)
  /-- HEAT_DISCARD (R120): HEAT_CMD = DISCARD empties the open heat and rebuilds every staged copy. -/
  | heatDiscard (m : Master)
  /-- HEAT_LOAD (R122): Once the previous heat has settled, the earliest armed heat is loaded into the next copies and the table slots. -/
  | heatLoad
  /-- REFEREE_VERDICT (R123): The referee check ends; the heat is armed with its activation time fixed, or refused and its changes returned to the open heat. -/
  | refereeVerdict
  /-- HEAT_SWAP (R127): Each island's replica reaches the activation time; live and next copies swap, LIVE_E inverts, HEAT_LIVE updates and LIVE is raised. -/
  | heatSwap
  /-- HEAT_SETTLE (R133): Once no frame of the old epoch remains, each table record's slot is made common to both epochs or invalidated. -/
  | heatSettle
  /-- HEAT_LATE_RELEASE (R131): A heat held while its domain was invalid goes live 50 µs after the domain is valid again, and LATE is raised. -/
  | heatLateRelease
  /-- LINK_CHANGE (R137): A change of a port's LINK raises LINK_CHANGE, starts a flush where FLUSH_ON_DOWN is set, and starts preemption verification on link up. -/
  | linkChange (port : Fin 28) (up : Bool) (lane : LaneReport)
  /-- ETH_FRAME_RECEIVE (R141): The MAC receives a frame, stamps its time and epoch, truncates an oversize frame and passes it toward the classifier. -/
  | ethFrameReceive (port : Fin 28) (bytes : List Byte) (symErr : Bool) (early : Bool)
  /-- MM_FRAGMENT_RECEIVE (R151): A preemptable fragment is received and reassembled; a sequence break drops the frame with MM_ASSEMBLY. -/
  | mmFragmentReceive (port : Fin 28) (frag : Fragment)
  /-- MM_VERIFY_TIMER (R147): VERIFY_TIME passes without a response; another verify mPacket is sent, or after the third the port enters FAILED. -/
  | mmVerifyTimer (port : Fin 28)
  /-- MM_VERIFY_RESPONSE (R147): A response mPacket sets SUCCEEDED and TX_ACTIVE. -/
  | mmVerifyResponse (port : Fin 28)
  /-- PAUSE_RECEIVE (R153): A valid PAUSE or PFC frame loads the pause timer and holds the port's lanes, or the lane of its priority. -/
  | pauseReceive (port : Fin 28) (frame : PauseFrame)
  /-- PAUSE_TIMER_EXPIRY (R153): A pause timer expires and releases the lanes it held. -/
  | pauseTimerExpiry (port : Fin 28) (prio : Option (Fin 8))
  /-- PAUSE_SEND (R155): At the next frame boundary, the MAC sends an XOFF or XON PAUSE or PFC frame ahead of every lane. -/
  | pauseSend (port : Fin 28) (prio : Option (Fin 8))
  /-- PAUSE_REPEAT (R155): Every PAUSE_TIME / 2 quanta, the XOFF is sent again while the cell count stays at or above XON_CELLS. -/
  | pauseRepeat (port : Fin 28) (prio : Option (Fin 8))
  /-- PLCA_CYCLE_START (R157): The coordinator sends a BEACON and gives transmit opportunities in node order. -/
  | plcaCycleStart (i : Fin 4)
  /-- PLCA_BEACON_RECEIVE (R158): A follower receives a BEACON and sets PLCA_ACTIVE; a coordinator that sees a foreign BEACON sets DUP_COORD. -/
  | plcaBeaconReceive (i : Fin 4)
  /-- PLCA_BEACON_LOSS (R158): 400 µs without a BEACON clears PLCA_ACTIVE, and the port holds its lanes or falls back to CSMA/CD. -/
  | plcaBeaconLoss (i : Fin 4)
  /-- MACSEC_TXAN_WRITE (R162): A write of MACSEC_TXAN selects the transmit SA from the next frame that starts protection. -/
  | macsecTxanWrite (m : Master) (port : Fin 28) (value : Word)
  /-- MDIO_CMD_WRITE (R165): A write of MDIO_CMD starts a Clause 22 or Clause 45 frame, or is refused with MDIO_BUSY. -/
  | mdioCmdWrite (m : Master) (pair : Fin 2) (value : Word)
  /-- MDIO_COMMAND_DONE (R165): An MDIO frame completes; DONE is set, read data is stored and CMD_DONE is raised. -/
  | mdioCommandDone (pair : Fin 2) (data : BitVec 16)
  /-- MDIO_POLL (R165): Every POLL_INT, each enabled poll slot is read and POLL_CHANGE is raised on a masked change. -/
  | mdioPoll (pair : Fin 2) (values : List (BitVec 16))
  /-- FRAME_CLASSIFY (R214): CLASSIFY parses the frame and applies stream identification, filter, stream gate and meter. -/
  | frameClassify
  /-- FRAME_LOOKUP (R196): The slice of the frame's role looks the frame up, routes it, builds its result and admits its copies to the buffer. -/
  | frameLookup (vlanBad : Bool) (daBad : Bool) (saBad : Bool) (onward : OnwardParity)
  /-- LEARN_SERVE (R189): The learning engine serves a queued request by inserting, refreshing, moving or pinning the entry. -/
  | learnServe
  /-- AGE_TICK (R195): Each aging tick, the engine sweeps the slots and deletes learned entries older than AGE_LIMIT. -/
  | ageTick
  /-- LEARN_FLUSH (R193): A write of LEARN_FLUSH.GO deletes the matching learned entries within 100 µs and raises FLUSH_DONE. -/
  | learnFlush (m : Master) (role : Fin 2) (value : Word)
  /-- FWD_SEED_WRITE (R179): A write of a hash seed is taken only in HALT with no heat live; otherwise it is refused with FWD_SEED_LOCKED. -/
  | fwdSeedWrite (m : Master) (k : Fin 4) (value : Word)
  /-- SHADOW_COMPARE_PASS (R207): Once per SHADOW_PERIOD, every static slot is compared with the shadow and repaired or reported. -/
  | shadowComparePass (findings : List ShadowFinding)
  /-- SLICE_SUBSTITUTION (R209): A planned substitution starts copying the learned entries of a role's slice into the reserve slice. -/
  | sliceSubstitution
  /-- SLICE_COPY_DONE (R209): When all slots have been walked, the role moves to the former reserve at a frame boundary and SUBST is raised. -/
  | sliceCopyDone
  /-- SLICE_FAILURE (R210): An active slice fails; its pipeline is discarded, the reserve takes the role or the other slice folds, and the slice is scratched. -/
  | sliceFailure (i : Fin 3)
  /-- STREAM_GATE_ENTRY (R220): A stream gate reaches the start of its next entry and takes the entry's state, restarting its octet count. -/
  | streamGateEntry (g : Fin 256)
  /-- SF_UNBLOCK (R219): A write of SF_UNBLOCK clears BLOCKED of a stream filter. -/
  | sfUnblock (m : Master) (value : Word)
  /-- SG_REOPEN (R221): A write of SG_REOPEN clears CLOSED of a stream gate. -/
  | sgReopen (m : Master) (value : Word)
  /-- MTR_CLEAR (R224): A write of MTR_CLEAR clears MARK_ALL_RED of a meter. -/
  | mtrClear (m : Master) (value : Word)
  /-- FLOW_PACER_RELEASE (R229): The frame at a flow pacer's head passes to buffer admission when the pacer's tokens reach 0, and is charged. -/
  | flowPacerRelease (k : Fin 1024)
  /-- LANE_SELECT (R233): The egress island picks the winning eligible lane, charges its credit and tokens, and starts the frame's transmission. -/
  | laneSelect (port : Fin 28) (cell : CellRead)
  /-- FRAME_TRANSMIT_END (R164): A frame's transmission ends, its egress stamp is taken where requested, and its lane and cell counts are released. -/
  | frameTransmitEnd (port : Fin 28)
  /-- HURDLE_ENTRY_START (R237): A hurdle list reaches the start of its next entry; the gates change and a SET_AND_RELEASE releases the hold. -/
  | hurdleEntryStart (port : Fin 28)
  /-- HURDLE_HOLD_ISSUE (R241): HA before a SET_AND_HOLD entry, the hold is issued and the MAC preempts under R149. -/
  | hurdleHoldIssue (port : Fin 28)
  /-- CAN_FRAME_RECEIVE (R257): At its end-of-frame sample point, a frame is passed to the relay and stored in the high-priority buffer or a mailbox. -/
  | canFrameReceive (c : Fin 48) (frame : CanWire) (begun : Bool)
  /-- CAN_TX_START (R261): At a start-of-frame sample point, the controller picks a held frame and locks its attempt. -/
  | canTxStart (c : Fin 48) (delay : Nat)
  /-- CAN_TX_SUCCESS (R260): A transmit attempt succeeds at its end-of-frame sample point and its outcome and events are reported. -/
  | canTxSuccess (c : Fin 48)
  /-- CAN_ARB_LOST (R260): An attempt loses arbitration; the buffer unlocks and the frame competes again or is reported cancelled. -/
  | canArbLost (c : Fin 48)
  /-- CAN_BUS_ERROR (R253): A detected bus error updates TEC and REC and the error state, and may enter bus-off. -/
  | canBusError (c : Fin 48) (e : CanError)
  /-- BUS_OFF_END (R254): The 128th occurrence of 11 recessive bits in bus-off returns the controller to error active. -/
  | busOffEnd (c : Fin 48) (seen : Nat)
  /-- CAN_INTEGRATED (R258): After 11 recessive bits, an enabled controller takes part in the bus. -/
  | canIntegrated (c : Fin 48)
  /-- CAN_TIMING_SWITCH (R248): At the first intermission or bus-idle bit after the swap, a changed bit timing or format setting takes effect. -/
  | canTimingSwitch (c : Fin 48)
  /-- TXB_REQ (R259): Setting REQ on a host-owned buffer requests transmission of a checked frame. -/
  | txbReq (m : Master) (c : Fin 48) (b : Fin 3)
  /-- TXB_CANCEL (R268): Setting CANCEL on a host-owned buffer removes its frame, or marks a locked attempt as not to be retried. -/
  | txbCancel (m : Master) (c : Fin 48) (b : Fin 3)
  /-- TXQ_PUSH (R266): A write of TXQ_PUSH enqueues the frame in the push window into the marshalling queue and returns a handle. -/
  | txqPush (m : Master) (c : Fin 48) (value : Word)
  /-- TXQ_CANCEL (R268): A write of TXQ_CANCEL removes the frame of a handle, or is refused with CAN_HANDLE_BAD. -/
  | txqCancel (m : Master) (c : Fin 48) (value : Word)
  /-- TXEV_READ (R267): A read of TXEV returns the oldest transmit event and removes it. -/
  | txevRead (m : Master) (c : Fin 48)
  /-- CAN_LIFETIME_EXPIRY (R265): An unlocked queue-owned frame whose expiry has passed is dropped with CAN_LIFETIME. -/
  | canLifetimeExpiry (c : Fin 48)
  /-- MAILBOX_OPEN (R271): A read of RXMB_HDR or HPB_HDR copies the mailbox to the shadow, returns its header and clears NEW and LOST. -/
  | mailboxOpen (m : Master) (c : Fin 48) (i : Fin 33)
  /-- CAN_HANDOVER_REQUEST (R274): A reserve core attaches to a channel in bus monitoring with its configuration and integrates. -/
  | canHandoverRequest (c : Fin 48) (core : Fin 3)
  /-- CAN_HANDOVER_MOVE (R274): At the first suitable intermission or bus-idle bit, the error state moves between cores and CANn_TX switches. -/
  | canHandoverMove (c : Fin 48)
  /-- CAN_HANDOVER_ABANDON (R274): No suitable point within 10 ms abandons the handover, and the channel is not tested. -/
  | canHandoverAbandon (c : Fin 48)
  /-- CAN_CORE_FAILURE (R275): A serving core fails; it releases CANn_TX, a reserve core takes the channel, or the channel is scratched. -/
  | canCoreFailure (c : Fin 48)
  /-- LIN_SLOT_START (R279): A commander starts a schedule slot, sends its header and acts by the slot's type. -/
  | linSlotStart (n : Fin 12)
  /-- LIN_HEADER_RECEIVE (R280): A responder receives a header and answers, subscribes or ignores it; a parity error is counted. -/
  | linHeaderReceive (n : Fin 12) (pid : Byte) (rate : BitVec 16)
  /-- LIN_RESPONSE_END (R282): A response ends; its data is stored, or an error is counted and reported. -/
  | linResponseEnd (n : Fin 12) (bytes : List Byte) (framing : Bool) (bitError : Bool)
  /-- LIN_RESPONSE_TIMEOUT (R282): No complete response within the maximum frame time is reported as LIN_NO_RESP or LIN_INCOMPLETE. -/
  | linResponseTimeout (n : Fin 12) (started : Bool)
  /-- LIN_DATA_COMMIT (R278): A write of the second data word commits both words and sets UPDATED and NEW. -/
  | linDataCommit (m : Master) (n : Fin 12) (id : BitVec 6) (value : Word)
  /-- LIN_DATA_READ (R278): A read of the first data word latches the second word and clears NEW. -/
  | linDataRead (m : Master) (n : Fin 12) (id : BitVec 6)
  /-- LIN_WAKE_CMD (R281): LIN_CMD.WAKE sends a 1 ms dominant wake pulse. -/
  | linWakeCmd (m : Master) (n : Fin 12)
  /-- LIN_BUS_WAKE (R281): A dominant level of 250 µs to 5 ms wakes a node in SLEEP. -/
  | linBusWake (n : Fin 12) (us : Nat)
  /-- LIN_IDLE_SLEEP (R280): IDLE_SLEEP seconds of bus idle put a responder into SLEEP. -/
  | linIdleSleep (n : Fin 12)
  /-- LIN_COMMANDER_RESUME (R281): A commander that woke resumes its schedule no earlier than 100 ms after the pulse. -/
  | linCommanderResume (n : Fin 12)
  /-- LIN_HANDOVER (R276): The LIN reserve core takes a channel in bus idle, carrying the schedule position, or the handover is abandoned after 100 ms. -/
  | linHandover (n : Fin 12)
  /-- RELAY_PDU_ENQUEUE (R288): A PDU reaches RELAY and enters its input queue, or is dropped with RELAY_OVERFLOW. -/
  | relayPduEnqueue
  /-- RELAY_PDU (R291): The engine looks up the PDU's route, verifies it and builds and hands off one copy per destination record. -/
  | relayPdu (badRoute : Bool) (badRecord : Option (Fin 16))
  /-- AUTH_CEILING_COMMITTED (R304): Once the key store journal holds a new freshness ceiling, waiting generation resumes. -/
  | authCeilingCommitted
  /-- MONITOR_EXPIRY (R297): The TL replica reaches a monitor's expiry; TIMED_OUT is set and the default program runs and may send. -/
  | monitorExpiry (k : Fin 4096)
  /-- ACF_FLUSH (R301): A stream's builder flushes its frame on count, size, AGG_TIME or deadline and feeds it into CLASSIFY. -/
  | acfFlush (k : Fin 64)
  /-- ACF_DEENCAP (R302): RELAY takes an ACF frame of a receive stream, checks its header and sequence, and turns its messages into PDUs. -/
  | acfDeencap
  /-- TIME_FANOUT_UPDATE (R19): Every 1.024 µs TIME updates every replica; a replica more than 8 ns off is reloaded and raises a fanout fault. -/
  | timeFanoutUpdate (cycles : Nat) (off : List Island)
  /-- TIME_SET (R314): SET_CMD = SET loads the domain, sets VALID and steps every replica. -/
  | timeSet (m : Master) (k : Fin 4)
  /-- TIME_ADJ (R314): SET_CMD = ADJ adds a signed adjustment to the domain as a step. -/
  | timeAdj (m : Master) (k : Fin 4)
  /-- DOM_RATE_WRITE (R312): A write of DOM_RATE sets the rate while SRC = NONE, and is refused otherwise. -/
  | domRateWrite (m : Master) (k : Fin 4) (value : Word)
  /-- HOST_OFS_WRITE (R316): A write of HOST_OFS gives the servo an offset sample. -/
  | hostOfsWrite (m : Master) (k : Fin 4) (value : Word)
  /-- SERVO_HOLDOVER (R317): No sample for HOLD_TO puts a steered servo into HOLDOVER. -/
  | servoHoldover (k : Fin 4)
  /-- DUAL_COUNTER_CHECK (R318): Every 1,024th reference edge, counters A and B are compared and a disagreeing domain is made invalid. -/
  | dualCounterCheck (diffs : List (Fin 4 × Int)) (tl : Int × Int)
  /-- TIME_FRAC_READ (R313): A read of a FRAC word latches the NS and SEC words of its group for the reading master. -/
  | timeFracRead (m : Master) (g : Fin 5)
  /-- PDELAY_REQ_SEND (R330): Every 2^LOG_PDELAY s, a port sends a Pdelay_Req. -/
  | pdelayReqSend (port : Fin 24)
  /-- PDELAY_RESP_RECEIVE (R330): A Pdelay exchange completes and NRR and the link delay are computed. -/
  | pdelayRespReceive (port : Fin 24) (msg : PtpMsg)
  /-- PDELAY_TIMEOUT (R330): A Pdelay_Req with no response within 10 ms counts toward clearing PDELAY_OK. -/
  | pdelayTimeout (port : Fin 24)
  /-- PDELAY_REQ_RECEIVE (R329): The hardware responder answers a Pdelay_Req with Pdelay_Resp and Pdelay_Resp_Follow_Up. -/
  | pdelayReqReceive (port : Fin 24) (msg : PtpMsg)
  /-- SYNC_RECEIVE (R331): A Sync is received and stamped on the slave port. -/
  | syncReceive (port : Fin 24) (msg : PtpMsg)
  /-- FOLLOW_UP_RECEIVE (R331): A matching Follow_Up completes a Sync pair and yields a servo sample. -/
  | followUpReceive (port : Fin 24) (msg : PtpMsg)
  /-- SYNC_SEND (R332): Every 2^LOG_SYNC s, a master port sends a Sync and then its Follow_Up. -/
  | syncSend (port : Fin 24) (k : Fin 4)
  /-- ANNOUNCE_RECEIVE (R329): The Coach takes Announce messages and runs the best master clock algorithm for domains with BMCA_EN. -/
  | announceReceive (port : Fin 24) (msg : PtpMsg) (decision : Option BmcaResult)
  /-- PISTOL_EDGE (R333): A pistol reaches edge time t_k and starts its pulse. -/
  | pistolEdge (p : Fin 16)
  /-- PISTOL_PULSE_END (R333): A pistol pulse ends after WIDTH ns. -/
  | pistolPulseEnd (p : Fin 16)
  /-- CAPTURE_EDGE (R337): A capture input edge is stamped into the FIFO and may feed the servo. -/
  | captureEdge (i : Fin 8) (rising : Bool)
  /-- CAP_TS_POP (R337): A read of CAP_TS_NS pops the oldest capture stamp. -/
  | capTsPop (m : Master) (i : Fin 8)
  /-- CTS_SYNC_PERIOD (R339): Every PERIOD ms, a master sync slot pushes a SYNC into its channel's marshalling queue. -/
  | ctsSyncPeriod (i : Fin 8)
  /-- CTS_SYNC_RECEIVE (R339): A slave slot records the SOF stamp and seconds of a received SYNC. -/
  | ctsSyncReceive (i : Fin 8) (frame : CanWire) (sofNs : Nat)
  /-- CTS_FUP_RECEIVE (R339): A FUP completes the pair and yields a sample, or is discarded and counted in CTS_LOST. -/
  | ctsFupReceive (i : Fin 8) (frame : CanWire)
  /-- TT_WINDOW_OPEN (R341): A time-triggered window opens and its buffer may compete. -/
  | ttWindowOpen (c : Fin 48) (j : Fin 16)
  /-- TT_WINDOW_CLOSE (R341): A window closes; a frame still requested counts TT_MISSED. -/
  | ttWindowClose (c : Fin 48)
  /-- CONTRACT_STATE_UPDATE (R365): Within 10 µs of a condition change, the referee sets each contract's state and logs changes. -/
  | contractStateUpdate
  /-- BRG_FENCE_READ (R373): A fence read waits for the function's outstanding posted writes and returns, and clears, its failure count. -/
  | brgFenceRead (m : Master) (fn : Fin 11)
  /-- PERR_POP (R372): A write of PERR_POP removes the oldest posted-error log entry. -/
  | perrPop (m : Master) (k : Fin 2) (value : Word)
  /-- BRG_LINK_CHANGE (R370): A PCIe link trains or goes down, and LINK_CHANGE is raised. -/
  | brgLinkChange (k : Fin 2) (up : Bool) (stat : BitVec 13)
  /-- RING_ENABLE (R381): RING_CFG.EN from 0 to 1 resets HEAD and TAIL and activates the ring. -/
  | ringEnable (m : Master) (fn : Fin 11) (r : Fin 32) (value : Word)
  /-- RING_DISABLE (R382): RING_CFG.EN from 1 to 0 stops the ring at the next frame boundary and drops its queued frames. -/
  | ringDisable (m : Master) (fn : Fin 11) (r : Fin 32) (value : Word)
  /-- RING_TAIL_WRITE (R381): A write of RING_TAIL posts descriptors, or is refused with RING_CFG_BAD. -/
  | ringTailWrite (m : Master) (fn : Fin 11) (r : Fin 32) (value : Word)
  /-- DESC_FETCH (R383): The device prefetches descriptors; a bad one stops the ring with DESC_BAD. -/
  | descFetch (fn : Fin 11) (r : Fin 32) (descs : List (BitVec 256))
  /-- RX_COPY_WRITE (R384): DMA writes a queued host or logger copy into posted buffers and writes back its descriptors. -/
  | rxCopyWrite (fn : Fin 11) (r : Fin 32)
  /-- RING_WAIT_EXPIRY (R385): RING_WAIT passes with no descriptor; the frame is dropped with RING_EMPTY or abandoned. -/
  | ringWaitExpiry (fn : Fin 11) (r : Fin 32)
  /-- TX_FRAME_ENTER (R386): A frame or PDU from a transmit ring enters CLASSIFY or the relay engine. -/
  | txFrameEnter (data : List Byte)
  /-- TX_WRITEBACK (R387): A transmit descriptor is written back on admission or on its egress stamp. -/
  | txWriteback (fn : Fin 11) (r : Fin 32)
  /-- TS_LOST_TIMEOUT (R387): A frame with no egress stamp within 100 ms is written back with TS_LOST. -/
  | tsLostTimeout (fn : Fin 11) (r : Fin 32)
  /-- RING_IRQ_MOD_TIME (R388): MOD_TIME after the first unsignalled completion, the ring's event bit is set. -/
  | ringIrqModTime (fn : Fin 11) (r : Fin 32)
  /-- OUTBOUND_READ_ERROR (R380): An outbound read that fails or times out stops its ring with DMA_READ_ERR. -/
  | outboundReadError (fn : Fin 11) (r : Fin 32)
  /-- FUNCTION_LEVEL_RESET (R389): A Function Level Reset discards the function's ring work and resets its ring registers and MSI-X table. -/
  | functionLevelReset (fn : Fin 11)
  /-- PCIE_HOT_RESET (R389): A hot reset or link down discards ring work of the link's functions and resets their ring registers. -/
  | pcieHotReset (e : LinkEvent)
  /-- LOG_RECORD_WRITE (R392): A record reaching LOG-P1 is written into the FILLING bank, switching banks or lost where needed. -/
  | logRecordWrite
  /-- LOG_SWITCH_TIMER (R393): SWITCH_TIME after its first record, a FILLING bank closes and the other bank becomes FILLING. -/
  | logSwitchTimer
  /-- LOG_CMD_REWIND (R396): LOG_CMD.REWIND moves the read position to the split mark. -/
  | logCmdRewind (m : Master)
  /-- LOG_CMD_MARK (R396): LOG_CMD.MARK sets the split mark at the read position. -/
  | logCmdMark (m : Master)
  /-- LOG_CMD_RELEASE (R396): LOG_CMD.RELEASE moves the release point to the split mark and frees banks behind it. -/
  | logCmdRelease (m : Master)
  /-- LOG_CMD_SWITCH (R393): LOG_CMD.SWITCH closes the FILLING bank where the other bank is FREE. -/
  | logCmdSwitch (m : Master)
  /-- LOG_PORT_READ (R395): A read of the logbook port returns the next stream bytes, advances the read position and may underrun. -/
  | logPortRead (n : Nat)
  /-- KEY_LOAD (R402): WRITE_DIRECT to PART KEY loads key bytes into the master's load buffer. -/
  | keyLoad (m : Master)
  /-- SALT_LOAD (R402): WRITE_DIRECT to PART SALT loads salt bytes into the load buffer. -/
  | saltLoad (m : Master)
  /-- ATTR_COMMIT (R403): WRITE_DIRECT to PART ATTR commits key, salt and attributes to the slot, journaling a persistent slot first. -/
  | attrCommit (m : Master)
  /-- KEY_DERIVE (R406): KEY_CMD DERIVE computes a child key from a parent slot by HMAC-SHA-384. -/
  | keyDerive (m : Master) (value : Word)
  /-- KEY_GENERATE (R405): KEY_CMD GENERATE fills a slot with random bits and the commanded attributes. -/
  | keyGenerate (m : Master) (value : Word)
  /-- KEY_INVALIDATE (R405): KEY_CMD INVALIDATE empties a slot and zeroes its key and salt. -/
  | keyInvalidate (m : Master) (value : Word)
  /-- ORPHAN_WIPE (R407): At its next idle point, an orphaned slot is wiped and counted in KEY_WIPES. -/
  | orphanWipe (n : Fin 256)
  /-- NVM_WRITE_DONE (R409): A record write commits and the object's new value becomes live. -/
  | nvmWriteDone
  /-- NVM_VERIFY_FAIL (R410): A program-verify failure substitutes the reserve bank and repeats the write, or gives NVM_FAIL. -/
  | nvmVerifyFail
  /-- ATT_GO (R415): ATT_CMD.GO starts building and signing an attestation statement, or is refused. -/
  | attGo (m : Master) (value : Word)
  /-- ATT_DONE (R413): The signed statement is in ATT_OUT and DONE is set. -/
  | attDone
  /-- DRBG_FAIL (R417): A noise-source health test fails; consumers are refused with DRBG_FAIL. -/
  | drbgFail
  /-- DRBG_RESTART (R417): 1 s after a failure, the noise source restarts; a third failure scratches it and the reserve source takes over. -/
  | drbgRestart (ok : Bool)
  /-- DRBG_OUT_READ (R417): A read of DRBG_OUT consumes 32 random bits, reseeding first where PR is set. -/
  | drbgOutRead (m : Master)
  /-- LC_REQ (R418): A life-cycle request wipes what its transition names and blows its fuse row, or is refused. -/
  | lcReq (m : Master) (value : Word)
  /-- LC_ROLLBACK_ADVANCE (R421): LC_ROLLBACK_CMD.ADVANCE blows fuses to raise the rollback counter to SECVER. -/
  | lcRollbackAdvance (m : Master) (value : Word)
  /-- LAP_START (R429): LAP_PERIOD after the last lap start, or on return to an allowed mode, a self-test lap starts. -/
  | lapStart
  /-- ST_START_LAP (R429): ST_CMD START_LAP starts a lap now. -/
  | stStartLap (m : Master)
  /-- ST_STOP_LAP (R430): ST_CMD STOP_LAP ends the lap with the test slice in progress INCOMPLETE. -/
  | stStopLap (m : Master)
  /-- ST_TEST_UNIT (R427): ST_CMD TEST_UNIT tests one unit behind its reserve. -/
  | stTestUnit (m : Master) (unit : BitVec 16)
  /-- ST_FULL_BIST (R443): ST_CMD FULL_BIST runs every test slice of every unit in MAINTAIN. -/
  | stFullBist (m : Master)
  /-- FULL_BIST_DONE (R443): Full BIST ends and each unit's result is recorded. -/
  | fullBistDone (results : List UnitRun)
  /-- ST_HARD_REPAIR (R438): ST_CMD HARD_REPAIR powers all domains, runs BIST, programs repair fuses and clears scratches. -/
  | stHardRepair (m : Master)
  /-- HARD_REPAIR_DONE (R438): Hard repair completes and REPAIR_DONE is raised. -/
  | hardRepairDone (failures : List MemFailure) (results : List UnitRun)
  /-- TEST_SLICE_END (R430): A test slice ends and its result is judged PASS, FAIL or INCOMPLETE, with one retry of a FAIL. -/
  | testSliceEnd (run : SliceRun)
  /-- MACSEC_HANDOVER (R432): The reserve MACsec engine attaches to a port and takes every frame from the next frame boundary. -/
  | macsecHandover (port : Fin 28)
  /-- MACSEC_ENGINE_RELEASE (R432): The old engine is released once it holds no frame. -/
  | macsecEngineRelease
  /-- UNIT_FAIL_DURING_TEST (R433): A unit fails while its only reserve serves a unit under test; the test ends and the reserve is freed for it. -/
  | unitFailDuringTest (unit : BitVec 16)
  /-- MACSEC_ENGINE_FAILURE (R440): A MACsec engine fails; the reserve takes over, or protected traffic drops with MACSEC_ENGINE_LOST. -/
  | macsecEngineFailure (port : Fin 28)
  /-- MB_LOG_POP (R437): A read of MB_LOG0 pops the oldest memory failure entry and latches its address. -/
  | mbLogPop (m : Master)
  /-- WK_CFG_WRITE (R446): A write that enables an input or changes POL or ROLE reloads LEVEL without a report and restarts its timers. -/
  | wkCfgWrite (m : Master) (n : Fin 16) (value : Word)
  /-- WAKE_RAW_CHANGE (R446): A filtered wake input changes RAW, starting its debounce and counting toward chatter. -/
  | wakeRawChange (n : Fin 16) (ball : Bool)
  /-- WAKE_DEBOUNCE_EXPIRY (R446): RAW held for DEBOUNCE changes LEVEL and reports EDGE, moving the activation line or waking from REST. -/
  | wakeDebounceExpiry (n : Fin 16)
  /-- WAKE_HOLDOFF_END (R448): The chatter hold-off ends and LEVEL is reloaded without a report. -/
  | wakeHoldoffEnd (n : Fin 16)
  /-- WAKE_STUCK (R449): LEVEL active for STUCK_TIME disarms the input. -/
  | wakeStuck (n : Fin 16)
  /-- PN_WUP (R452): A partial-network filter sees a wake-up pattern on CANn_RX. -/
  | pnWup (c : Fin 48)
  /-- PN_WUF (R452): A filter decodes a matching wake frame at its CRC delimiter. -/
  | pnWuf (c : Fin 48) (ide : Bool) (id : BitVec 29) (dlc : BitVec 4) (data : List Byte)
  /-- PN_FRAME_ERROR (R453): A decoded frame error increments the frame error counter, which may wake on overflow. -/
  | pnFrameError (c : Fin 48) (fd : Bool)
  /-- T1S_WAKE_SIGNAL (R454): 300 µs of line activity on a T1S segment in REST is a wake signal. -/
  | t1sWakeSignal (i : Fin 4)
  /-- REST_JOURNAL_DONE (R458): The journal queue empties and the REST entry commits, with DEV_MODE showing REST. -/
  | restJournalDone
  /-- REST_DOMAINS_OFF (R458): PD3–PD15 are isolated and switched off, PLLs stop and TIME moves to the reference. -/
  | restDomainsOff
  /-- REST_PWR_REQ_LOW (R74): PWR_REQ falls at the last step of REST entry. -/
  | restPwrReqLow
  /-- WAKE_EVENT (R460): A wake event in REST records its cause and raises PWR_REQ. -/
  | wakeEvent (src : WakeSource)
  /-- REST_EXIT_PG_SAMPLE (R460): The first AON cycle with PG_MAIN or PG_BAK high starts the boot from the PLL lock step. -/
  | restExitPgSample (pgMain : Bool) (pgBak : Bool)
  /-- PG_WAIT_EXPIRY (R460): No PG rise within PG_WAIT drops PWR_REQ, raises NO_POWER and rearms the sources. -/
  | pgWaitExpiry
  /-- PHY_WAKE_OUT_END (R447): The 1 ms PHY_WAKE_OUT pulse ends. -/
  | phyWakeOutEnd (n : Fin 16)
  /-- FAULT_N_RELEASE (R467): FAULT_N is released after the last condition ends and the 1 ms minimum has passed. -/
  | faultNRelease
  /-- FAULT_FORCE (R467): FAULT_CTRL.FORCE asserts FAULT_N for board test. -/
  | faultForce (m : Master) (value : Word)
  /-- COACH_LOCKSTEP (R471): A Coach lockstep mismatch holds both cores until the watchdog's warm reset. -/
  | coachLockstep
  /-- FABRIC_ERR (R473): A fabric link parity error ends the transfer that carries it. -/
  | fabricErr (victim : FabricVictim)
  /-- SPEED_MISMATCH (R136): The PHY reports in its in-band control word a speed that differs from SPEED; the port sets SPEED_MISMATCH, holds LINK at 0 and raises SPEED_MISMATCH. -/
  | speedMismatch (port : Fin 28) (speed : Fin 8)
  /-- TAMPER_END (R34): A tamper source becomes inactive and DEV_MODE.TAMPER clears, which allows QUAR_CLEAR to be accepted again. -/
  | tamperEnd
  /-- DROOP_END (R83): All droop sensors rise above the threshold + 10 mV, ending the TRIM_DROOP cause and starting the TRIM_HOLD interval; above 0.680 V the DROOP_CRIT fault condition also ends. -/
  | droopEnd (clear : Bool)
  /-- TS_GAP_EXPIRY (R426): TS_GAP after a test slice ends, the next test slice of the unit under test starts. -/
  | tsGapExpiry
  /-- CSMA_COLLISION (R159): A collision on a 10BASE-T1S segment under CSMA/CD is counted, and the frame backs off and is retried or dropped with MAC_EXCESS_COLL after 16 attempts. -/
  | csmaCollision (i : Fin 4)
  /-- IN_TEST_STALL_END (R111): An access stalled at a page with IN_TEST = 1 completes against the preserved configuration state within 40 µs, releasing later posted writes of its bridge. -/
  | inTestStallEnd (k : Fin 2)
  deriving DecidableEq, Repr

end Sys2Proof
end

