-- ==== Sys2Proof/Decode.lean ====
section
/-! DEFINITION. Commands spelled by words. spec/opcode_table.json gives no row any bits: commands reach the device as accesses to its
register window and as events, so no word spells one. -/

namespace Sys2Proof

/-- The command that a word of the opcode table's bits spells: none, since the table gives no row bits. -/
def decodeTableWord (_nbits _w : Nat) : Option Instr := none

end Sys2Proof
end

