-- ==== Sys2Proof/Machine/Bits.lean ====
section
/-! DEFINITION. Bit fields, sign extension and byte order: the helpers by which words, table entries and frames are taken
apart and put together. -/

namespace Sys2Proof.Machine

/-- Bits `hi` down to `lo` of a number. -/
def bits (n hi lo : Nat) : Nat := n / 2 ^ lo % 2 ^ (hi + 1 - lo)

/-- Bit `i` of a number. -/
def bit (n i : Nat) : Bool := n / 2 ^ i % 2 == 1

/-- A Bool as a bit. -/
def b2n (b : Bool) : Nat := if b then 1 else 0

/-- The word with ones in bits `hi` down to `lo`. -/
def maskW (hi lo : Nat) : Word := BitVec.ofNat 32 ((2 ^ (hi + 1 - lo) - 1) * 2 ^ lo)

/-- Bits `hi` down to `lo` of a word. -/
def getBits (w : Word) (hi lo : Nat) : Nat := bits w.toNat hi lo

/-- A word with `x` put into bits `hi` down to `lo`, the other bits kept. -/
def setBits (w : Word) (hi lo x : Nat) : Word :=
  (w &&& ~~~ maskW hi lo) ||| (BitVec.ofNat 32 (x * 2 ^ lo) &&& maskW hi lo)

/-- Bits `hi` down to `lo` of a table entry. -/
def eBits (e : Entry) (hi lo : Nat) : Nat := bits e.toNat hi lo

/-- Bit `i` of a table entry. -/
def eBit (e : Entry) (i : Nat) : Bool := bit e.toNat i

/-- DATA word `k` of a table entry (DATA0 lowest). -/
def eWord (e : Entry) (k : Nat) : Word := BitVec.ofNat 32 (e.toNat / 2 ^ (32 * k))

/-- A table entry from eight words. -/
def eOfWords (w : Nat → Word) : Entry :=
  BitVec.ofNat 256 ((List.range 8).foldl (fun a k => a + (w k).toNat * 2 ^ (32 * k)) 0)

/-- A table entry with `x` put into bits `hi` down to `lo`. -/
def eSet (e : Entry) (hi lo x : Nat) : Entry :=
  let m : Entry := BitVec.ofNat 256 ((2 ^ (hi + 1 - lo) - 1) * 2 ^ lo)
  (e &&& ~~~ m) ||| (BitVec.ofNat 256 (x * 2 ^ lo) &&& m)

/-- The signed number that the low `n` bits of `x` spell in two's complement. -/
def signed (x n : Nat) : Int :=
  let y := x % 2 ^ n
  if y < 2 ^ (n - 1) then (y : Int) else (y : Int) - (2 ^ n : Nat)

/-- The `n`-bit two's complement pattern of an integer. -/
def unsigned (x : Int) (n : Nat) : Nat := (x % (2 ^ n : Nat)).toNat

/-- `n` bytes of a number, least significant first. -/
def leBytes (x n : Nat) : List Byte := (List.range n).map fun k => BitVec.ofNat 8 (x / 2 ^ (8 * k))

/-- `n` bytes of a number, most significant first. -/
def beBytes (x n : Nat) : List Byte := (leBytes x n).reverse

/-- The number that bytes spell, most significant first. -/
def beNat (l : List Byte) : Nat := l.foldl (fun a b => a * 256 + b.toNat) 0

/-- The number that bytes spell, least significant first. -/
def leNat (l : List Byte) : Nat := l.foldr (fun b a => b.toNat + 256 * a) 0

/-- Byte `k` of a list of bytes, 0 beyond its end. -/
def byteAt (l : List Byte) (k : Nat) : Nat := (l.getD k 0).toNat

/-- `n` bytes from offset `k`, as a number, most significant first. -/
def beAt (l : List Byte) (k n : Nat) : Nat := beNat ((l.drop k).take n)

/-- Put `b` at offset `k` of a list of bytes. -/
def putBytes (l : List Byte) (k : Nat) (b : List Byte) : List Byte :=
  l.take k ++ b ++ l.drop (k + b.length)

/-- Zeros after a list up to length `n`. -/
def padTo (l : List Byte) (n : Nat) : List Byte := l ++ List.replicate (n - l.length) 0

/-- The smaller of `x + 1` and the largest value of `n` bits: a saturating count. -/
def satInc (x n : Nat) : Nat := if x + 1 < 2 ^ n then x + 1 else 2 ^ n - 1

/-- The quotient rounded up. -/
def ceilDiv (a b : Nat) : Nat := if b == 0 then 0 else (a + b - 1) / b

end Sys2Proof.Machine
end

