-- ==== Sys2Proof/Machine/Codes.lean ====
section
/-! DEFINITION. The reason codes of the device: the table of R474, in its order. -/

namespace Sys2Proof.Machine.Code

def ACCESS_ALIGN : Nat := 0x0101
def PAGE_UNMAPPED : Nat := 0x0102
def PAGE_LOCKED : Nat := 0x0103
def PAGE_UNPOWERED : Nat := 0x0104
def PAGE_SCRATCHED : Nat := 0x0105
def TBL_BUSY : Nat := 0x0106
def TBL_OWNER : Nat := 0x0107
def TBL_BAD_CMD : Nat := 0x0108
def TBL_ABORTED : Nat := 0x0109
def RING_EMPTY : Nat := 0x0110
def RING_ABANDONED : Nat := 0x0111
def HOSTQ_FULL : Nat := 0x0112
def RING_DISABLED : Nat := 0x0113
def DESC_BAD : Nat := 0x0114
def DMA_READ_ERR : Nat := 0x0115
def RING_BUSY : Nat := 0x0119
def RING_CFG_BAD : Nat := 0x011A
def TS_LOST : Nat := 0x011D
def FABRIC_ERR : Nat := 0x0120
def VLAN_UNKNOWN : Nat := 0x0201
def VLAN_INGRESS : Nat := 0x0202
def FRAME_TYPE : Nat := 0x0203
def UNKNOWN_UC : Nat := 0x0204
def SAME_PORT : Nat := 0x0205
def ROUTE_MISS : Nat := 0x0206
def TTL_EXPIRED : Nat := 0x0207
def NULL_ROUTE : Nat := 0x0208
def LOOKUP_PARITY : Nat := 0x0209
def SA_STATIC : Nat := 0x020A
def MIRROR_DROP : Nat := 0x020B
def DA_DROP : Nat := 0x020C
def IP_HEADER : Nat := 0x020D
def VLAN_EGRESS : Nat := 0x020E
def SLICE_LOST : Nat := 0x020F
def L2_NOT_FOUND : Nat := 0x0210
def L2_NO_SLOT : Nat := 0x0211
def L2_KEY_STATIC : Nat := 0x0212
def TRIE_BAD_CHILD : Nat := 0x0213
def FWD_SEED_LOCKED : Nat := 0x0214
def SHADOW_MISMATCH : Nat := 0x0215
def MAC_FLAP : Nat := 0x0216
def L2_STATIC_LIMIT : Nat := 0x0217
def MAC_FCS : Nat := 0x0240
def MAC_UNDERSIZE : Nat := 0x0241
def MAC_OVERSIZE : Nat := 0x0242
def PORT_DOWN : Nat := 0x0243
def MM_ASSEMBLY : Nat := 0x0244
def MAC_EXCESS_COLL : Nat := 0x0246
def MDIO_BUSY : Nat := 0x0247
def SF_UNMATCHED : Nat := 0x0301
def SF_MAX_SDU : Nat := 0x0302
def SF_BLOCKED : Nat := 0x0303
def SGATE_CLOSED : Nat := 0x0304
def SGATE_OCTETS : Nat := 0x0305
def METER_RED : Nat := 0x0306
def METER_YELLOW : Nat := 0x0307
def LANE_FULL : Nat := 0x0310
def BUFFER_FULL : Nat := 0x0311
def FLOW_FULL : Nat := 0x0312
def GATE_TOO_LONG : Nat := 0x0313
def PKTBUF_ECC : Nat := 0x0314
def CAN_LIFETIME : Nat := 0x0401
def CAN_QUEUE_FULL : Nat := 0x0402
def CAN_FORMAT : Nat := 0x0403
def CAN_CHANNEL_LOST : Nat := 0x0404
def CAN_TXB_BAD : Nat := 0x0405
def CAN_HANDLE_BAD : Nat := 0x0406
def CAN_DISABLED : Nat := 0x0407
def LIN_NO_RESP : Nat := 0x0420
def LIN_CHECKSUM : Nat := 0x0421
def LIN_PARITY : Nat := 0x0422
def LIN_FRAMING : Nat := 0x0423
def LIN_BIT : Nat := 0x0424
def LIN_INCOMPLETE : Nat := 0x0425
def RELAY_OVERFLOW : Nat := 0x0501
def RELAY_TOO_LONG : Nat := 0x0502
def RELAY_FORMAT : Nat := 0x0503
def RELAY_DEADLINE : Nat := 0x0504
def RELAY_PARITY : Nat := 0x0505
def RELAY_HOST_FULL : Nat := 0x0506
def AUTH_FAIL : Nat := 0x0507
def AUTH_FRESHNESS : Nat := 0x0508
def AUTH_KEY : Nat := 0x0509
def AUTH_COUNTER_END : Nat := 0x050A
def ACF_HEADER : Nat := 0x050B
def ACF_LENGTH : Nat := 0x050C
def ACF_TOO_LONG : Nat := 0x050D
def RT_NO_SLOT : Nat := 0x050E
def RT_NOT_FOUND : Nat := 0x050F
def TIME_NS_RANGE : Nat := 0x0601
def TIME_FANOUT : Nat := 0x0602
def TIME_CFG_BAD : Nat := 0x0603
def TIME_SERVO_OWNS : Nat := 0x0604
def TIME_DUAL : Nat := 0x0606
def TIME_TL_VOTE : Nat := 0x0607
def PTP_BAD_MSG : Nat := 0x0608
def CTS_FUP_LOST : Nat := 0x060A
def PST_LATE : Nat := 0x060B
def CONTRACT_VIOLATED : Nat := 0x0701
def CONTRACT_BAD : Nat := 0x0702
def PATH_UNDEFINED : Nat := 0x0703
def LANE_UNBOUNDED : Nat := 0x0704
def OVERLOAD : Nat := 0x0705
def CONTRACT_NO_FIT : Nat := 0x0706
def BUS_UNDECLARED : Nat := 0x0707
def PORT_UNBOUNDED : Nat := 0x0708
def CAN_ORDER : Nat := 0x0709
def SHAPER_OVH : Nat := 0x070A
def FALSE_START : Nat := 0x0710
def GATE_LIST_BAD : Nat := 0x0711
def SHAPER_KEEP : Nat := 0x0712
def SHAPER_BAD : Nat := 0x0713
def BUF_GUAR : Nat := 0x0714
def HEAT_BUSY : Nat := 0x0720
def HEAT_TAG_BAD : Nat := 0x0721
def HEAT_ARM_FULL : Nat := 0x0722
def HEAT_TOO_SOON : Nat := 0x0723
def HEAT_SPACING : Nat := 0x0724
def HEAT_ORDER : Nat := 0x0725
def HEAT_DOMAIN_MIX : Nat := 0x0726
def HEAT_TOO_LARGE : Nat := 0x0727
def HEAT_STORE_FULL : Nat := 0x0728
def HEAT_NO_CYCLE : Nat := 0x0729
def HEAT_ABORT_LATE : Nat := 0x072A
def HEAT_UNKNOWN_TAG : Nat := 0x072B
def EPOCH_STALE : Nat := 0x072C
def HEAT_PORT_MODE : Nat := 0x072D
def HEAT_CAN_TIMING : Nat := 0x072E
def HEAT_LIN_SCHED : Nat := 0x072F
def HEAT_RELAY_BAD : Nat := 0x0730
def HEAT_TIME_BAD : Nat := 0x0731
def HEAT_ACT_BAD : Nat := 0x0732
def KEY_EMPTY : Nat := 0x0801
def KEY_USAGE : Nat := 0x0802
def KEY_MASTER : Nat := 0x0803
def KEY_WORLD : Nat := 0x0804
def KEY_LIFECYCLE : Nat := 0x0805
def ORPHANED : Nat := 0x0806
def KEY_WRITER : Nat := 0x0807
def KEY_RESERVED_SLOT : Nat := 0x0808
def KEYSTORE_CONFLICT : Nat := 0x0809
def UPDATE_LOST : Nat := 0x080A
def KEY_BUSY : Nat := 0x080B
def NVM_FAIL : Nat := 0x080C
def KDF_DEPTH : Nat := 0x080D
def ATTEST_BUSY : Nat := 0x080E
def DRBG_FAIL : Nat := 0x080F
def LC_REFUSED : Nat := 0x0810
def LC_TOKEN_BAD : Nat := 0x0811
def KEY_NOT_LOADED : Nat := 0x0812
def KEY_PERSIST_SLOT : Nat := 0x0813
def MACSEC_INVALID : Nat := 0x0840
def MACSEC_NO_SA : Nat := 0x0841
def MACSEC_LATE : Nat := 0x0842
def MACSEC_NO_TAG : Nat := 0x0843
def MACSEC_PN_EXHAUSTED : Nat := 0x0844
def MACSEC_TOO_LONG : Nat := 0x0845
def MACSEC_ENGINE_LOST : Nat := 0x0846
def ST_BUSY : Nat := 0x0901
def ST_MODE : Nat := 0x0902
def ST_NO_RESERVE : Nat := 0x0903
def UNIT_FAILED : Nat := 0x0904
def MBIST_FAIL : Nat := 0x0905
def REPAIR_FUSE_FULL : Nat := 0x0908
def ST_UNIT_BAD : Nat := 0x0909
def MODE_REQ_DENIED : Nat := 0x0A01
def REST_IN_DIAGNOSE : Nat := 0x0A02
def MAINTAIN_FORBIDDEN : Nat := 0x0A03
def REPAIR_IN_QUARANTINE : Nat := 0x0A04
def HEAT_IN_QUARANTINE : Nat := 0x0A05
def HEAT_IN_MAINTAIN : Nat := 0x0A06
def HEAT_IN_BLANK : Nat := 0x0A07
def QUAR_CLEAR_REFUSED : Nat := 0x0A08
def SHED_DOMAIN : Nat := 0x0A10
def QUARANTINE_BLOCKED : Nat := 0x0A11
def KEY_UNUSABLE : Nat := 0x0A12
def DIAG_ONLY : Nat := 0x0A13
def NOT_RUNNING : Nat := 0x0A14
def LEAN_BUDGET : Nat := 0x0A20
def LEAN_CFG_BUSY : Nat := 0x0A21
def BOOT_NO_IMAGE : Nat := 0x0A22
def BOOT_SIG_FAIL : Nat := 0x0A23
def BOOT_ROLLBACK : Nat := 0x0A24
def BOOT_WRONG_KIND : Nat := 0x0A25
def BOOT_P0_TIMEOUT : Nat := 0x0A26
def PLL_FAIL : Nat := 0x0A27
def REFCLK_LOST : Nat := 0x0A28
def DROOP_CRIT : Nat := 0x0A29
def THERM_CRIT : Nat := 0x0A2A
def REST_NO_WAKE : Nat := 0x0A30
def WAKE_NO_POWER : Nat := 0x0A31
def WAKE_STUCK : Nat := 0x0A32
def WAKE_CHATTER : Nat := 0x0A33
def WAKE_CFG_BAD : Nat := 0x0A34
def REST_ENTRY : Nat := 0x0A35
def COACH_LOCKSTEP : Nat := 0x0A40
def MEASURE_MISMATCH : Nat := 0x0A41
def TAMPER : Nat := 0x0A42

end Sys2Proof.Machine.Code
end

