-- ==== Sys2Proof/Machine/Map.lean ====
section
/-! DEFINITION. The operations of the sparse map: look up, put, remove. A map written only through them has its keys strictly
rising (`SMap.wf`), so that equal contents are equal data. -/

namespace Sys2Proof.Machine

/-- The value at key `k`. -/
def mget {α : Type} (m : SMap α) (k : Nat) : Option α :=
  match m with
  | [] => none
  | (j, v) :: t => if j = k then some v else mget t k

/-- Put a pair before the first larger key. -/
def minsert {α : Type} (m : SMap α) (k : Nat) (v : α) : SMap α :=
  match m with
  | [] => [(k, v)]
  | (j, w) :: t => if k < j then (k, v) :: (j, w) :: t else (j, w) :: minsert t k v

/-- Remove key `k`. -/
def mdel {α : Type} (m : SMap α) (k : Nat) : SMap α := m.filter fun e => e.1 != k

/-- Put value `v` at key `k`, in place of what was there. -/
def mset {α : Type} (m : SMap α) (k : Nat) (v : α) : SMap α := minsert (mdel m k) k v

/-- Keep the pairs whose key satisfies `q`. -/
def mkeep {α : Type} (m : SMap α) (q : Nat → Bool) : SMap α := m.filter fun e => q e.1

/-- The canonical form: keys strictly rising. -/
def SMap.wf {α : Type} (m : SMap α) : Prop := m.Pairwise fun a b => a.1 < b.1

end Sys2Proof.Machine
end

