-- ==== Sys2Proof/Machine/RegMap.lean ====
section
/-! DEFINITION. The register map: for every page that a chapter of the spec describes, its registers, their fields,
the access code of each field (R104) and its reset value, and a name (offset, bit range) for every field. The
page map is R113; the registers of each page are those of the chapter named in the comment before its list. -/

namespace Sys2Proof.Machine

/-- The access codes of the table before R105. -/
inductive Acc where
  | rw | ro | rov | w1c | w1s | wo | rc | rws
  deriving DecidableEq, Repr

/-- One field of a register: bits `hi` down to `lo`, access code, reset value of the field. -/
structure RField where
  hi : Nat
  lo : Nat
  acc : Acc
  reset : Nat
  deriving DecidableEq, Repr

/-- A register, or an array of `count` registers `stride` bytes apart, first at page offset `base`. -/
structure RSpec where
  base : Nat
  stride : Nat
  count : Nat
  name : String
  fields : Nat → List RField

/-- The place of a field inside its page. -/
structure Fld where
  off : Nat
  hi : Nat
  lo : Nat
  deriving DecidableEq, Repr

/-- The last mapped page is 0x1FF; the gaps are those named under R113. -/
def mapped (p : Nat) : Bool :=
  p < 0x200 && !(0x05C ≤ p && p ≤ 0x05F) && !(0x132 ≤ p && p ≤ 0x13F) && !(0x14D ≤ p && p ≤ 0x14F)

/-- The first page of the range that holds page `p`, and the TYPE of that range (R113). -/
def pageRange (p : Nat) : Nat × Nat :=
  if p == 0 then (0, 0x0001) else if p < 0x010 then (0x001, 0x0002) else if p == 0x010 then (0x010, 0x0003)
  else if p < 0x020 then (0x011, 0x0004) else if p < 0x040 then (0x020, 0x0010)
  else if p < 0x060 then (0x040, 0x0020) else if p < 0x080 then (0x060, 0x0021)
  else if p < 0x0C0 then (0x080, 0x0030) else if p < 0x100 then (0x0C0, 0x0031)
  else if p < 0x130 then (0x100, 0x0040) else if p < 0x140 then (0x130, 0x0041)
  else if p < 0x150 then (0x140, 0x0042) else if p < 0x180 then (0x150, 0x0050)
  else if p < 0x1A0 then (0x180, 0x0060) else if p < 0x1C0 then (0x1A0, 0x0070)
  else if p < 0x1D0 then (0x1C0, 0x0090) else if p < 0x1E0 then (0x1D0, 0x00A0)
  else if p < 0x1F0 then (0x1E0, 0x00B0) else (0x1F0, 0x00C0)

def pageType (p : Nat) : Nat := (pageRange p).2
def pageInstance (p : Nat) : Nat := p - (pageRange p).1

/-- The power domain of Ethernet port `n` (R80). -/
def portDomain (n : Nat) : Nat := if n < 14 then 9 else if n < 24 then 10 else 11

/-- The power domain of page `p` (R113, R80). Pages 0x080 to 0x09A reach the slices; which slices power them is said by
`pagePowered`. -/
def pageDomain (p : Nat) : Nat :=
  if p < 0x010 then 0 else if p < 0x020 then 3 else if p < 0x040 then 4
  else if p < 0x060 then portDomain (p - 0x040)
  else if p < 0x078 then portDomain (p - 0x060) else if p < 0x07C then 11 else if p < 0x080 then 3
  else if p < 0x098 then 5 else if p < 0x09B then p - 0x098 + 5 else if p < 0x0C0 then 5
  else if p == 0x0C5 then 10 else if p < 0x0C8 then 8
  else if p < 0x0E4 then portDomain (p - 0x0C8) else if p < 0x100 then 8
  else if p < 0x118 then 12 else if p < 0x140 then 13 else if p < 0x150 then 14
  else if p < 0x180 then 12 else if p < 0x1A0 then 1 else if p < 0x1A8 then 2 else if p < 0x1C0 then 15
  else if p < 0x1D0 then 3 else if p < 0x1E0 then 0 else if p < 0x1F0 then 3 else 4

/-- The pages that have a table port; all of them have it at offset 0x040 (R167, R215, R284, R344, R399, R423, the LIN and
time chapters). -/
def hasTable (p : Nat) : Bool :=
  p == 0x012 || p == 0x013 || (0x088 ≤ p && p ≤ 0x08E) || p == 0x090 || p == 0x091 || (0x0C0 ≤ p && p ≤ 0x0C3) || p == 0x0C5
  || (0x0C8 ≤ p && p ≤ 0x0E3) || (0x140 ≤ p && p ≤ 0x14B) || (0x151 ≤ p && p ≤ 0x157) || p == 0x18F
  || p == 0x1A1 || (0x1A8 ≤ p && p ≤ 0x1AE) || p == 0x1B0 || p == 0x1C1

/-- The pages whose table port accepts WRITE_DIRECT. -/
def tableDirect (p : Nat) : Bool :=
  p == 0x090 || p == 0x091 || p == 0x155 || p == 0x1A1 || (0x1A8 ≤ p && p ≤ 0x1AE) || p == 0x1B0

/-- The pages that hold staged fields in their body. -/
def pageStaged (p : Nat) : Bool :=
  p == 0x011 || p == 0x012 || (0x040 ≤ p && p ≤ 0x05B) || (0x060 ≤ p && p ≤ 0x07B) || (0x080 ≤ p && p ≤ 0x08E)
  || (0x0C0 ≤ p && p ≤ 0x0C5) || (0x0C8 ≤ p && p ≤ 0x0E3) || (0x100 ≤ p && p ≤ 0x12F) || (0x140 ≤ p && p ≤ 0x14B)
  || (0x150 ≤ p && p ≤ 0x157) || p == 0x18C || p == 0x18F || (0x1A8 ≤ p && p ≤ 0x1AE) || p == 0x1B0

def softResettable (p : Nat) : Bool := (0x100 ≤ p && p ≤ 0x12F) || (0x140 ≤ p && p ≤ 0x14B)
def reservable (p : Nat) : Bool :=
  p == 0x090 || p == 0x091 || (0x100 ≤ p && p ≤ 0x12F) || (0x140 ≤ p && p ≤ 0x14B) || (0x040 ≤ p && p ≤ 0x05B)
def tested (p : Nat) : Bool :=
  (0x098 ≤ p && p ≤ 0x09A) || p == 0x090 || p == 0x091 || (0x100 ≤ p && p ≤ 0x131) || (0x140 ≤ p && p ≤ 0x14C)
  || (0x040 ≤ p && p ≤ 0x05B)

/-- PAGE_CAP of a page. Bits the chapters do not give are DEDUCED from what they say of the page (log entry 12). -/
def pageCap (p : Nat) : Nat :=
  (if softResettable p then 1 else 0) + (if pageStaged p then 2 else 0) + (if hasTable p then 4 else 0)
  + (if reservable p then 8 else 0) + (if tested p then 16 else 0) + (if tableDirect p then 32 else 0)
  + (if hasTable p then 0x0400 else 0)

/-- HOME of RESERVE_MAP: 0 on every page but 0x091 (R424). -/
def pageHome (p : Nat) : Nat := if p == 0x091 then 1 else 0

/-- The reset VECTOR and MSI_EN of an aggregator source (R464): ring sources 0x000 to 0x13F only. -/
def aggVector (k : Nat) : Nat :=
  if k < 32 then k else if k < 64 then 64 + (k - 32) else if k < 0x140 then 128 + 16 * (k / 32 - 2) + k % 32 % 16 else 0
def aggMsiEn (k : Nat) : Nat := if k < 0x140 then 1 else 0


/-- Pages all: spec/04_register_pages_and_heats.md. -/
def hdrRegs (p : Nat) : List RSpec := [
  ⟨0x000, 4, 1, "PAGE_ID", fun _ => [⟨7, 0, .ro, 0x01⟩, ⟨15, 8, .ro, (pageInstance p)⟩, ⟨31, 16, .ro, (pageType p)⟩]⟩,
  ⟨0x004, 4, 1, "PAGE_CAP", fun _ => [⟨31, 0, .ro, (pageCap p)⟩]⟩,
  ⟨0x008, 4, 1, "PAGE_CTRL", fun _ => [⟨0, 0, .rws, 0⟩, ⟨1, 1, .rw, 0⟩, ⟨2, 2, .w1s, 0⟩, ⟨3, 3, .rw, 0⟩]⟩,
  ⟨0x00C, 4, 1, "PAGE_STAT", fun _ => [⟨0, 0, .rov, 0⟩, ⟨1, 1, .rov, 0⟩, ⟨2, 2, .rov, 0⟩, ⟨3, 3, .rov, 0⟩, ⟨4, 4, .rov, 0⟩]⟩,
  ⟨0x010, 4, 1, "IRQ_RAW", fun _ => [⟨31, 0, .w1c, 0⟩]⟩,
  ⟨0x014, 4, 1, "IRQ_EN", fun _ => [⟨31, 0, .rw, 0⟩]⟩,
  ⟨0x018, 4, 1, "IRQ_PEND", fun _ => [⟨31, 0, .rov, 0⟩]⟩,
  ⟨0x01C, 4, 1, "IRQ_SET", fun _ => [⟨31, 0, .wo, 0⟩]⟩,
  ⟨0x020, 4, 1, "ERR_ADDR", fun _ => [⟨31, 0, .rov, 0⟩]⟩,
  ⟨0x024, 4, 1, "ERR_INFO", fun _ => [⟨15, 0, .rov, 0⟩, ⟨19, 16, .rov, 0⟩, ⟨20, 20, .rov, 0⟩]⟩,
  ⟨0x028, 4, 1, "ERR_COUNT", fun _ => [⟨15, 0, .rc, 0⟩]⟩,
  ⟨0x02C, 4, 1, "HEAT_LIVE", fun _ => [⟨31, 0, .rov, 0⟩]⟩,
  ⟨0x030, 4, 1, "HEAT_STAGED", fun _ => [⟨30, 0, .rov, 0⟩, ⟨31, 31, .rov, 0⟩]⟩,
  ⟨0x034, 4, 1, "LOCK", fun _ => [⟨2, 0, .rw, 0⟩, ⟨10, 8, .rw, 0⟩, ⟨23, 16, .rw, 0⟩, ⟨31, 31, .w1s, 0⟩]⟩,
  ⟨0x038, 4, 1, "RESERVE_MAP", fun _ => [⟨3, 0, .ro, (pageHome p)⟩, ⟨7, 4, .rov, (pageHome p)⟩, ⟨8, 8, .rov, 0⟩]⟩,
  ⟨0x03C, 4, 1, "TEST_RESULT", fun _ => [⟨1, 0, .rov, 0⟩, ⟨15, 8, .rov, 0⟩, ⟨31, 16, .rov, 0⟩]⟩]

/-- Pages 0x000: spec/02_modes.md/04_register_pages_and_heats.md. -/
def devRegs (_p : Nat) : List RSpec := [
  ⟨0x040, 4, 1, "DEV_MODE", fun _ => [⟨3, 0, .rov, 0⟩, ⟨7, 4, .rov, 0⟩, ⟨11, 8, .rov, 0⟩, ⟨12, 12, .rov, 0⟩, ⟨13, 13, .rov, 0⟩, ⟨14, 14, .rov, 0⟩, ⟨15, 15, .rov, 0⟩, ⟨16, 16, .rov, 0⟩, ⟨19, 17, .rov, 0⟩, ⟨20, 20, .rov, 0⟩, ⟨31, 24, .rov, 0⟩]⟩,
  ⟨0x044, 4, 1, "DEV_MODE_REQ", fun _ => [⟨0, 0, .rw, 0⟩, ⟨1, 1, .w1s, 0⟩, ⟨5, 4, .wo, 0⟩, ⟨8, 8, .wo, 0⟩]⟩,
  ⟨0x048, 4, 1, "DEV_MODE_CFG", fun _ => [⟨7, 0, .rw, 0x0A⟩, ⟨15, 8, .rw, 0x0A⟩, ⟨23, 16, .rw, 0x14⟩]⟩,
  ⟨0x04C, 4, 1, "DEV_PART", fun _ => [⟨15, 0, .ro, 0x9690⟩, ⟨19, 16, .ro, 0xB⟩, ⟨23, 20, .ro, 0⟩, ⟨31, 24, .ro, 1⟩]⟩,
  ⟨0x050, 4, 1, "DEV_UID_LO", fun _ => [⟨31, 0, .ro, 0⟩]⟩,
  ⟨0x054, 4, 1, "DEV_UID_HI", fun _ => [⟨31, 0, .ro, 0⟩]⟩,
  ⟨0x058, 4, 1, "DEV_FW_VER", fun _ => [⟨7, 0, .rov, 0⟩, ⟨15, 8, .rov, 0⟩, ⟨23, 16, .rov, 0⟩, ⟨31, 24, .rov, 0⟩]⟩,
  ⟨0x05C, 4, 1, "DEV_SCRATCH", fun _ => [⟨7, 0, .rov, 0⟩, ⟨8, 8, .rov, 0⟩]⟩]

/-- Pages 0x001: spec/03_power_clocks_reset.md. -/
def pwrRegs (_p : Nat) : List RSpec := [
  ⟨0x040, 4, 1, "PWR_LEAN_CFG", fun _ => [⟨11, 0, .rw, 0x15E⟩, ⟨16, 16, .rw, 1⟩, ⟨17, 17, .rw, 0⟩, ⟨26, 19, .rw, 0x93⟩]⟩,
  ⟨0x044, 4, 1, "PWR_STAT", fun _ => [⟨0, 0, .rov, 0⟩, ⟨1, 1, .rov, 1⟩, ⟨2, 2, .rov, 1⟩, ⟨3, 3, .rov, 1⟩, ⟨4, 4, .rov, 1⟩, ⟨5, 5, .rov, 1⟩, ⟨31, 16, .rov, 0x0007⟩]⟩]

/-- Pages 0x002: spec/03_power_clocks_reset.md. -/
def senseRegs (_p : Nat) : List RSpec := [
  ⟨0x040, 4, 1, "PWR_SENSE_CFG", fun _ => [⟨3, 0, .rw, 3⟩, ⟨15, 8, .rw, 0x76⟩, ⟨19, 16, .rw, 5⟩, ⟨31, 24, .rw, 0x82⟩]⟩,
  ⟨0x044, 4, 1, "THERM_STAT", fun _ => [⟨7, 0, .rov, 0⟩, ⟨10, 8, .rov, 0⟩, ⟨16, 16, .rov, 0⟩, ⟨17, 17, .rov, 0⟩, ⟨18, 18, .rov, 0⟩]⟩]

/-- Pages 0x004: spec/03_power_clocks_reset.md. -/
def pllRegs (_p : Nat) : List RSpec := [
  ⟨0x040, 4, 1, "PLL_STAT", fun _ => [⟨5, 0, .rov, 0⟩, ⟨10, 8, .rov, 7⟩, ⟨20, 16, .rov, 0⟩, ⟨21, 21, .rov, 0⟩, ⟨24, 24, .rov, 0⟩, ⟨25, 25, .rov, 0⟩]⟩]

/-- Pages 0x005: spec/03_power_clocks_reset.md. -/
def rstRegs (_p : Nat) : List RSpec := [
  ⟨0x040, 4, 1, "RST_CTRL", fun _ => [⟨0, 0, .w1s, 0⟩, ⟨31, 16, .w1s, 0⟩]⟩,
  ⟨0x044, 4, 1, "RST_CAUSE", fun _ => [⟨0, 0, .w1c, 0⟩, ⟨1, 1, .w1c, 0⟩, ⟨2, 2, .w1c, 0⟩, ⟨3, 3, .w1c, 0⟩, ⟨4, 4, .w1c, 0⟩, ⟨5, 5, .w1c, 0⟩, ⟨6, 6, .w1c, 0⟩]⟩]

/-- Pages 0x010: spec/04_register_pages_and_heats.md. -/
def heatRegs (_p : Nat) : List RSpec := [
  ⟨0x040, 4, 1, "HEAT_CMD", fun _ => [⟨2, 0, .wo, 0⟩]⟩,
  ⟨0x044, 4, 1, "HEAT_TAG", fun _ => [⟨31, 0, .rw, 0⟩]⟩,
  ⟨0x048, 4, 1, "HEAT_ACT_MODE", fun _ => [⟨1, 0, .rw, 0⟩, ⟨3, 2, .rw, 0⟩, ⟨12, 8, .rw, 0⟩]⟩,
  ⟨0x04C, 4, 1, "HEAT_ACT_SEC_LO", fun _ => [⟨31, 0, .rw, 0⟩]⟩,
  ⟨0x050, 4, 1, "HEAT_ACT_SEC_HI", fun _ => [⟨15, 0, .rw, 0⟩]⟩,
  ⟨0x054, 4, 1, "HEAT_ACT_NS", fun _ => [⟨31, 0, .rw, 0⟩]⟩,
  ⟨0x05C, 4, 1, "HEAT_STAT", fun _ => [⟨0, 0, .rov, 0⟩, ⟨3, 1, .rov, 0⟩, ⟨6, 4, .rov, 0⟩, ⟨12, 8, .rov, 0⟩, ⟨31, 16, .rov, 0⟩]⟩,
  ⟨0x060, 4, 1, "HEAT_STORE_FREE", fun _ => [⟨17, 0, .rov, 0x20000⟩]⟩,
  ⟨0x064, 4, 1, "HEAT_OPEN_SIZE", fun _ => [⟨12, 0, .rov, 0⟩, ⟨29, 16, .rov, 0⟩]⟩,
  ⟨0x080, 4, 16, "HEAT_ARM", fun _ => [⟨31, 0, .rov, 0⟩]⟩]

/-- Pages 0x020-0x021: spec/12_host_logger_bridges.md. -/
def brgRegs (_p : Nat) : List RSpec := [
  ⟨0x040, 4, 1, "BRG_STAT", fun _ => [⟨0, 0, .rov, 0⟩, ⟨3, 1, .rov, 0⟩, ⟨6, 4, .rov, 0⟩, ⟨9, 7, .rov, 0⟩, ⟨12, 10, .rov, 0⟩, ⟨13, 13, .rov, 0⟩]⟩,
  ⟨0x044, 4, 1, "BRG_CFG", fun _ => [⟨15, 0, .rw, 0x64⟩]⟩,
  ⟨0x048, 4, 1, "PERR_LEVEL", fun _ => [⟨4, 0, .rov, 0⟩]⟩,
  ⟨0x04C, 4, 1, "PERR_POP", fun _ => [⟨31, 0, .wo, 0⟩]⟩,
  ⟨0x050, 4, 1, "PERR_LOST", fun _ => [⟨31, 0, .rc, 0⟩]⟩,
  ⟨0x060, 4, 1, "PERR_E0", fun _ => [⟨15, 0, .rov, 0⟩, ⟨19, 16, .rov, 0⟩, ⟨22, 20, .rov, 0⟩]⟩,
  ⟨0x064, 4, 1, "PERR_E1", fun _ => [⟨25, 0, .rov, 0⟩, ⟨28, 26, .rov, 0⟩]⟩,
  ⟨0x068, 4, 1, "PERR_E2", fun _ => [⟨31, 0, .rov, 0⟩]⟩,
  ⟨0x06C, 4, 1, "PERR_E3", fun _ => [⟨15, 0, .rov, 0⟩, ⟨26, 16, .rov, 0⟩]⟩]

/-- Pages 0x028-0x031: spec/12_host_logger_bridges.md. -/
def fnRegs (_p : Nat) : List RSpec := [
  ⟨0x040, 4, 1, "BRG_BATON", fun _ => [⟨15, 0, .rov, 0⟩]⟩,
  ⟨0x044, 4, 1, "BRG_FENCE", fun _ => [⟨15, 0, .rc, 0⟩, ⟨31, 16, .rc, 0⟩]⟩,
  ⟨0x048, 4, 1, "RING_IRQ_RAW", fun _ => [⟨31, 0, .w1c, 0⟩]⟩,
  ⟨0x04C, 4, 1, "RING_IRQ_EN", fun _ => [⟨31, 0, .rw, 0⟩]⟩,
  ⟨0x050, 4, 1, "RING_IRQ_PEND", fun _ => [⟨31, 0, .rov, 0⟩]⟩,
  ⟨0x054, 4, 1, "RING_IRQ_SET", fun _ => [⟨31, 0, .wo, 0⟩]⟩,
  ⟨0x100, 64, 32, "RING_BASE_LO", fun _ => [⟨31, 8, .rw, 0⟩]⟩,
  ⟨0x104, 64, 32, "RING_BASE_HI", fun _ => [⟨31, 0, .rw, 0⟩]⟩,
  ⟨0x108, 64, 32, "RING_SIZE", fun _ => [⟨12, 0, .rw, 0x10⟩]⟩,
  ⟨0x10C, 64, 32, "RING_TAIL", fun _ => [⟨11, 0, .rw, 0⟩]⟩,
  ⟨0x110, 64, 32, "RING_HEAD", fun _ => [⟨11, 0, .rov, 0⟩]⟩,
  ⟨0x114, 64, 32, "RING_CFG", fun _ => [⟨0, 0, .rw, 0⟩, ⟨1, 1, .rw, 0⟩, ⟨11, 2, .rw, 0x64⟩, ⟨14, 12, .rw, 4⟩, ⟨17, 15, .rw, 0⟩]⟩,
  ⟨0x118, 64, 32, "RING_IRQ", fun _ => [⟨7, 0, .rw, 1⟩, ⟨23, 8, .rw, 0⟩]⟩,
  ⟨0x11C, 64, 32, "RING_LIMIT", fun _ => [⟨17, 0, .rw, 0x1000⟩]⟩,
  ⟨0x120, 64, 32, "RING_STAT", fun _ => [⟨0, 0, .rov, 0⟩, ⟨1, 1, .rov, 0⟩, ⟨2, 2, .rov, 0⟩, ⟨31, 16, .rov, 0⟩]⟩,
  ⟨0x124, 64, 32, "RING_DONE", fun _ => [⟨31, 0, .rc, 0⟩]⟩,
  ⟨0x128, 64, 32, "RING_DROP", fun _ => [⟨31, 0, .rc, 0⟩]⟩,
  ⟨0x12C, 64, 32, "RING_ABANDON", fun _ => [⟨31, 0, .rc, 0⟩]⟩,
  ⟨0x130, 64, 32, "RING_HELD", fun _ => [⟨17, 0, .rov, 0⟩]⟩]

/-- Pages 0x032: spec/12_host_logger_bridges.md. -/
def fnP1Regs (_p : Nat) : List RSpec := [
  ⟨0x040, 4, 1, "BRG_BATON", fun _ => [⟨15, 0, .rov, 0⟩]⟩,
  ⟨0x044, 4, 1, "BRG_FENCE", fun _ => [⟨15, 0, .rc, 0⟩, ⟨31, 16, .rc, 0⟩]⟩,
  ⟨0x048, 4, 1, "RING_IRQ_RAW", fun _ => [⟨7, 0, .w1c, 0⟩]⟩,
  ⟨0x04C, 4, 1, "RING_IRQ_EN", fun _ => [⟨7, 0, .rw, 0⟩]⟩,
  ⟨0x050, 4, 1, "RING_IRQ_PEND", fun _ => [⟨7, 0, .rov, 0⟩]⟩,
  ⟨0x054, 4, 1, "RING_IRQ_SET", fun _ => [⟨7, 0, .wo, 0⟩]⟩,
  ⟨0x100, 64, 8, "RING_BASE_LO", fun _ => [⟨31, 8, .rw, 0⟩]⟩,
  ⟨0x104, 64, 8, "RING_BASE_HI", fun _ => [⟨31, 0, .rw, 0⟩]⟩,
  ⟨0x108, 64, 8, "RING_SIZE", fun _ => [⟨12, 0, .rw, 0x10⟩]⟩,
  ⟨0x10C, 64, 8, "RING_TAIL", fun _ => [⟨11, 0, .rw, 0⟩]⟩,
  ⟨0x110, 64, 8, "RING_HEAD", fun _ => [⟨11, 0, .rov, 0⟩]⟩,
  ⟨0x114, 64, 8, "RING_CFG", fun _ => [⟨0, 0, .rw, 0⟩, ⟨1, 1, .rw, 0⟩, ⟨11, 2, .rw, 0x64⟩, ⟨14, 12, .rw, 4⟩, ⟨17, 15, .rw, 0⟩]⟩,
  ⟨0x118, 64, 8, "RING_IRQ", fun _ => [⟨7, 0, .rw, 1⟩, ⟨23, 8, .rw, 0⟩]⟩,
  ⟨0x11C, 64, 8, "RING_LIMIT", fun _ => [⟨17, 0, .rw, 0x1000⟩]⟩,
  ⟨0x120, 64, 8, "RING_STAT", fun _ => [⟨0, 0, .rov, 0⟩, ⟨1, 1, .rov, 0⟩, ⟨2, 2, .rov, 0⟩, ⟨31, 16, .rov, 0⟩]⟩,
  ⟨0x124, 64, 8, "RING_DONE", fun _ => [⟨31, 0, .rc, 0⟩]⟩,
  ⟨0x128, 64, 8, "RING_DROP", fun _ => [⟨31, 0, .rc, 0⟩]⟩,
  ⟨0x12C, 64, 8, "RING_ABANDON", fun _ => [⟨31, 0, .rc, 0⟩]⟩,
  ⟨0x130, 64, 8, "RING_HELD", fun _ => [⟨17, 0, .rov, 0⟩]⟩]

/-- Pages 0x1F0: spec/12_host_logger_bridges.md. -/
def logRegs (_p : Nat) : List RSpec := [
  ⟨0x040, 4, 1, "LOG_CFG", fun _ => [⟨15, 0, .rw, 0x64⟩]⟩,
  ⟨0x044, 4, 1, "LOG_CMD", fun _ => [⟨0, 0, .wo, 0⟩, ⟨1, 1, .wo, 0⟩, ⟨2, 2, .wo, 0⟩, ⟨3, 3, .wo, 0⟩]⟩,
  ⟨0x048, 4, 1, "LOG_STAT", fun _ => [⟨0, 0, .rov, 1⟩, ⟨1, 1, .w1c, 0⟩, ⟨2, 2, .w1c, 0⟩, ⟨4, 3, .rov, 1⟩, ⟨6, 5, .rov, 0⟩, ⟨7, 7, .rov, 0⟩, ⟨8, 8, .w1c, 0⟩]⟩,
  ⟨0x04C, 4, 1, "LOG_AVAIL", fun _ => [⟨21, 0, .rov, 0⟩]⟩,
  ⟨0x050, 4, 1, "LOG_UNREL", fun _ => [⟨21, 0, .rov, 0⟩]⟩,
  ⟨0x054, 4, 1, "LOG_WM", fun _ => [⟨21, 5, .rw, 0x8000⟩]⟩,
  ⟨0x058, 4, 1, "LOG_XING", fun _ => [⟨15, 0, .rc, 0⟩]⟩,
  ⟨0x05C, 4, 1, "LOG_LOST_CNT", fun _ => [⟨31, 0, .rc, 0⟩]⟩,
  ⟨0x060, 4, 1, "LOG_UNDER_CNT", fun _ => [⟨31, 0, .rc, 0⟩]⟩,
  ⟨0x064, 4, 1, "LOG_SEQ", fun _ => [⟨15, 0, .rov, 0⟩]⟩,
  ⟨0x068, 4, 1, "LOG_RP", fun _ => [⟨19, 0, .rov, 0⟩, ⟨20, 20, .rov, 0⟩]⟩,
  ⟨0x06C, 4, 1, "LOG_MARK", fun _ => [⟨19, 0, .rov, 0⟩, ⟨20, 20, .rov, 0⟩]⟩]

/-- Pages 0x1E0: spec/16_faults_containment.md. -/
def aggCtrlRegs (_p : Nat) : List RSpec := [
  ⟨0x040, 4, 1, "FAULT_STAT", fun _ => [⟨6, 0, .rov, 0x10⟩, ⟨7, 7, .rov, 0⟩, ⟨8, 8, .rov, 0⟩, ⟨16, 16, .rov, 1⟩]⟩,
  ⟨0x044, 4, 1, "FAULT_CTRL", fun _ => [⟨0, 0, .rw, 0⟩]⟩,
  ⟨0x080, 4, 16, "AGG_ACTIVE", fun _ => [⟨31, 0, .rov, 0⟩]⟩]

/-- Pages 0x1E1: spec/16_faults_containment.md. -/
def aggRouteRegs (_p : Nat) : List RSpec := [
  ⟨0x040, 4, 512, "AGG_ROUTE", fun k => [⟨7, 0, .rw, (aggVector k)⟩, ⟨8, 8, .rw, (aggMsiEn k)⟩, ⟨9, 9, .rw, 1⟩, ⟨10, 10, .rw, 0⟩, ⟨16, 16, .rov, 0⟩]⟩]

/-- Pages tblports: spec/04_register_pages_and_heats.md. -/
def tblRegs (_p : Nat) : List RSpec := [
  ⟨0x040, 4, 1, "TBL_CMD", fun _ => [⟨3, 0, .wo, 0⟩]⟩,
  ⟨0x044, 4, 1, "TBL_IDX", fun _ => [⟨31, 0, .rw, 0⟩]⟩,
  ⟨0x048, 4, 1, "TBL_STAT", fun _ => [⟨0, 0, .rov, 0⟩, ⟨1, 1, .rov, 0⟩, ⟨2, 2, .rov, 0⟩, ⟨31, 16, .rov, 0⟩]⟩,
  ⟨0x050, 4, 8, "TBL_DATA", fun _ => [⟨31, 0, .rw, 0⟩]⟩]

/-- Pages 0x1D0: spec/15_wake_hotplug.md. -/
def wakeCtrlRegs (_p : Nat) : List RSpec := [
  ⟨0x040, 4, 1, "WAKE_CAUSE", fun _ => [⟨3, 0, .rov, 0⟩, ⟨9, 4, .rov, 0⟩, ⟨10, 10, .rov, 0⟩, ⟨11, 11, .rov, 0⟩]⟩,
  ⟨0x044, 4, 1, "WAKE_ID", fun _ => [⟨28, 0, .rov, 0⟩, ⟨29, 29, .rov, 0⟩]⟩,
  ⟨0x048, 4, 1, "WAKE_TL_NS", fun _ => [⟨31, 0, .rov, 0⟩]⟩,
  ⟨0x04C, 4, 1, "WAKE_TL_SEC", fun _ => [⟨31, 0, .rov, 0⟩]⟩,
  ⟨0x050, 4, 1, "WAKE_PEND", fun _ => [⟨18, 0, .rov, 0⟩]⟩,
  ⟨0x054, 4, 1, "REST_CFG", fun _ => [⟨0, 0, .rw, 1⟩, ⟨15, 8, .rw, 0x32⟩]⟩,
  ⟨0x080, 4, 1, "WAKE_COUNT", fun _ => [⟨31, 0, .rc, 0⟩]⟩,
  ⟨0x084, 4, 1, "NO_POWER_CNT", fun _ => [⟨31, 0, .rc, 0⟩]⟩]

/-- Pages 0x1D1: spec/15_wake_hotplug.md. -/
def wakeInRegs (_p : Nat) : List RSpec := [
  ⟨0x100, 16, 16, "WK_CFG", fun _ => [⟨0, 0, .rw, 0⟩, ⟨1, 1, .rw, 0⟩, ⟨3, 2, .rw, 0⟩, ⟨5, 4, .rw, 0⟩, ⟨13, 6, .rw, 0x14⟩]⟩,
  ⟨0x104, 16, 16, "WK_LIM", fun _ => [⟨7, 0, .rw, 0x10⟩, ⟨15, 8, .rw, 0x0A⟩, ⟨23, 16, .rw, 0x32⟩]⟩,
  ⟨0x108, 16, 16, "WK_STUCK", fun _ => [⟨19, 0, .rw, 0x258⟩]⟩,
  ⟨0x10C, 16, 16, "WK_STAT", fun _ => [⟨0, 0, .rov, 0⟩, ⟨1, 1, .rov, 0⟩, ⟨2, 2, .rov, 0⟩, ⟨3, 3, .rov, 0⟩, ⟨4, 4, .w1c, 0⟩, ⟨5, 5, .w1c, 0⟩]⟩]

/-- Pages 0x1D2: spec/15_wake_hotplug.md. -/
def pnfRegs (_p : Nat) : List RSpec := [
  ⟨0x100, 32, 48, "PN_CFG", fun _ => [⟨1, 0, .rw, 0⟩, ⟨3, 2, .rw, 2⟩, ⟨4, 4, .rw, 0⟩, ⟨5, 5, .rw, 0⟩, ⟨9, 6, .rw, 0⟩, ⟨10, 10, .rw, 1⟩, ⟨11, 11, .rw, 1⟩]⟩,
  ⟨0x104, 32, 48, "PN_ID", fun _ => [⟨28, 0, .rw, 0⟩]⟩,
  ⟨0x108, 32, 48, "PN_MASK", fun _ => [⟨28, 0, .rw, 0x1FFFFFFF⟩]⟩,
  ⟨0x10C, 32, 48, "PN_DMASK_LO", fun _ => [⟨31, 0, .rw, 0⟩]⟩,
  ⟨0x110, 32, 48, "PN_DMASK_HI", fun _ => [⟨31, 0, .rw, 0⟩]⟩,
  ⟨0x114, 32, 48, "PN_STAT", fun _ => [⟨0, 0, .rov, 0⟩, ⟨1, 1, .rov, 0⟩, ⟨12, 8, .rov, 0⟩]⟩]

/-- Pages 0x1D3: spec/15_wake_hotplug.md. -/
def t1sWakeRegs (_p : Nat) : List RSpec := [
  ⟨0x040, 4, 4, "T1S_WAKE_CFG", fun _ => [⟨0, 0, .rw, 0⟩, ⟨1, 1, .rw, 0⟩]⟩,
  ⟨0x080, 8, 8, "PHY_SLP_ADDR", fun _ => [⟨0, 0, .rw, 0⟩, ⟨1, 1, .rw, 0⟩, ⟨6, 2, .rw, 0⟩, ⟨11, 7, .rw, 0⟩, ⟨12, 12, .rw, 0⟩, ⟨31, 16, .rw, 0⟩]⟩,
  ⟨0x084, 8, 8, "PHY_SLP_VAL", fun _ => [⟨15, 0, .rw, 0⟩]⟩]

/-- Pages 0x040-0x05B: spec/05_ethernet_ports.md. -/
def macRegs (p : Nat) : List RSpec := [
  ⟨0x040, 4, 1, "MAC_CFG", fun _ => [⟨2, 0, .rws, (if p<0x048 then 4 else if p<0x058 then 1 else 5)⟩, ⟨3, 3, .rws, 0⟩, ⟨4, 4, .rws, 0⟩, ⟨5, 5, .rws, 0⟩, ⟨6, 6, .rws, 0⟩, ⟨29, 16, .rws, 0x05F2⟩]⟩,
  ⟨0x044, 4, 1, "MM_CFG", fun _ => [⟨0, 0, .rws, 0⟩, ⟨1, 1, .rws, 0⟩, ⟨3, 2, .rws, 0⟩, ⟨15, 8, .rws, 0x0A⟩, ⟨23, 16, .rws, 0⟩]⟩,
  ⟨0x048, 4, 1, "FC_CFG", fun _ => [⟨0, 0, .rws, 0⟩, ⟨1, 1, .rws, 0⟩, ⟨2, 2, .rws, 0⟩, ⟨3, 3, .rws, 0⟩, ⟨15, 8, .rws, 0⟩, ⟨31, 16, .rws, 0xFFFF⟩]⟩,
  ⟨0x04C, 4, 1, "FC_THRESH", fun _ => [⟨15, 0, .rws, 0x400⟩, ⟨31, 16, .rws, 0x200⟩]⟩,
  ⟨0x050, 4, 1, "MAC_STAT", fun _ => [⟨0, 0, .rov, 0⟩, ⟨3, 1, .rov, 7⟩, ⟨4, 4, .rov, 0⟩, ⟨5, 5, .rov, 0⟩, ⟨6, 6, .rov, 0⟩]⟩,
  ⟨0x054, 4, 1, "MM_STAT", fun _ => [⟨2, 0, .rov, 0⟩, ⟨3, 3, .rov, 0⟩, ⟨4, 4, .rov, 0⟩]⟩,
  ⟨0x058, 4, 1, "PFC_STAT", fun _ => [⟨7, 0, .rov, 0⟩, ⟨15, 8, .rov, 0⟩]⟩,
  ⟨0x05C, 4, 1, "MACSEC_CTRL", fun _ => [⟨0, 0, .rws, 0⟩, ⟨1, 1, .rws, 0⟩, ⟨3, 2, .rws, 0⟩, ⟨4, 4, .rws, 0⟩, ⟨5, 5, .rws, 0⟩, ⟨6, 6, .rws, 0⟩, ⟨9, 8, .rws, 0⟩, ⟨10, 10, .rws, 0⟩, ⟨11, 11, .rws, 0⟩, ⟨14, 14, .rws, 1⟩, ⟨31, 16, .rws, 1⟩]⟩,
  ⟨0x060, 4, 1, "MACSEC_WINDOW", fun _ => [⟨31, 0, .rws, 0⟩]⟩,
  ⟨0x064, 4, 1, "MACSEC_TXAN", fun _ => [⟨1, 0, .rw, 0⟩]⟩,
  ⟨0x068, 4, 1, "MAC_ADDR_LO", fun _ => [⟨31, 0, .rws, 0⟩]⟩,
  ⟨0x06C, 4, 1, "MAC_ADDR_HI", fun _ => [⟨15, 0, .rws, 0⟩]⟩,
  ⟨0x080, 4, 1, "RX_OCTETS", fun _ => [⟨31, 0, .rc, 0⟩]⟩,
  ⟨0x084, 4, 1, "RX_OCTETS_HI", fun _ => [⟨31, 0, .rov, 0⟩]⟩,
  ⟨0x088, 4, 1, "MAC_RX_FRAMES", fun _ => [⟨31, 0, .rc, 0⟩]⟩,
  ⟨0x08C, 4, 1, "MAC_RX_FRAMES_HI", fun _ => [⟨31, 0, .rov, 0⟩]⟩,
  ⟨0x090, 4, 1, "RX_FCS_ERR", fun _ => [⟨31, 0, .rc, 0⟩]⟩,
  ⟨0x094, 4, 1, "RX_UNDERSIZE", fun _ => [⟨31, 0, .rc, 0⟩]⟩,
  ⟨0x098, 4, 1, "RX_OVERSIZE", fun _ => [⟨31, 0, .rc, 0⟩]⟩,
  ⟨0x09C, 4, 1, "RX_SYMBOL_ERR", fun _ => [⟨31, 0, .rc, 0⟩]⟩,
  ⟨0x0A0, 4, 1, "RX_PAUSE", fun _ => [⟨31, 0, .rc, 0⟩]⟩,
  ⟨0x0A4, 4, 1, "RX_PFC", fun _ => [⟨31, 0, .rc, 0⟩]⟩,
  ⟨0x0A8, 4, 1, "RX_CTRL_OTHER", fun _ => [⟨31, 0, .rc, 0⟩]⟩,
  ⟨0x0AC, 4, 1, "RX_NOT_RUNNING", fun _ => [⟨31, 0, .rc, 0⟩]⟩,
  ⟨0x0B0, 4, 1, "RX_MM_ASSY_OK", fun _ => [⟨31, 0, .rc, 0⟩]⟩,
  ⟨0x0B4, 4, 1, "RX_MM_ASSY_ERR", fun _ => [⟨31, 0, .rc, 0⟩]⟩,
  ⟨0x0B8, 4, 1, "RX_MM_SMD_ERR", fun _ => [⟨31, 0, .rc, 0⟩]⟩,
  ⟨0x0BC, 4, 1, "RX_MM_FRAG", fun _ => [⟨31, 0, .rc, 0⟩]⟩,
  ⟨0x0C0, 4, 1, "TX_OCTETS", fun _ => [⟨31, 0, .rc, 0⟩]⟩,
  ⟨0x0C4, 4, 1, "TX_OCTETS_HI", fun _ => [⟨31, 0, .rov, 0⟩]⟩,
  ⟨0x0C8, 4, 1, "MAC_TX_FRAMES", fun _ => [⟨31, 0, .rc, 0⟩]⟩,
  ⟨0x0CC, 4, 1, "MAC_TX_FRAMES_HI", fun _ => [⟨31, 0, .rov, 0⟩]⟩,
  ⟨0x0D0, 4, 1, "TX_PAUSE", fun _ => [⟨31, 0, .rc, 0⟩]⟩,
  ⟨0x0D4, 4, 1, "TX_PFC", fun _ => [⟨31, 0, .rc, 0⟩]⟩,
  ⟨0x0D8, 4, 1, "TX_OVERSIZE_DROP", fun _ => [⟨31, 0, .rc, 0⟩]⟩,
  ⟨0x0DC, 4, 1, "TX_MARKED", fun _ => [⟨31, 0, .rc, 0⟩]⟩,
  ⟨0x0E0, 4, 1, "STOMPED", fun _ => [⟨31, 0, .rc, 0⟩]⟩,
  ⟨0x0E4, 4, 1, "TX_LINK_DOWN_DROP", fun _ => [⟨31, 0, .rc, 0⟩]⟩,
  ⟨0x0E8, 4, 1, "TX_ABORTED", fun _ => [⟨31, 0, .rc, 0⟩]⟩,
  ⟨0x0EC, 4, 1, "TX_MM_FRAG", fun _ => [⟨31, 0, .rc, 0⟩]⟩,
  ⟨0x0F0, 4, 1, "TX_MM_HOLD", fun _ => [⟨31, 0, .rc, 0⟩]⟩,
  ⟨0x100, 4, 18, "MACSEC_CNT", fun _ => [⟨31, 0, .rc, 0⟩]⟩]

/-- Pages 0x060-0x077: spec/05_ethernet_ports.md. -/
def lanePhyRegs (p : Nat) : List RSpec := [
  ⟨0x040, 4, 1, "LANE_CFG", fun _ => [⟨2, 0, .rws, (if p<0x068 then 5 else 1)⟩, ⟨3, 3, .rws, 1⟩]⟩,
  ⟨0x044, 4, 1, "LANE_PHY", fun _ => [⟨3, 0, .rw, 0⟩, ⟨8, 4, .rw, 7⟩, ⟨15, 12, .rw, 0xA⟩, ⟨16, 16, .rw, 0⟩, ⟨17, 17, .rw, 0⟩, ⟨19, 18, .rw, 0⟩]⟩,
  ⟨0x048, 4, 1, "LANE_STAT", fun _ => [⟨0, 0, .rov, 0⟩, ⟨1, 1, .rov, 0⟩, ⟨2, 2, .rov, 0⟩, ⟨3, 3, .rov, 0⟩, ⟨4, 4, .rov, 0⟩]⟩,
  ⟨0x04C, 4, 1, "LANE_PRBS", fun _ => [⟨2, 0, .rw, 0⟩, ⟨3, 3, .rw, 0⟩, ⟨4, 4, .rw, 0⟩]⟩,
  ⟨0x050, 4, 1, "PRBS_ERR", fun _ => [⟨31, 0, .rc, 0⟩]⟩]

/-- Pages 0x078-0x07B: spec/05_ethernet_ports.md. -/
def t1sRegs (_p : Nat) : List RSpec := [
  ⟨0x040, 4, 1, "T1S_PLCA_CFG", fun _ => [⟨0, 0, .rws, 1⟩, ⟨1, 1, .rws, 0⟩, ⟨10, 8, .rws, 0⟩, ⟨15, 12, .rws, 8⟩, ⟨23, 16, .rws, 0x20⟩, ⟨31, 24, .rws, 0⟩]⟩,
  ⟨0x044, 4, 1, "T1S_PLCA_CFG2", fun _ => [⟨7, 0, .rws, 0x80⟩, ⟨29, 16, .rws, 0x05F2⟩]⟩,
  ⟨0x048, 4, 1, "T1S_STAT", fun _ => [⟨0, 0, .rov, 0⟩, ⟨1, 1, .rov, 0⟩, ⟨2, 2, .rov, 0⟩]⟩,
  ⟨0x080, 4, 1, "COLLISIONS", fun _ => [⟨31, 0, .rc, 0⟩]⟩,
  ⟨0x084, 4, 1, "BEACON_LOSS", fun _ => [⟨31, 0, .rc, 0⟩]⟩,
  ⟨0x088, 4, 1, "TX_EXCESS_COLL", fun _ => [⟨31, 0, .rc, 0⟩]⟩]

/-- Pages 0x07C-0x07D: spec/05_ethernet_ports.md. -/
def mdioRegs (_p : Nat) : List RSpec := [
  ⟨0x040, 4, 1, "MDIO_CFG", fun _ => [⟨7, 0, .rw, 0x13⟩, ⟨8, 8, .rw, 0⟩, ⟨23, 16, .rw, 0⟩]⟩,
  ⟨0x044, 4, 1, "MDIO_CMD", fun _ => [⟨1, 0, .wo, 0⟩, ⟨2, 2, .wo, 0⟩, ⟨7, 3, .wo, 0⟩, ⟨12, 8, .wo, 0⟩, ⟨31, 16, .wo, 0⟩]⟩,
  ⟨0x048, 4, 1, "MDIO_STAT", fun _ => [⟨0, 0, .rov, 0⟩, ⟨1, 1, .rov, 0⟩, ⟨31, 16, .rov, 0⟩]⟩,
  ⟨0x080, 8, 8, "MDIO_POLL_ADDR", fun _ => [⟨0, 0, .rw, 0⟩, ⟨1, 1, .rw, 0⟩, ⟨6, 2, .rw, 0⟩, ⟨11, 7, .rw, 0⟩, ⟨31, 16, .rw, 0⟩]⟩,
  ⟨0x084, 8, 8, "MDIO_POLL_VAL", fun _ => [⟨15, 0, .rw, 0⟩, ⟨31, 16, .rov, 0⟩]⟩]

/-- Pages 0x080: spec/06_forwarding_pipelines.md. -/
def fwdCtrlRegs (_p : Nat) : List RSpec := [
  ⟨0x040, 4, 1, "FWD_ROLE_STAT", fun _ => [⟨1, 0, .rov, 0⟩, ⟨3, 2, .rov, 1⟩, ⟨5, 4, .rov, 2⟩, ⟨7, 6, .rov, 0⟩]⟩,
  ⟨0x044, 4, 1, "FWD_ROLE_MAP", fun _ => [⟨27, 0, .rws, 0xCFF00F0⟩, ⟨28, 28, .rws, 0⟩, ⟨29, 29, .rws, 0⟩]⟩,
  ⟨0x048, 4, 1, "FWD_LEARN_CFG", fun _ => [⟨15, 0, .rw, 0x3E8⟩, ⟨19, 16, .rw, 8⟩, ⟨31, 24, .rw, 0x0A⟩]⟩,
  ⟨0x04C, 4, 1, "FWD_AGE_CFG", fun _ => [⟨15, 0, .rw, 0x0A⟩, ⟨30, 16, .rw, 0x7530⟩]⟩,
  ⟨0x050, 4, 1, "FWD_ROUTER_MAC_LO", fun _ => [⟨31, 0, .rws, 0⟩]⟩,
  ⟨0x054, 4, 1, "FWD_ROUTER_MAC_HI", fun _ => [⟨15, 0, .rws, 0⟩]⟩,
  ⟨0x058, 4, 1, "FWD_DEF_NH", fun _ => [⟨11, 0, .rws, 0⟩, ⟨15, 15, .rws, 0⟩, ⟨27, 16, .rws, 0⟩, ⟨31, 31, .rws, 0⟩]⟩,
  ⟨0x05C, 4, 1, "FWD_MISC_CFG", fun _ => [⟨4, 0, .rw, 0x10⟩, ⟨8, 8, .rw, 0⟩, ⟨9, 9, .rw, 1⟩, ⟨10, 10, .rw, 1⟩, ⟨23, 16, .rw, 0x0A⟩]⟩,
  ⟨0x060, 4, 4, "FWD_SEED", fun w => [⟨31, 0, .rw, (if w = 0 then 0xFFFFFFFF else if w = 1 then 0x13579BDF else if w = 2 then 0x2468ACE0 else 0x5A5AA5A5)⟩]⟩]

/-- Pages 0x081: spec/06_forwarding_pipelines.md. -/
def fwdPortRegs (_p : Nat) : List RSpec := [
  ⟨0x040, 4, 28, "FWD_PORT", fun _ => [⟨11, 0, .rws, 1⟩, ⟨12, 12, .rws, 1⟩, ⟨13, 13, .rws, 0⟩, ⟨14, 14, .rws, 0⟩, ⟨15, 15, .rws, 0⟩, ⟨16, 16, .rws, 0⟩, ⟨17, 17, .rws, 1⟩]⟩,
  ⟨0x0B0, 4, 1, "FWD_TPID", fun _ => [⟨15, 0, .rws, 0x88A8⟩, ⟨31, 16, .rws, 0x8100⟩]⟩]

/-- Pages 0x082: spec/06_forwarding_pipelines.md. -/
def fwdMirrorRegs (_p : Nat) : List RSpec := [
  ⟨0x040, 16, 8, "MIR_CFG", fun _ => [⟨4, 0, .rws, 0x1F⟩, ⟨12, 5, .rws, 0⟩, ⟨29, 16, .rws, 0⟩]⟩,
  ⟨0x044, 16, 8, "MIR_IN", fun _ => [⟨27, 0, .rws, 0⟩, ⟨28, 28, .rws, 0⟩]⟩,
  ⟨0x048, 16, 8, "MIR_EG", fun _ => [⟨29, 0, .rws, 0⟩]⟩,
  ⟨0x0C0, 4, 8, "MIR_DROP", fun _ => [⟨31, 0, .rc, 0⟩]⟩]

/-- Pages 0x090-0x091: spec/06_forwarding_pipelines.md. -/
def roleRegs (_p : Nat) : List RSpec := [
  ⟨0x060, 4, 1, "LEARN_FLUSH", fun _ => [⟨0, 0, .wo, 0⟩, ⟨1, 1, .wo, 0⟩, ⟨6, 2, .wo, 0⟩, ⟨7, 7, .wo, 0⟩, ⟨19, 8, .wo, 0⟩]⟩,
  ⟨0x080, 4, 1, "LOOKUPS", fun _ => [⟨31, 0, .rc, 0⟩]⟩,
  ⟨0x084, 4, 1, "LOOKUPS_HI", fun _ => [⟨31, 0, .rov, 0⟩]⟩,
  ⟨0x088, 4, 1, "LEARN_NEW", fun _ => [⟨31, 0, .rc, 0⟩]⟩,
  ⟨0x08C, 4, 1, "LEARN_MOVE", fun _ => [⟨31, 0, .rc, 0⟩]⟩,
  ⟨0x090, 4, 1, "DEAD_HEAT", fun _ => [⟨31, 0, .rc, 0⟩]⟩,
  ⟨0x094, 4, 1, "LEARN_Q_FULL", fun _ => [⟨31, 0, .rc, 0⟩]⟩,
  ⟨0x098, 4, 1, "LEARN_FULL", fun _ => [⟨31, 0, .rc, 0⟩]⟩,
  ⟨0x09C, 4, 1, "LEARN_EVICT", fun _ => [⟨31, 0, .rc, 0⟩]⟩,
  ⟨0x0A0, 4, 1, "AGED", fun _ => [⟨31, 0, .rc, 0⟩]⟩,
  ⟨0x0A4, 4, 1, "FLAPS", fun _ => [⟨15, 0, .rc, 0⟩, ⟨31, 16, .rc, 0⟩]⟩,
  ⟨0x0A8, 4, 1, "DROP_VLAN_UNKNOWN", fun _ => [⟨31, 0, .rc, 0⟩]⟩,
  ⟨0x0AC, 4, 1, "DROP_VLAN_TYPE", fun _ => [⟨15, 0, .rc, 0⟩, ⟨31, 16, .rc, 0⟩]⟩,
  ⟨0x0B0, 4, 1, "DROP_VLAN_EGRESS", fun _ => [⟨31, 0, .rc, 0⟩]⟩,
  ⟨0x0B4, 4, 1, "DROP_UNKNOWN_UC", fun _ => [⟨31, 0, .rc, 0⟩]⟩,
  ⟨0x0B8, 4, 1, "DROP_SAME_PORT", fun _ => [⟨31, 0, .rc, 0⟩]⟩,
  ⟨0x0BC, 4, 1, "DROP_SA_STATIC", fun _ => [⟨31, 0, .rc, 0⟩]⟩,
  ⟨0x0C0, 4, 1, "DROP_DA_DROP", fun _ => [⟨31, 0, .rc, 0⟩]⟩,
  ⟨0x0C4, 4, 1, "DROP_ROUTE_MISS", fun _ => [⟨31, 0, .rc, 0⟩]⟩,
  ⟨0x0C8, 4, 1, "DROP_NULL_ROUTE", fun _ => [⟨31, 0, .rc, 0⟩]⟩,
  ⟨0x0CC, 4, 1, "DROP_TTL_EXPIRED", fun _ => [⟨31, 0, .rc, 0⟩]⟩,
  ⟨0x0D0, 4, 1, "DROP_IP_HEADER", fun _ => [⟨31, 0, .rc, 0⟩]⟩,
  ⟨0x0D4, 4, 1, "DROP_LOOKUP_PARITY", fun _ => [⟨31, 0, .rc, 0⟩]⟩,
  ⟨0x0D8, 4, 1, "FLOODED", fun _ => [⟨31, 0, .rc, 0⟩]⟩,
  ⟨0x0DC, 4, 1, "LOOKUP_DISCARD", fun _ => [⟨31, 0, .rc, 0⟩]⟩]

/-- Pages 0x098-0x09A: spec/06_forwarding_pipelines.md. -/
def sliceRegs (p : Nat) : List RSpec := [
  ⟨0x040, 4, 1, "SLICE_STAT", fun _ => [⟨2, 0, .rov, (p-0x097)⟩, ⟨3, 3, .rov, 0⟩, ⟨4, 4, .rov, 0⟩]⟩,
  ⟨0x080, 4, 1, "PARITY_MISS", fun _ => [⟨31, 0, .rc, 0⟩]⟩,
  ⟨0x084, 4, 1, "SHADOW_MISMATCH", fun _ => [⟨31, 0, .rc, 0⟩]⟩,
  ⟨0x088, 4, 1, "SHADOW_REPAIR", fun _ => [⟨31, 0, .rc, 0⟩]⟩]

/-- Pages 0x0C0: spec/07_lanes_pacers_gates.md. -/
def clsRegs (_p : Nat) : List RSpec := [
  ⟨0x070, 4, 30, "CLS_PORT", fun _ => [⟨1, 0, .rws, 0⟩, ⟨2, 2, .rws, 0⟩, ⟨5, 3, .rws, 0⟩]⟩,
  ⟨0x100, 4, 28, "PRIO_MAP", fun _ => [⟨23, 0, .rws, 0xFAC688⟩]⟩,
  ⟨0x170, 4, 1, "SF_UNMATCHED_CNT", fun _ => [⟨31, 0, .rc, 0⟩]⟩,
  ⟨0x174, 4, 1, "SF_UNBLOCK", fun _ => [⟨11, 0, .wo, 0⟩, ⟨31, 31, .wo, 0⟩]⟩]

/-- Pages 0x0C1: spec/07_lanes_pacers_gates.md. -/
def sgateRegs (_p : Nat) : List RSpec := [
  ⟨0x070, 4, 1, "SG_REOPEN", fun _ => [⟨7, 0, .wo, 0⟩, ⟨31, 31, .wo, 0⟩]⟩]

/-- Pages 0x0C3: spec/07_lanes_pacers_gates.md. -/
def meterRegs (_p : Nat) : List RSpec := [
  ⟨0x070, 4, 1, "MTR_CLEAR", fun _ => [⟨10, 0, .wo, 0⟩, ⟨31, 31, .wo, 0⟩]⟩]

/-- Pages 0x0C4: spec/07_lanes_pacers_gates.md. -/
def bufRegs (_p : Nat) : List RSpec := [
  ⟨0x040, 4, 1, "BUF_STAT", fun _ => [⟨17, 0, .rov, 0x20000⟩]⟩,
  ⟨0x044, 4, 1, "BUF_RESERVE", fun _ => [⟨17, 0, .rov, 0⟩]⟩,
  ⟨0x080, 4, 1, "BUFFER_FULL_CNT", fun _ => [⟨31, 0, .rc, 0⟩]⟩]

/-- Pages 0x0C8-0x0E3: spec/07_lanes_pacers_gates.md. -/
def lanesRegs (_p : Nat) : List RSpec := [
  ⟨0x070, 4, 1, "HL_CFG", fun _ => [⟨8, 0, .rws, 0⟩, ⟨9, 9, .rws, 0⟩, ⟨12, 10, .rws, 0⟩, ⟨13, 13, .rws, 0⟩, ⟨23, 16, .rws, 0xFF⟩]⟩,
  ⟨0x074, 4, 1, "HL_CYCLE", fun _ => [⟨29, 0, .rws, 0xF4240⟩]⟩,
  ⟨0x078, 4, 1, "HL_BASE_SEC_LO", fun _ => [⟨31, 0, .rws, 0⟩]⟩,
  ⟨0x07C, 4, 1, "HL_BASE_SEC_HI", fun _ => [⟨15, 0, .rws, 0⟩]⟩,
  ⟨0x080, 4, 1, "HL_BASE_NS", fun _ => [⟨31, 0, .rws, 0⟩]⟩,
  ⟨0x084, 4, 1, "HL_STAT", fun _ => [⟨7, 0, .rov, 0⟩, ⟨8, 8, .rov, 0⟩, ⟨9, 9, .rov, 0⟩, ⟨10, 10, .rov, 0⟩]⟩,
  ⟨0x088, 4, 1, "HL_CYCLES", fun _ => [⟨31, 0, .rc, 0⟩]⟩,
  ⟨0x100, 32, 8, "LANE_CTRL", fun _ => [⟨0, 0, .rws, 0⟩, ⟨1, 1, .rws, 0⟩, ⟨2, 2, .rws, 0⟩, ⟨11, 4, .rws, 1⟩, ⟨13, 12, .rws, 0⟩, ⟨23, 16, .rws, 0x14⟩]⟩,
  ⟨0x104, 32, 8, "CBS_IDLE", fun _ => [⟨23, 0, .rws, 0⟩]⟩,
  ⟨0x108, 32, 8, "CBS_HICREDIT", fun _ => [⟨23, 0, .rws, 0x600⟩]⟩,
  ⟨0x10C, 32, 8, "PACER_RATE", fun _ => [⟨23, 0, .rws, 0⟩]⟩,
  ⟨0x110, 32, 8, "PACER_BURST", fun _ => [⟨23, 0, .rws, 0x600⟩]⟩,
  ⟨0x114, 32, 8, "LANE_BUF", fun _ => [⟨15, 0, .rws, 0x2000⟩, ⟨31, 16, .rws, 0x10⟩]⟩,
  ⟨0x118, 32, 8, "LANE_WM", fun _ => [⟨15, 0, .rw, 0x1000⟩, ⟨16, 16, .rov, 0⟩, ⟨17, 17, .w1c, 0⟩]⟩,
  ⟨0x11C, 32, 8, "LANE_XING", fun _ => [⟨15, 0, .rc, 0⟩]⟩,
  ⟨0x200, 16, 8, "LANE_TX_FRAMES", fun _ => [⟨31, 0, .rc, 0⟩]⟩,
  ⟨0x204, 16, 8, "DROP_LANE_FULL", fun _ => [⟨31, 0, .rc, 0⟩]⟩,
  ⟨0x208, 16, 8, "DROP_BUFFER_FULL", fun _ => [⟨31, 0, .rc, 0⟩]⟩,
  ⟨0x20C, 16, 8, "DROP_TOO_LONG", fun _ => [⟨31, 0, .rc, 0⟩]⟩]

/-- Pages 0x100-0x12F: spec/08_can_lin_controllers.md. -/
def canRegs (_p : Nat) : List RSpec := [
  ⟨0x040, 4, 1, "CAN_CTRL", fun _ => [⟨0, 0, .rws, 0⟩, ⟨1, 1, .rws, 0⟩, ⟨2, 2, .rws, 0⟩, ⟨3, 3, .rws, 0⟩, ⟨4, 4, .rws, 0⟩, ⟨5, 5, .rws, 0⟩, ⟨6, 6, .rws, 0⟩, ⟨7, 7, .rws, 0⟩, ⟨10, 8, .rws, 0⟩, ⟨11, 11, .rws, 0⟩, ⟨12, 12, .rws, 0⟩, ⟨15, 13, .rws, 4⟩]⟩,
  ⟨0x044, 4, 1, "CAN_NBT", fun _ => [⟨7, 0, .rws, 0⟩, ⟨15, 8, .rws, 0xFE⟩, ⟨22, 16, .rws, 0x3F⟩, ⟨29, 23, .rws, 0x3F⟩]⟩,
  ⟨0x048, 4, 1, "CAN_DBT", fun _ => [⟨4, 0, .rws, 0⟩, ⟨13, 8, .rws, 0x3E⟩, ⟨20, 16, .rws, 0x0F⟩, ⟨28, 24, .rws, 0x0F⟩]⟩,
  ⟨0x04C, 4, 1, "CAN_XBT", fun _ => [⟨4, 0, .rws, 0⟩, ⟨13, 8, .rws, 0x0A⟩, ⟨20, 16, .rws, 3⟩, ⟨28, 24, .rws, 3⟩]⟩,
  ⟨0x050, 4, 1, "CAN_TDC", fun _ => [⟨6, 0, .rws, 0⟩, ⟨7, 7, .rws, 0⟩, ⟨14, 8, .rws, 0⟩]⟩,
  ⟨0x054, 4, 1, "CAN_XL_CFG", fun _ => [⟨5, 0, .rws, 4⟩, ⟨13, 8, .rws, 0x0C⟩, ⟨21, 16, .rws, 0⟩]⟩,
  ⟨0x058, 4, 1, "CAN_MISC_CFG", fun _ => [⟨7, 0, .rw, 0x40⟩, ⟨15, 8, .rw, 0xCC⟩]⟩,
  ⟨0x060, 4, 1, "CAN_STAT", fun _ => [⟨1, 0, .rov, 3⟩, ⟨2, 2, .rov, 0⟩, ⟨3, 3, .rov, 0⟩, ⟨4, 4, .rov, 0⟩, ⟨15, 8, .rov, 0⟩, ⟨23, 16, .rov, 0⟩]⟩,
  ⟨0x064, 4, 1, "CAN_ECNT", fun _ => [⟨8, 0, .rov, 0⟩, ⟨23, 16, .rov, 0⟩]⟩,
  ⟨0x068, 4, 1, "CAN_TDC_STAT", fun _ => [⟨6, 0, .rov, 0⟩, ⟨7, 7, .rov, 0⟩, ⟨8, 8, .rov, 0⟩]⟩,
  ⟨0x080, 4, 1, "CAN_RX_FRAMES", fun _ => [⟨31, 0, .rc, 0⟩]⟩,
  ⟨0x084, 4, 1, "CAN_TX_FRAMES", fun _ => [⟨31, 0, .rc, 0⟩]⟩,
  ⟨0x088, 4, 1, "ERR_BIT", fun _ => [⟨31, 0, .rc, 0⟩]⟩,
  ⟨0x08C, 4, 1, "ERR_STUFF", fun _ => [⟨31, 0, .rc, 0⟩]⟩,
  ⟨0x090, 4, 1, "ERR_FORM", fun _ => [⟨31, 0, .rc, 0⟩]⟩,
  ⟨0x094, 4, 1, "ERR_CRC", fun _ => [⟨31, 0, .rc, 0⟩]⟩,
  ⟨0x098, 4, 1, "ERR_ACK", fun _ => [⟨31, 0, .rc, 0⟩]⟩,
  ⟨0x09C, 4, 1, "BUS_OFF_CNT", fun _ => [⟨31, 0, .rc, 0⟩]⟩,
  ⟨0x0A0, 4, 1, "ARB_LOST", fun _ => [⟨31, 0, .rc, 0⟩]⟩,
  ⟨0x0A4, 4, 1, "DROP_LIFETIME", fun _ => [⟨31, 0, .rc, 0⟩]⟩,
  ⟨0x0A8, 4, 1, "DROP_QUEUE_FULL", fun _ => [⟨31, 0, .rc, 0⟩]⟩,
  ⟨0x0AC, 4, 1, "DROP_FORMAT", fun _ => [⟨31, 0, .rc, 0⟩]⟩,
  ⟨0x0B0, 4, 1, "DROP_NOT_RUNNING", fun _ => [⟨31, 0, .rc, 0⟩]⟩,
  ⟨0x0B4, 4, 1, "MB_LOST_CNT", fun _ => [⟨31, 0, .rc, 0⟩]⟩,
  ⟨0x0B8, 4, 1, "PROTO_EXC", fun _ => [⟨31, 0, .rc, 0⟩]⟩,
  ⟨0x0BC, 4, 1, "CAN_CANCELLED", fun _ => [⟨31, 0, .rc, 0⟩]⟩,
  ⟨0x0C0, 4, 1, "TXEV_OVF", fun _ => [⟨31, 0, .rc, 0⟩]⟩,
  ⟨0x0C4, 4, 1, "DROP_LOST", fun _ => [⟨31, 0, .rc, 0⟩]⟩,
  ⟨0x0E0, 8, 4, "HPB_FILT", fun _ => [⟨28, 0, .rws, 0⟩, ⟨29, 29, .rws, 0⟩, ⟨30, 30, .rws, 0⟩, ⟨31, 31, .rws, 0⟩]⟩,
  ⟨0x0E4, 8, 4, "HPB_MASK", fun _ => [⟨28, 0, .rws, 0⟩, ⟨29, 29, .rws, 0⟩, ⟨31, 30, .rws, 0⟩]⟩,
  ⟨0x100, 4, 1, "TXQ_ID", fun _ => [⟨29, 0, .rw, 0⟩]⟩,
  ⟨0x104, 4, 1, "TXQ_INFO", fun _ => [⟨1, 0, .rw, 0⟩, ⟨2, 2, .rw, 0⟩, ⟨3, 3, .rw, 0⟩, ⟨4, 4, .rw, 0⟩, ⟨11, 5, .rw, 0⟩, ⟨23, 16, .rw, 0⟩, ⟨31, 24, .rw, 0⟩]⟩,
  ⟨0x108, 4, 1, "TXQ_AF", fun _ => [⟨31, 0, .rw, 0⟩]⟩,
  ⟨0x10C, 4, 1, "TXQ_LIFE", fun _ => [⟨23, 0, .rw, 0⟩]⟩,
  ⟨0x110, 4, 16, "TXQ_DATA", fun _ => [⟨31, 0, .rw, 0⟩]⟩,
  ⟨0x150, 4, 1, "TXQ_PUSH", fun _ => [⟨31, 0, .wo, 0⟩]⟩,
  ⟨0x154, 4, 1, "TXQ_STAT", fun _ => [⟨15, 0, .rov, 0⟩, ⟨16, 16, .rov, 0⟩]⟩,
  ⟨0x158, 4, 1, "TXQ_CANCEL", fun _ => [⟨15, 0, .wo, 0⟩]⟩,
  ⟨0x15C, 4, 1, "TXQ_LEVEL", fun _ => [⟨8, 0, .rov, 0⟩, ⟨24, 16, .rov, 0x100⟩]⟩,
  ⟨0x160, 4, 1, "TXEV", fun _ => [⟨15, 0, .rc, 0⟩, ⟨17, 16, .rc, 0⟩, ⟨18, 18, .rc, 0⟩, ⟨31, 31, .rc, 0⟩]⟩,
  ⟨0x200, 80, 3, "TXB_CTRL", fun _ => [⟨0, 0, .w1s, 0⟩, ⟨1, 1, .w1s, 0⟩, ⟨2, 2, .rov, 0⟩, ⟨5, 4, .rov, 0⟩, ⟨6, 6, .rov, 0⟩, ⟨7, 7, .rov, 0⟩, ⟨31, 16, .rov, 0⟩]⟩,
  ⟨0x204, 80, 3, "TXB_ID", fun _ => [⟨29, 0, .rw, 0⟩]⟩,
  ⟨0x208, 80, 3, "TXB_INFO", fun _ => [⟨1, 0, .rw, 0⟩, ⟨2, 2, .rw, 0⟩, ⟨3, 3, .rw, 0⟩, ⟨4, 4, .rw, 0⟩, ⟨11, 5, .rw, 0⟩, ⟨23, 16, .rw, 0⟩, ⟨31, 24, .rw, 0⟩]⟩,
  ⟨0x20C, 80, 3, "TXB_AF", fun _ => [⟨31, 0, .rw, 0⟩]⟩,
  ⟨0x210, 80, 3, "TXB_DATA0", fun _ => [⟨31, 0, .rw, 0⟩]⟩,
  ⟨0x214, 80, 3, "TXB_DATA1", fun _ => [⟨31, 0, .rw, 0⟩]⟩,
  ⟨0x218, 80, 3, "TXB_DATA2", fun _ => [⟨31, 0, .rw, 0⟩]⟩,
  ⟨0x21C, 80, 3, "TXB_DATA3", fun _ => [⟨31, 0, .rw, 0⟩]⟩,
  ⟨0x220, 80, 3, "TXB_DATA4", fun _ => [⟨31, 0, .rw, 0⟩]⟩,
  ⟨0x224, 80, 3, "TXB_DATA5", fun _ => [⟨31, 0, .rw, 0⟩]⟩,
  ⟨0x228, 80, 3, "TXB_DATA6", fun _ => [⟨31, 0, .rw, 0⟩]⟩,
  ⟨0x22C, 80, 3, "TXB_DATA7", fun _ => [⟨31, 0, .rw, 0⟩]⟩,
  ⟨0x230, 80, 3, "TXB_DATA8", fun _ => [⟨31, 0, .rw, 0⟩]⟩,
  ⟨0x234, 80, 3, "TXB_DATA9", fun _ => [⟨31, 0, .rw, 0⟩]⟩,
  ⟨0x238, 80, 3, "TXB_DATA10", fun _ => [⟨31, 0, .rw, 0⟩]⟩,
  ⟨0x23C, 80, 3, "TXB_DATA11", fun _ => [⟨31, 0, .rw, 0⟩]⟩,
  ⟨0x240, 80, 3, "TXB_DATA12", fun _ => [⟨31, 0, .rw, 0⟩]⟩,
  ⟨0x244, 80, 3, "TXB_DATA13", fun _ => [⟨31, 0, .rw, 0⟩]⟩,
  ⟨0x248, 80, 3, "TXB_DATA14", fun _ => [⟨31, 0, .rw, 0⟩]⟩,
  ⟨0x24C, 80, 3, "TXB_DATA15", fun _ => [⟨31, 0, .rw, 0⟩]⟩,
  ⟨0x400, 4, 32, "RXMB_HDR", fun _ => [⟨7, 0, .rov, 0⟩, ⟨8, 8, .rc, 0⟩, ⟨9, 9, .rc, 0⟩, ⟨10, 10, .rov, 0⟩, ⟨11, 11, .rov, 0⟩, ⟨23, 12, .rov, 0⟩, ⟨25, 24, .rov, 0⟩, ⟨26, 26, .rov, 0⟩, ⟨27, 27, .rov, 0⟩, ⟨28, 28, .rov, 0⟩, ⟨29, 29, .rov, 0⟩]⟩,
  ⟨0x480, 4, 1, "HPB_HDR", fun _ => [⟨7, 0, .rov, 0⟩, ⟨8, 8, .rc, 0⟩, ⟨9, 9, .rc, 0⟩, ⟨10, 10, .rov, 0⟩, ⟨11, 11, .rov, 0⟩, ⟨23, 12, .rov, 0⟩, ⟨25, 24, .rov, 0⟩, ⟨26, 26, .rov, 0⟩, ⟨27, 27, .rov, 0⟩, ⟨28, 28, .rov, 0⟩, ⟨29, 29, .rov, 0⟩]⟩,
  ⟨0x500, 4, 32, "RXMB_FILT", fun _ => [⟨28, 0, .rws, 0⟩, ⟨29, 29, .rws, 0⟩, ⟨30, 30, .rws, 0⟩, ⟨31, 31, .rws, 0⟩]⟩,
  ⟨0x580, 4, 32, "RXMB_MASK", fun _ => [⟨28, 0, .rws, 0⟩, ⟨29, 29, .rws, 0⟩, ⟨31, 30, .rws, 0⟩]⟩,
  ⟨0x600, 4, 1, "SH_TAG", fun _ => [⟨5, 0, .rov, 0⟩, ⟨15, 8, .rov, 0⟩, ⟨31, 16, .rov, 0⟩]⟩,
  ⟨0x604, 4, 1, "SH_HDR", fun _ => [⟨31, 0, .rov, 0⟩]⟩,
  ⟨0x608, 4, 1, "SH_ID", fun _ => [⟨29, 0, .rov, 0⟩]⟩,
  ⟨0x60C, 4, 1, "SH_XL", fun _ => [⟨7, 0, .rov, 0⟩, ⟨15, 8, .rov, 0⟩]⟩,
  ⟨0x610, 4, 1, "SH_AF", fun _ => [⟨31, 0, .rov, 0⟩]⟩,
  ⟨0x614, 4, 1, "SH_TS_NS", fun _ => [⟨31, 0, .rov, 0⟩]⟩,
  ⟨0x618, 4, 1, "SH_TS_SEC", fun _ => [⟨31, 0, .rov, 0⟩]⟩,
  ⟨0x620, 4, 16, "SH_DATA", fun _ => [⟨31, 0, .rov, 0⟩]⟩]

/-- Pages 0x130-0x131,0x14C: spec/08_can_lin_controllers.md. -/
def coreRegs (_p : Nat) : List RSpec := [
  ⟨0x040, 4, 1, "CORE_STAT", fun _ => [⟨5, 0, .rov, 0x3F⟩, ⟨6, 6, .rov, 0⟩]⟩]

/-- Pages 0x140-0x14B: spec/08_can_lin_controllers.md. -/
def linRegs (_p : Nat) : List RSpec := [
  ⟨0x070, 4, 1, "LIN_CFG", fun _ => [⟨14, 0, .rws, 0x2580⟩, ⟨15, 15, .rws, 0⟩, ⟨20, 16, .rws, 0x0D⟩, ⟨21, 21, .rws, 0⟩, ⟨27, 24, .rws, 0⟩]⟩,
  ⟨0x074, 4, 4, "LIN_SCHED", fun _ => [⟨6, 0, .rws, 0⟩, ⟨14, 8, .rws, 0⟩]⟩,
  ⟨0x084, 4, 1, "LIN_SCHED_REQ", fun _ => [⟨1, 0, .rw, 0⟩, ⟨2, 2, .rw, 0⟩]⟩,
  ⟨0x088, 4, 1, "LIN_STAT", fun _ => [⟨0, 0, .rov, 0⟩, ⟨1, 1, .rov, 0⟩, ⟨3, 2, .rov, 0⟩, ⟨10, 4, .rov, 0⟩, ⟨31, 16, .rov, 0⟩]⟩,
  ⟨0x08C, 4, 1, "LIN_CMD", fun _ => [⟨0, 0, .wo, 0⟩]⟩,
  ⟨0x090, 4, 1, "LIN_ERR_FRAMING", fun _ => [⟨31, 0, .rc, 0⟩]⟩,
  ⟨0x094, 4, 1, "LIN_ERR_BIT", fun _ => [⟨31, 0, .rc, 0⟩]⟩,
  ⟨0x098, 4, 1, "COLLISIONS_LIN", fun _ => [⟨31, 0, .rc, 0⟩]⟩,
  ⟨0x200, 4, 128, "LIN_DATA", fun _ => [⟨31, 0, .rw, 0⟩]⟩,
  ⟨0x400, 4, 64, "LIN_FSTAT", fun _ => [⟨0, 0, .rov, 0⟩, ⟨1, 1, .rov, 0⟩, ⟨2, 2, .rov, 0⟩, ⟨15, 8, .rov, 0⟩]⟩]

/-- Pages 0x150: spec/09_relay_engine.md. -/
def rlyRegs (_p : Nat) : List RSpec := [
  ⟨0x040, 4, 1, "RLY_MAC_LO", fun _ => [⟨31, 0, .rws, 0⟩]⟩,
  ⟨0x044, 4, 1, "RLY_MAC_HI", fun _ => [⟨15, 0, .rws, 0⟩]⟩,
  ⟨0x048, 4, 1, "RLY_STAT", fun _ => [⟨9, 0, .rov, 0⟩, ⟨26, 16, .rov, 0x400⟩]⟩,
  ⟨0x080, 4, 1, "ROUTED", fun _ => [⟨31, 0, .rc, 0⟩]⟩,
  ⟨0x084, 4, 1, "NO_ROUTE", fun _ => [⟨31, 0, .rc, 0⟩]⟩,
  ⟨0x088, 4, 1, "COPIES", fun _ => [⟨31, 0, .rc, 0⟩]⟩,
  ⟨0x08C, 4, 1, "DROP_OVERFLOW", fun _ => [⟨31, 0, .rc, 0⟩]⟩,
  ⟨0x090, 4, 1, "DROP_TOO_LONG_PDU", fun _ => [⟨31, 0, .rc, 0⟩]⟩,
  ⟨0x094, 4, 1, "DROP_RLY_FORMAT", fun _ => [⟨31, 0, .rc, 0⟩]⟩,
  ⟨0x098, 4, 1, "DROP_DEADLINE", fun _ => [⟨31, 0, .rc, 0⟩]⟩,
  ⟨0x09C, 4, 1, "DROP_PARITY", fun _ => [⟨31, 0, .rc, 0⟩]⟩,
  ⟨0x0A0, 4, 1, "DROP_HOST_FULL", fun _ => [⟨31, 0, .rc, 0⟩]⟩,
  ⟨0x0A4, 4, 1, "DROP_MODE", fun _ => [⟨31, 0, .rc, 0⟩]⟩,
  ⟨0x0A8, 4, 1, "DROP_AUTH", fun _ => [⟨31, 0, .rc, 0⟩]⟩,
  ⟨0x0AC, 4, 1, "AUTH_FAILS", fun _ => [⟨31, 0, .rc, 0⟩]⟩,
  ⟨0x0B0, 4, 1, "DROP_ACF", fun _ => [⟨31, 0, .rc, 0⟩]⟩,
  ⟨0x0B4, 4, 1, "SEQ_GAP", fun _ => [⟨31, 0, .rc, 0⟩]⟩,
  ⟨0x0B8, 4, 1, "ACF_SKIPPED", fun _ => [⟨31, 0, .rc, 0⟩]⟩,
  ⟨0x0BC, 4, 1, "ACF_TS_INVALID", fun _ => [⟨31, 0, .rc, 0⟩]⟩,
  ⟨0x0C0, 4, 1, "SPLICE_SHORT", fun _ => [⟨31, 0, .rc, 0⟩]⟩,
  ⟨0x0C4, 4, 1, "LIN_OVERWRITE", fun _ => [⟨31, 0, .rc, 0⟩]⟩,
  ⟨0x0C8, 4, 1, "SIG_EXPIRIES", fun _ => [⟨31, 0, .rc, 0⟩]⟩]

/-- Pages 0x180: spec/10_time_photo_finish.md. -/
def timeRegs (_p : Nat) : List RSpec := [
  ⟨0x040, 4, 1, "TL_FRAC", fun _ => [⟨15, 0, .rov, 0⟩]⟩,
  ⟨0x044, 4, 1, "TL_NS", fun _ => [⟨31, 0, .rov, 0⟩]⟩,
  ⟨0x048, 4, 1, "TL_SEC_LO", fun _ => [⟨31, 0, .rov, 0⟩]⟩,
  ⟨0x04C, 4, 1, "TL_SEC_HI", fun _ => [⟨15, 0, .rov, 0⟩]⟩,
  ⟨0x050, 4, 1, "TIME_STAT", fun _ => [⟨3, 0, .rov, 0⟩, ⟨4, 4, .rov, 0⟩, ⟨5, 5, .rov, 0⟩]⟩,
  ⟨0x080, 4, 1, "FANOUT_FAULT", fun _ => [⟨31, 0, .rc, 0⟩]⟩,
  ⟨0x084, 4, 1, "DUAL_REPAIR", fun _ => [⟨31, 0, .rc, 0⟩]⟩,
  ⟨0x088, 4, 1, "DUAL_INVALID", fun _ => [⟨31, 0, .rc, 0⟩]⟩,
  ⟨0x08C, 4, 1, "TL_REPAIR", fun _ => [⟨31, 0, .rc, 0⟩]⟩]

/-- Pages 0x181-0x184: spec/10_time_photo_finish.md. -/
def domRegs (p : Nat) : List RSpec := [
  ⟨0x040, 4, 1, "DOM_CFG", fun _ => [⟨2, 0, .rw, 0⟩, ⟨5, 3, .rw, 0⟩, ⟨6, 6, .rw, 1⟩, ⟨7, 7, .rw, 0⟩, ⟨15, 8, .rw, (p-0x181)⟩]⟩,
  ⟨0x044, 4, 1, "DOM_STAT", fun _ => [⟨0, 0, .rov, 0⟩, ⟨2, 1, .rov, 0⟩, ⟨3, 3, .rov, 0⟩]⟩,
  ⟨0x048, 4, 1, "DOM_RATE", fun _ => [⟨31, 0, .rw, 0⟩]⟩,
  ⟨0x04C, 4, 1, "SERVO_GAIN", fun _ => [⟨15, 0, .rw, 0xB333⟩, ⟨31, 16, .rw, 0x4CCD⟩]⟩,
  ⟨0x050, 4, 1, "SERVO_TH", fun _ => [⟨15, 0, .rw, 0x64⟩, ⟨23, 16, .rw, 8⟩, ⟨31, 24, .rw, 1⟩]⟩,
  ⟨0x054, 4, 1, "SERVO_HOLD", fun _ => [⟨15, 0, .rw, 0x177⟩, ⟨26, 16, .rw, 0xD2⟩]⟩,
  ⟨0x058, 4, 1, "DOM_OFFSET", fun _ => [⟨31, 0, .rov, 0⟩]⟩,
  ⟨0x060, 4, 1, "DOM_FRAC", fun _ => [⟨15, 0, .rov, 0⟩]⟩,
  ⟨0x064, 4, 1, "DOM_NS", fun _ => [⟨31, 0, .rov, 0⟩]⟩,
  ⟨0x068, 4, 1, "DOM_SEC_LO", fun _ => [⟨31, 0, .rov, 0⟩]⟩,
  ⟨0x06C, 4, 1, "DOM_SEC_HI", fun _ => [⟨15, 0, .rov, 0⟩]⟩,
  ⟨0x070, 4, 1, "SET_NS", fun _ => [⟨31, 0, .rw, 0⟩]⟩,
  ⟨0x074, 4, 1, "SET_SEC_LO", fun _ => [⟨31, 0, .rw, 0⟩]⟩,
  ⟨0x078, 4, 1, "SET_SEC_HI", fun _ => [⟨15, 0, .rw, 0⟩]⟩,
  ⟨0x07C, 4, 1, "SET_CMD", fun _ => [⟨1, 0, .wo, 0⟩]⟩,
  ⟨0x088, 4, 1, "HOST_OFS", fun _ => [⟨31, 0, .wo, 0⟩]⟩,
  ⟨0x0C0, 4, 1, "STEP_CNT", fun _ => [⟨31, 0, .rc, 0⟩]⟩,
  ⟨0x0C4, 4, 1, "SAMPLES", fun _ => [⟨31, 0, .rc, 0⟩]⟩]

/-- Pages 0x188: spec/10_time_photo_finish.md. -/
def ptpRegs (_p : Nat) : List RSpec := [
  ⟨0x040, 4, 24, "PTP_PORT", fun _ => [⟨0, 0, .rw, 0⟩, ⟨1, 1, .rw, 0⟩, ⟨5, 2, .rw, 0⟩, ⟨9, 6, .rw, 0⟩, ⟨17, 10, .rw, 0⟩, ⟨18, 18, .rw, 0⟩]⟩,
  ⟨0x100, 8, 24, "LINK_DELAY", fun _ => [⟨31, 0, .rov, 0⟩]⟩,
  ⟨0x104, 8, 24, "NRR", fun _ => [⟨31, 0, .rov, 0⟩]⟩,
  ⟨0x200, 4, 24, "PTP_PSTAT", fun _ => [⟨0, 0, .rov, 0⟩, ⟨1, 1, .rov, 0⟩]⟩]

/-- Pages 0x189: spec/10_time_photo_finish.md. -/
def stampRegs (_p : Nat) : List RSpec := [
  ⟨0x040, 4, 28, "CORR_E", fun _ => [⟨15, 0, .rw, 0⟩, ⟨31, 16, .rw, 0⟩]⟩,
  ⟨0x0B0, 4, 48, "CORR_C", fun _ => [⟨15, 0, .rw, 0⟩]⟩]

/-- Pages 0x18C: spec/10_time_photo_finish.md. -/
def pistolRegs (_p : Nat) : List RSpec := [
  ⟨0x040, 32, 16, "PST_CFG", fun _ => [⟨0, 0, .rws, 0⟩, ⟨2, 1, .rws, 0⟩, ⟨5, 3, .rws, 0⟩, ⟨6, 6, .rws, 0⟩, ⟨23, 8, .rws, 0⟩]⟩,
  ⟨0x044, 32, 16, "PST_SEC_LO", fun _ => [⟨31, 0, .rws, 0⟩]⟩,
  ⟨0x048, 32, 16, "PST_SEC_HI", fun _ => [⟨15, 0, .rws, 0⟩]⟩,
  ⟨0x04C, 32, 16, "PST_NS", fun _ => [⟨29, 0, .rws, 0⟩, ⟨31, 30, .rws, 0⟩]⟩,
  ⟨0x050, 32, 16, "PST_PERIOD", fun _ => [⟨29, 0, .rws, 0⟩, ⟨31, 30, .rws, 0⟩]⟩,
  ⟨0x054, 32, 16, "PST_WIDTH", fun _ => [⟨29, 0, .rws, 0⟩]⟩,
  ⟨0x058, 32, 16, "PST_CORR", fun _ => [⟨15, 0, .rw, 0⟩]⟩,
  ⟨0x05C, 32, 16, "PST_STAT", fun _ => [⟨15, 0, .rov, 0⟩, ⟨16, 16, .rov, 0⟩, ⟨17, 17, .rov, 0⟩, ⟨18, 18, .rov, 0⟩]⟩]

/-- Pages 0x18D: spec/10_time_photo_finish.md. -/
def captureRegs (_p : Nat) : List RSpec := [
  ⟨0x040, 32, 8, "CAP_CFG", fun _ => [⟨0, 0, .rw, 0⟩, ⟨2, 1, .rw, 0⟩, ⟨5, 3, .rw, 0⟩]⟩,
  ⟨0x044, 32, 8, "CAP_TS_NS", fun _ => [⟨29, 0, .rc, 0⟩, ⟨30, 30, .rc, 0⟩, ⟨31, 31, .rc, 0⟩]⟩,
  ⟨0x048, 32, 8, "CAP_TS_SEC", fun _ => [⟨31, 0, .rov, 0⟩]⟩,
  ⟨0x04C, 32, 8, "CAP_TS_HI", fun _ => [⟨15, 0, .rov, 0⟩, ⟨17, 16, .rov, 0⟩, ⟨18, 18, .rov, 0⟩, ⟨28, 24, .rov, 0⟩]⟩,
  ⟨0x050, 32, 8, "CAP_CORR", fun _ => [⟨15, 0, .rw, 0⟩]⟩,
  ⟨0x054, 32, 8, "CAP_OVF", fun _ => [⟨31, 0, .rc, 0⟩]⟩]

/-- Pages 0x18E: spec/10_time_photo_finish.md. -/
def cansyncRegs (_p : Nat) : List RSpec := [
  ⟨0x040, 16, 8, "CTS_CFG", fun _ => [⟨0, 0, .rw, 0⟩, ⟨1, 1, .rw, 0⟩, ⟨7, 2, .rw, 0⟩, ⟨9, 8, .rw, 0⟩, ⟨13, 10, .rw, 0⟩, ⟨14, 14, .rw, 0⟩]⟩,
  ⟨0x044, 16, 8, "CTS_ID", fun _ => [⟨28, 0, .rw, 0⟩]⟩,
  ⟨0x048, 16, 8, "CTS_TIME", fun _ => [⟨15, 0, .rw, 0⟩, ⟨31, 16, .rw, 0⟩]⟩,
  ⟨0x04C, 16, 8, "CTS_USER", fun _ => [⟨23, 0, .rw, 0⟩, ⟨31, 24, .rw, 0⟩]⟩,
  ⟨0x0C0, 4, 8, "CTS_LOST", fun _ => [⟨31, 0, .rc, 0⟩]⟩]

/-- Pages 0x18F: spec/10_time_photo_finish.md. -/
def ttcanRegs (_p : Nat) : List RSpec := [
  ⟨0x200, 4, 48, "TT_MISSED", fun _ => [⟨31, 0, .rc, 0⟩]⟩]

/-- Pages 0x011: spec/11_referee.md. -/
def refRegs (_p : Nat) : List RSpec := [
  ⟨0x040, 4, 1, "REF_VERDICT", fun _ => [⟨15, 0, .rov, 0⟩, ⟨25, 16, .rov, 0⟩, ⟨26, 26, .rov, 0⟩, ⟨27, 27, .rov, 0⟩]⟩,
  ⟨0x044, 4, 1, "REF_VBOUND", fun _ => [⟨31, 0, .rov, 0⟩]⟩,
  ⟨0x048, 4, 1, "REF_VDEADLINE", fun _ => [⟨31, 0, .rov, 0⟩]⟩,
  ⟨0x04C, 4, 1, "REF_VTAG", fun _ => [⟨31, 0, .rov, 0⟩]⟩,
  ⟨0x050, 4, 1, "REF_CHECK_US", fun _ => [⟨15, 0, .rov, 0⟩]⟩,
  ⟨0x054, 4, 1, "REF_CNT_A", fun _ => [⟨10, 0, .rov, 0⟩, ⟨26, 16, .rov, 0⟩]⟩,
  ⟨0x058, 4, 1, "REF_CNT_B", fun _ => [⟨10, 0, .rov, 0⟩, ⟨26, 16, .rov, 0⟩]⟩,
  ⟨0x080, 4, 28, "REF_LANE_DECL", fun _ => [⟨7, 0, .rws, 0⟩]⟩,
  ⟨0x0F0, 4, 1, "REF_CAN_DECL_LO", fun _ => [⟨31, 0, .rws, 0⟩]⟩,
  ⟨0x0F4, 4, 1, "REF_CAN_DECL_HI", fun _ => [⟨15, 0, .rws, 0⟩]⟩]

/-- Pages 0x1A0: spec/13_keys_attestation_macsec.md. -/
def keyRegs (_p : Nat) : List RSpec := [
  ⟨0x040, 4, 1, "KEY_CMD", fun _ => [⟨2, 0, .wo, 0⟩, ⟨15, 8, .wo, 0⟩, ⟨23, 16, .wo, 0⟩]⟩,
  ⟨0x044, 4, 1, "KEY_CMD_ATTR", fun _ => [⟨31, 0, .rw, 0x320⟩]⟩,
  ⟨0x048, 4, 1, "KEY_CMD_MASTERS", fun _ => [⟨15, 0, .rw, 0⟩]⟩,
  ⟨0x04C, 4, 1, "KEY_CMD_LEN", fun _ => [⟨5, 0, .rw, 0⟩, ⟨13, 8, .rw, 0⟩]⟩,
  ⟨0x050, 4, 1, "KEY_STAT", fun _ => [⟨0, 0, .rov, 0⟩, ⟨1, 1, .rov, 0⟩, ⟨31, 16, .rov, 0⟩]⟩,
  ⟨0x060, 4, 8, "KEY_LABEL", fun _ => [⟨31, 0, .rw, 0⟩]⟩,
  ⟨0x080, 4, 8, "KEY_CTX", fun _ => [⟨31, 0, .rw, 0⟩]⟩,
  ⟨0x0A0, 4, 1, "KEY_USE_REFUSED", fun _ => [⟨31, 0, .rc, 0⟩]⟩,
  ⟨0x0A4, 4, 1, "KEY_WIPES", fun _ => [⟨31, 0, .rc, 0⟩]⟩]

/-- Pages 0x1A2: spec/13_keys_attestation_macsec.md. -/
def nvmRegs (_p : Nat) : List RSpec := [
  ⟨0x040, 4, 1, "NVM_STAT", fun _ => [⟨0, 0, .rov, 0⟩, ⟨5, 1, .rov, 0⟩, ⟨6, 6, .rov, 0⟩, ⟨7, 7, .rov, 0⟩, ⟨8, 8, .rov, 0⟩, ⟨23, 16, .rov, 0⟩, ⟨31, 24, .rov, 0⟩]⟩]

/-- Pages 0x1A3: spec/13_keys_attestation_macsec.md. -/
def attestRegs (_p : Nat) : List RSpec := [
  ⟨0x040, 4, 1, "ATT_CMD", fun _ => [⟨0, 0, .wo, 0⟩]⟩,
  ⟨0x044, 4, 1, "ATT_CFG", fun _ => [⟨6, 0, .rw, 8⟩, ⟨10, 8, .rw, 4⟩]⟩,
  ⟨0x048, 4, 1, "ATT_STAT", fun _ => [⟨0, 0, .rov, 0⟩, ⟨1, 1, .rov, 0⟩, ⟨13, 2, .rov, 0⟩, ⟨31, 16, .rov, 0⟩]⟩,
  ⟨0x080, 4, 16, "ATT_NONCE", fun _ => [⟨31, 0, .rw, 0⟩]⟩,
  ⟨0x100, 4, 1, "CERT_SEL", fun _ => [⟨1, 0, .rw, 0⟩]⟩,
  ⟨0x104, 4, 1, "CERT_LEN", fun _ => [⟨10, 0, .rov, 0⟩]⟩,
  ⟨0x400, 4, 256, "CERT_OUT", fun _ => [⟨31, 0, .rov, 0⟩]⟩,
  ⟨0x800, 4, 512, "ATT_OUT", fun _ => [⟨31, 0, .rov, 0⟩]⟩]

/-- Pages 0x1A4: spec/13_keys_attestation_macsec.md. -/
def drbgRegs (_p : Nat) : List RSpec := [
  ⟨0x040, 4, 1, "DRBG_CFG", fun _ => [⟨0, 0, .rw, 0⟩]⟩,
  ⟨0x044, 4, 1, "DRBG_STAT", fun _ => [⟨0, 0, .rov, 0⟩, ⟨1, 1, .rov, 0⟩, ⟨2, 2, .rov, 0⟩, ⟨3, 3, .rov, 0⟩]⟩,
  ⟨0x048, 4, 1, "DRBG_OUT", fun _ => [⟨31, 0, .rc, 0⟩]⟩,
  ⟨0x04C, 4, 1, "DRBG_FAILS", fun _ => [⟨31, 0, .rc, 0⟩]⟩]

/-- Pages 0x1A5: spec/13_keys_attestation_macsec.md. -/
def lifeRegs (_p : Nat) : List RSpec := [
  ⟨0x040, 4, 1, "LC_REQ", fun _ => [⟨2, 0, .wo, 0⟩, ⟨31, 16, .wo, 0⟩]⟩,
  ⟨0x044, 4, 1, "LC_STAT", fun _ => [⟨0, 0, .rov, 0⟩, ⟨3, 1, .rov, 0⟩, ⟨4, 4, .rov, 0⟩, ⟨31, 16, .rov, 0⟩]⟩,
  ⟨0x048, 4, 1, "LC_NONCE_LO", fun _ => [⟨31, 0, .rov, 0⟩]⟩,
  ⟨0x04C, 4, 1, "LC_NONCE_HI", fun _ => [⟨31, 0, .rov, 0⟩]⟩,
  ⟨0x050, 4, 1, "LC_ROLLBACK", fun _ => [⟨6, 0, .rov, 0⟩]⟩,
  ⟨0x054, 4, 1, "LC_ROLLBACK_CMD", fun _ => [⟨0, 0, .wo, 0⟩]⟩,
  ⟨0x080, 4, 28, "LC_TOKEN", fun _ => [⟨31, 0, .rw, 0⟩]⟩]

/-- Pages 0x1C0: spec/14_self_test_reserve.md. -/
def stRegs (_p : Nat) : List RSpec := [
  ⟨0x040, 4, 1, "ST_CFG", fun _ => [⟨15, 0, .rw, 0x5A0⟩, ⟨23, 16, .rw, 1⟩, ⟨24, 24, .rw, 1⟩, ⟨25, 25, .rw, 1⟩]⟩,
  ⟨0x044, 4, 1, "ST_CMD", fun _ => [⟨3, 0, .wo, 0⟩, ⟨31, 16, .wo, 0⟩]⟩,
  ⟨0x048, 4, 1, "ST_STAT", fun _ => [⟨1, 0, .rov, 0⟩, ⟨2, 2, .rov, 0⟩, ⟨15, 8, .rov, 0⟩, ⟨31, 16, .rov, 0⟩]⟩,
  ⟨0x04C, 4, 1, "ST_LAP", fun _ => [⟨15, 0, .rov, 0⟩]⟩,
  ⟨0x080, 4, 1, "ST_PASS", fun _ => [⟨31, 0, .rc, 0⟩]⟩,
  ⟨0x084, 4, 1, "ST_FAIL", fun _ => [⟨31, 0, .rc, 0⟩]⟩,
  ⟨0x088, 4, 1, "ST_INCOMPLETE", fun _ => [⟨31, 0, .rc, 0⟩]⟩,
  ⟨0x08C, 4, 1, "ST_TRANSIENT", fun _ => [⟨31, 0, .rc, 0⟩]⟩,
  ⟨0x090, 4, 1, "ST_UNTESTABLE", fun _ => [⟨31, 0, .rc, 0⟩]⟩]

/-- Pages 0x1C2: spec/14_self_test_reserve.md. -/
def mbistRegs (_p : Nat) : List RSpec := [
  ⟨0x040, 4, 1, "MB_LOG0", fun _ => [⟨15, 0, .rc, 0⟩, ⟨22, 16, .rc, 0⟩, ⟨23, 23, .rc, 0⟩, ⟨24, 24, .rc, 0⟩, ⟨25, 25, .rc, 0⟩, ⟨31, 31, .rc, 0⟩]⟩,
  ⟨0x044, 4, 1, "MB_LOG1", fun _ => [⟨19, 0, .rov, 0⟩]⟩,
  ⟨0x048, 4, 1, "MB_FUSE", fun _ => [⟨8, 0, .rov, 0⟩]⟩,
  ⟨0x080, 4, 1, "MB_LOST", fun _ => [⟨31, 0, .rc, 0⟩]⟩]

/-- The body registers of a page (R113 and the page lists of the chapters); a page that no chapter describes carries only the header. -/
def pageBody (p : Nat) : List RSpec :=
  (if p == 0x000 then devRegs p
  else if p == 0x001 then pwrRegs p
  else if p == 0x002 then senseRegs p
  else if p == 0x004 then pllRegs p
  else if p == 0x005 then rstRegs p
  else if p == 0x010 then heatRegs p
  else if (0x020 ≤ p && p ≤ 0x021) then brgRegs p
  else if (0x028 ≤ p && p ≤ 0x031) then fnRegs p
  else if p == 0x032 then fnP1Regs p
  else if p == 0x1F0 then logRegs p
  else if p == 0x1E0 then aggCtrlRegs p
  else if p == 0x1E1 then aggRouteRegs p
  else if p == 0x1D0 then wakeCtrlRegs p
  else if p == 0x1D1 then wakeInRegs p
  else if p == 0x1D2 then pnfRegs p
  else if p == 0x1D3 then t1sWakeRegs p
  else if (0x040 ≤ p && p ≤ 0x05B) then macRegs p
  else if (0x060 ≤ p && p ≤ 0x077) then lanePhyRegs p
  else if (0x078 ≤ p && p ≤ 0x07B) then t1sRegs p
  else if (0x07C ≤ p && p ≤ 0x07D) then mdioRegs p
  else if p == 0x080 then fwdCtrlRegs p
  else if p == 0x081 then fwdPortRegs p
  else if p == 0x082 then fwdMirrorRegs p
  else if (0x090 ≤ p && p ≤ 0x091) then roleRegs p
  else if (0x098 ≤ p && p ≤ 0x09A) then sliceRegs p
  else if p == 0x0C0 then clsRegs p
  else if p == 0x0C1 then sgateRegs p
  else if p == 0x0C3 then meterRegs p
  else if p == 0x0C4 then bufRegs p
  else if (0x0C8 ≤ p && p ≤ 0x0E3) then lanesRegs p
  else if (0x100 ≤ p && p ≤ 0x12F) then canRegs p
  else if (0x130 ≤ p && p ≤ 0x131) || p == 0x14C then coreRegs p
  else if (0x140 ≤ p && p ≤ 0x14B) then linRegs p
  else if p == 0x150 then rlyRegs p
  else if p == 0x180 then timeRegs p
  else if (0x181 ≤ p && p ≤ 0x184) then domRegs p
  else if p == 0x188 then ptpRegs p
  else if p == 0x189 then stampRegs p
  else if p == 0x18C then pistolRegs p
  else if p == 0x18D then captureRegs p
  else if p == 0x18E then cansyncRegs p
  else if p == 0x18F then ttcanRegs p
  else if p == 0x011 then refRegs p
  else if p == 0x1A0 then keyRegs p
  else if p == 0x1A2 then nvmRegs p
  else if p == 0x1A3 then attestRegs p
  else if p == 0x1A4 then drbgRegs p
  else if p == 0x1A5 then lifeRegs p
  else if p == 0x1C0 then stRegs p
  else if p == 0x1C2 then mbistRegs p
  else []) ++ (if hasTable p then tblRegs p else [])

/-- Every register of a page: the common header and the body. -/
def pageRegs (p : Nat) : List RSpec := hdrRegs p ++ pageBody p

/-- The fields of the register at offset `off` of a list of registers. -/
def fieldsIn (l : List RSpec) (off : Nat) : List RField :=
  match l with
  | [] => []
  | r :: t =>
    if r.base ≤ off && (off - r.base) % r.stride == 0 && decide ((off - r.base) / r.stride < r.count) then
      r.fields ((off - r.base) / r.stride)
    else fieldsIn t off

/-- The fields of the register at offset `off` of page `p`; none where the spec puts no register there. -/
def regFields (p off : Nat) : List RField :=
  if off < 0x40 then fieldsIn (hdrRegs p) off else fieldsIn (pageBody p) off

namespace R

def PAGE_ID_HDR_VER : Fld := ⟨0x000, 7, 0⟩
def PAGE_ID_INSTANCE : Fld := ⟨0x000, 15, 8⟩
def PAGE_ID_TYPE : Fld := ⟨0x000, 31, 16⟩
def PAGE_CAP_CAP : Fld := ⟨0x004, 31, 0⟩
def PAGE_CTRL_ENABLE : Fld := ⟨0x008, 0, 0⟩
def PAGE_CTRL_FREEZE : Fld := ⟨0x008, 1, 1⟩
def PAGE_CTRL_SOFT_RESET : Fld := ⟨0x008, 2, 2⟩
def PAGE_CTRL_VIEW : Fld := ⟨0x008, 3, 3⟩
def PAGE_STAT_READY : Fld := ⟨0x00C, 0, 0⟩
def PAGE_STAT_IN_TEST : Fld := ⟨0x00C, 1, 1⟩
def PAGE_STAT_ON_RESERVE : Fld := ⟨0x00C, 2, 2⟩
def PAGE_STAT_SCRATCHED : Fld := ⟨0x00C, 3, 3⟩
def PAGE_STAT_POWERED : Fld := ⟨0x00C, 4, 4⟩
def IRQ_RAW : Fld := ⟨0x010, 31, 0⟩
def IRQ_EN : Fld := ⟨0x014, 31, 0⟩
def IRQ_PEND : Fld := ⟨0x018, 31, 0⟩
def IRQ_SET : Fld := ⟨0x01C, 31, 0⟩
def ERR_ADDR : Fld := ⟨0x020, 31, 0⟩
def ERR_INFO_CODE : Fld := ⟨0x024, 15, 0⟩
def ERR_INFO_MASTER : Fld := ⟨0x024, 19, 16⟩
def ERR_INFO_NORMAL : Fld := ⟨0x024, 20, 20⟩
def ERR_COUNT : Fld := ⟨0x028, 15, 0⟩
def HEAT_LIVE : Fld := ⟨0x02C, 31, 0⟩
def HEAT_STAGED_TAG : Fld := ⟨0x030, 30, 0⟩
def HEAT_STAGED_DIRTY : Fld := ⟨0x030, 31, 31⟩
def LOCK_RD : Fld := ⟨0x034, 2, 0⟩
def LOCK_WR : Fld := ⟨0x034, 10, 8⟩
def LOCK_VF_MASK : Fld := ⟨0x034, 23, 16⟩
def LOCK_FINAL : Fld := ⟨0x034, 31, 31⟩
def RESERVE_MAP_HOME : Fld := ⟨0x038, 3, 0⟩
def RESERVE_MAP_SERVING : Fld := ⟨0x038, 7, 4⟩
def RESERVE_MAP_SUBST : Fld := ⟨0x038, 8, 8⟩
def TEST_RESULT_RESULT : Fld := ⟨0x03C, 1, 0⟩
def TEST_RESULT_SLICE : Fld := ⟨0x03C, 15, 8⟩
def TEST_RESULT_LAP : Fld := ⟨0x03C, 31, 16⟩
def DEV_MODE_POWER : Fld := ⟨0x040, 3, 0⟩
def DEV_MODE_SERVICE : Fld := ⟨0x040, 7, 4⟩
def DEV_MODE_TRUST : Fld := ⟨0x040, 11, 8⟩
def DEV_MODE_MAINT_PENDING : Fld := ⟨0x040, 12, 12⟩
def DEV_MODE_DIAG_PENDING : Fld := ⟨0x040, 13, 13⟩
def DEV_MODE_TRIM_DROOP : Fld := ⟨0x040, 14, 14⟩
def DEV_MODE_TRIM_THERMAL : Fld := ⟨0x040, 15, 15⟩
def DEV_MODE_TRIM_BY_REQ : Fld := ⟨0x040, 16, 16⟩
def DEV_MODE_LIFECYCLE : Fld := ⟨0x040, 19, 17⟩
def DEV_MODE_TAMPER : Fld := ⟨0x040, 20, 20⟩
def DEV_MODE_QUAR_CAUSE : Fld := ⟨0x040, 31, 24⟩
def DEV_MODE_REQ_TRIM_REQ : Fld := ⟨0x044, 0, 0⟩
def DEV_MODE_REQ_REST_REQ : Fld := ⟨0x044, 1, 1⟩
def DEV_MODE_REQ_SERVICE_REQ : Fld := ⟨0x044, 5, 4⟩
def DEV_MODE_REQ_QUAR_CLEAR : Fld := ⟨0x044, 8, 8⟩
def DEV_MODE_CFG_TRIM_HOLD : Fld := ⟨0x048, 7, 0⟩
def DEV_MODE_CFG_PG_HOLD : Fld := ⟨0x048, 15, 8⟩
def DEV_MODE_CFG_DIAG_EXIT_HOLD : Fld := ⟨0x048, 23, 16⟩
def DEV_PART_PART : Fld := ⟨0x04C, 15, 0⟩
def DEV_PART_STEP_MAJOR : Fld := ⟨0x04C, 19, 16⟩
def DEV_PART_STEP_MINOR : Fld := ⟨0x04C, 23, 20⟩
def DEV_PART_GRADE : Fld := ⟨0x04C, 31, 24⟩
def DEV_UID_LO : Fld := ⟨0x050, 31, 0⟩
def DEV_UID_HI : Fld := ⟨0x054, 31, 0⟩
def DEV_FW_VER_PATCH : Fld := ⟨0x058, 7, 0⟩
def DEV_FW_VER_SECVER : Fld := ⟨0x058, 15, 8⟩
def DEV_FW_VER_MINOR : Fld := ⟨0x058, 23, 16⟩
def DEV_FW_VER_MAJOR : Fld := ⟨0x058, 31, 24⟩
def DEV_SCRATCH_COUNT : Fld := ⟨0x05C, 7, 0⟩
def DEV_SCRATCH_UNSERVED : Fld := ⟨0x05C, 8, 8⟩
def PWR_LEAN_CFG_BUDGET : Fld := ⟨0x040, 11, 0⟩
def PWR_LEAN_CFG_ROLE_A : Fld := ⟨0x040, 16, 16⟩
def PWR_LEAN_CFG_ROLE_B : Fld := ⟨0x040, 17, 17⟩
def PWR_LEAN_CFG_PD_SET : Fld := ⟨0x040, 26, 19⟩
def PWR_STAT_VSB_SRC : Fld := ⟨0x044, 0, 0⟩
def PWR_STAT_VSB_MAIN_OK : Fld := ⟨0x044, 1, 1⟩
def PWR_STAT_VSB_BAK_OK : Fld := ⟨0x044, 2, 2⟩
def PWR_STAT_PG_MAIN : Fld := ⟨0x044, 3, 3⟩
def PWR_STAT_PG_BAK : Fld := ⟨0x044, 4, 4⟩
def PWR_STAT_PWR_REQ : Fld := ⟨0x044, 5, 5⟩
def PWR_STAT_DOMAIN_ON : Fld := ⟨0x044, 31, 16⟩
def PWR_SENSE_CFG_DROOP_TH : Fld := ⟨0x040, 3, 0⟩
def PWR_SENSE_CFG_THERM_TRIM : Fld := ⟨0x040, 15, 8⟩
def PWR_SENSE_CFG_THERM_HYST : Fld := ⟨0x040, 19, 16⟩
def PWR_SENSE_CFG_THERM_CRIT : Fld := ⟨0x040, 31, 24⟩
def THERM_STAT_TJ_MAX : Fld := ⟨0x044, 7, 0⟩
def THERM_STAT_HOT_SENSOR : Fld := ⟨0x044, 10, 8⟩
def THERM_STAT_DROOP_NOW : Fld := ⟨0x044, 16, 16⟩
def THERM_STAT_ABOVE_TRIM : Fld := ⟨0x044, 17, 17⟩
def THERM_STAT_ABOVE_CRIT : Fld := ⟨0x044, 18, 18⟩
def PLL_STAT_LOCKED : Fld := ⟨0x040, 5, 0⟩
def PLL_STAT_SUBST : Fld := ⟨0x040, 10, 8⟩
def PLL_STAT_PLL_SCRATCHED : Fld := ⟨0x040, 20, 16⟩
def PLL_STAT_RESERVE_SCRATCHED : Fld := ⟨0x040, 21, 21⟩
def PLL_STAT_REF_OK : Fld := ⟨0x040, 24, 24⟩
def PLL_STAT_REF_ON_RC : Fld := ⟨0x040, 25, 25⟩
def RST_CTRL_WARM : Fld := ⟨0x040, 0, 0⟩
def RST_CTRL_DOM_RST : Fld := ⟨0x040, 31, 16⟩
def RST_CAUSE_POR_INTERNAL : Fld := ⟨0x044, 0, 0⟩
def RST_CAUSE_PORST_PIN : Fld := ⟨0x044, 1, 1⟩
def RST_CAUSE_WRST_PIN : Fld := ⟨0x044, 2, 2⟩
def RST_CAUSE_WARM_REQ : Fld := ⟨0x044, 3, 3⟩
def RST_CAUSE_WATCHDOG : Fld := ⟨0x044, 4, 4⟩
def RST_CAUSE_REFCLK_RETURN : Fld := ⟨0x044, 5, 5⟩
def RST_CAUSE_REST_EXIT : Fld := ⟨0x044, 6, 6⟩
def HEAT_CMD_OP : Fld := ⟨0x040, 2, 0⟩
def HEAT_TAG : Fld := ⟨0x044, 31, 0⟩
def HEAT_ACT_MODE_MODE : Fld := ⟨0x048, 1, 0⟩
def HEAT_ACT_MODE_DOMAIN : Fld := ⟨0x048, 3, 2⟩
def HEAT_ACT_MODE_PORT : Fld := ⟨0x048, 12, 8⟩
def HEAT_ACT_SEC_LO : Fld := ⟨0x04C, 31, 0⟩
def HEAT_ACT_SEC_HI : Fld := ⟨0x050, 15, 0⟩
def HEAT_ACT_NS : Fld := ⟨0x054, 31, 0⟩
def HEAT_STAT_BUSY : Fld := ⟨0x05C, 0, 0⟩
def HEAT_STAT_LAST_OP : Fld := ⟨0x05C, 3, 1⟩
def HEAT_STAT_RESULT : Fld := ⟨0x05C, 6, 4⟩
def HEAT_STAT_ARMED : Fld := ⟨0x05C, 12, 8⟩
def HEAT_STAT_CODE : Fld := ⟨0x05C, 31, 16⟩
def HEAT_STORE_FREE : Fld := ⟨0x060, 17, 0⟩
def HEAT_OPEN_SIZE_REGS : Fld := ⟨0x064, 12, 0⟩
def HEAT_OPEN_SIZE_TBLS : Fld := ⟨0x064, 29, 16⟩
def HEAT_ARM (k : Nat) : Fld := ⟨0x080 + 4 * k, 31, 0⟩
def BRG_STAT_LINK_UP : Fld := ⟨0x040, 0, 0⟩
def BRG_STAT_SPEED : Fld := ⟨0x040, 3, 1⟩
def BRG_STAT_WIDTH : Fld := ⟨0x040, 6, 4⟩
def BRG_STAT_MPS : Fld := ⟨0x040, 9, 7⟩
def BRG_STAT_MRRS : Fld := ⟨0x040, 12, 10⟩
def BRG_STAT_RCB : Fld := ⟨0x040, 13, 13⟩
def BRG_CFG_CPL_TIMEOUT : Fld := ⟨0x044, 15, 0⟩
def PERR_LEVEL : Fld := ⟨0x048, 4, 0⟩
def PERR_POP : Fld := ⟨0x04C, 31, 0⟩
def PERR_LOST : Fld := ⟨0x050, 31, 0⟩
def PERR_E0_BATON : Fld := ⟨0x060, 15, 0⟩
def PERR_E0_MASTER : Fld := ⟨0x060, 19, 16⟩
def PERR_E0_VF : Fld := ⟨0x060, 22, 20⟩
def PERR_E1_OFFSET : Fld := ⟨0x064, 25, 0⟩
def PERR_E1_BAR : Fld := ⟨0x064, 28, 26⟩
def PERR_E2_DATA : Fld := ⟨0x068, 31, 0⟩
def PERR_E3_CODE : Fld := ⟨0x06C, 15, 0⟩
def PERR_E3_DW : Fld := ⟨0x06C, 26, 16⟩
def BRG_BATON : Fld := ⟨0x040, 15, 0⟩
def BRG_FENCE_FAILED : Fld := ⟨0x044, 15, 0⟩
def BRG_FENCE_BATON : Fld := ⟨0x044, 31, 16⟩
def RING_IRQ_RAW : Fld := ⟨0x048, 31, 0⟩
def RING_IRQ_EN : Fld := ⟨0x04C, 31, 0⟩
def RING_IRQ_PEND : Fld := ⟨0x050, 31, 0⟩
def RING_IRQ_SET : Fld := ⟨0x054, 31, 0⟩
def RING_BASE_LO (r : Nat) : Fld := ⟨0x100 + 64 * r, 31, 8⟩
def RING_BASE_HI (r : Nat) : Fld := ⟨0x104 + 64 * r, 31, 0⟩
def RING_SIZE (r : Nat) : Fld := ⟨0x108 + 64 * r, 12, 0⟩
def RING_TAIL (r : Nat) : Fld := ⟨0x10C + 64 * r, 11, 0⟩
def RING_HEAD (r : Nat) : Fld := ⟨0x110 + 64 * r, 11, 0⟩
def RING_CFG_EN (r : Nat) : Fld := ⟨0x114 + 64 * r, 0, 0⟩
def RING_CFG_POLICY (r : Nat) : Fld := ⟨0x114 + 64 * r, 1, 1⟩
def RING_CFG_RING_WAIT (r : Nat) : Fld := ⟨0x114 + 64 * r, 11, 2⟩
def RING_CFG_TS_DOMAIN (r : Nat) : Fld := ⟨0x114 + 64 * r, 14, 12⟩
def RING_CFG_PRIO (r : Nat) : Fld := ⟨0x114 + 64 * r, 17, 15⟩
def RING_IRQ_MOD_COUNT (r : Nat) : Fld := ⟨0x118 + 64 * r, 7, 0⟩
def RING_IRQ_MOD_TIME (r : Nat) : Fld := ⟨0x118 + 64 * r, 23, 8⟩
def RING_LIMIT (r : Nat) : Fld := ⟨0x11C + 64 * r, 17, 0⟩
def RING_STAT_ACTIVE (r : Nat) : Fld := ⟨0x120 + 64 * r, 0, 0⟩
def RING_STAT_WAITING (r : Nat) : Fld := ⟨0x120 + 64 * r, 1, 1⟩
def RING_STAT_STOPPED (r : Nat) : Fld := ⟨0x120 + 64 * r, 2, 2⟩
def RING_STAT_CODE (r : Nat) : Fld := ⟨0x120 + 64 * r, 31, 16⟩
def RING_DONE (r : Nat) : Fld := ⟨0x124 + 64 * r, 31, 0⟩
def RING_DROP (r : Nat) : Fld := ⟨0x128 + 64 * r, 31, 0⟩
def RING_ABANDON (r : Nat) : Fld := ⟨0x12C + 64 * r, 31, 0⟩
def RING_HELD (r : Nat) : Fld := ⟨0x130 + 64 * r, 17, 0⟩
def LOG_CFG_SWITCH_TIME : Fld := ⟨0x040, 15, 0⟩
def LOG_CMD_REWIND : Fld := ⟨0x044, 0, 0⟩
def LOG_CMD_MARK : Fld := ⟨0x044, 1, 1⟩
def LOG_CMD_RELEASE : Fld := ⟨0x044, 2, 2⟩
def LOG_CMD_SWITCH : Fld := ⟨0x044, 3, 3⟩
def LOG_STAT_EMPTY : Fld := ⟨0x048, 0, 0⟩
def LOG_STAT_UNDERRUN : Fld := ⟨0x048, 1, 1⟩
def LOG_STAT_LOST : Fld := ⟨0x048, 2, 2⟩
def LOG_STAT_BANK_A : Fld := ⟨0x048, 4, 3⟩
def LOG_STAT_BANK_B : Fld := ⟨0x048, 6, 5⟩
def LOG_STAT_ABOVE : Fld := ⟨0x048, 7, 7⟩
def LOG_STAT_WM_HIT : Fld := ⟨0x048, 8, 8⟩
def LOG_AVAIL : Fld := ⟨0x04C, 21, 0⟩
def LOG_UNREL : Fld := ⟨0x050, 21, 0⟩
def LOG_WM : Fld := ⟨0x054, 21, 5⟩
def LOG_XING_WM_CROSSINGS : Fld := ⟨0x058, 15, 0⟩
def LOG_LOST_CNT : Fld := ⟨0x05C, 31, 0⟩
def LOG_UNDER_CNT : Fld := ⟨0x060, 31, 0⟩
def LOG_SEQ : Fld := ⟨0x064, 15, 0⟩
def LOG_RP_OFFSET : Fld := ⟨0x068, 19, 0⟩
def LOG_RP_BANK : Fld := ⟨0x068, 20, 20⟩
def LOG_MARK_OFFSET : Fld := ⟨0x06C, 19, 0⟩
def LOG_MARK_BANK : Fld := ⟨0x06C, 20, 20⟩
def FAULT_STAT_FIXED : Fld := ⟨0x040, 6, 0⟩
def FAULT_STAT_ROUTED : Fld := ⟨0x040, 7, 7⟩
def FAULT_STAT_FORCED : Fld := ⟨0x040, 8, 8⟩
def FAULT_STAT_PIN : Fld := ⟨0x040, 16, 16⟩
def FAULT_CTRL_FORCE : Fld := ⟨0x044, 0, 0⟩
def AGG_ACTIVE (k : Nat) : Fld := ⟨0x080 + 4 * k, 31, 0⟩
def AGG_ROUTE_VECTOR (k : Nat) : Fld := ⟨0x040 + 4 * k, 7, 0⟩
def AGG_ROUTE_MSI_EN (k : Nat) : Fld := ⟨0x040 + 4 * k, 8, 8⟩
def AGG_ROUTE_COACH (k : Nat) : Fld := ⟨0x040 + 4 * k, 9, 9⟩
def AGG_ROUTE_FAULT (k : Nat) : Fld := ⟨0x040 + 4 * k, 10, 10⟩
def AGG_ROUTE_ACTIVE (k : Nat) : Fld := ⟨0x040 + 4 * k, 16, 16⟩
def TBL_CMD_OP : Fld := ⟨0x040, 3, 0⟩
def TBL_IDX : Fld := ⟨0x044, 31, 0⟩
def TBL_STAT_BUSY : Fld := ⟨0x048, 0, 0⟩
def TBL_STAT_DONE : Fld := ⟨0x048, 1, 1⟩
def TBL_STAT_LIVE_E : Fld := ⟨0x048, 2, 2⟩
def TBL_STAT_CODE : Fld := ⟨0x048, 31, 16⟩
def TBL_DATA (k : Nat) : Fld := ⟨0x050 + 4 * k, 31, 0⟩
def WAKE_CAUSE_KIND : Fld := ⟨0x040, 3, 0⟩
def WAKE_CAUSE_INDEX : Fld := ⟨0x040, 9, 4⟩
def WAKE_CAUSE_WUF : Fld := ⟨0x040, 10, 10⟩
def WAKE_CAUSE_FEC_OVF : Fld := ⟨0x040, 11, 11⟩
def WAKE_ID_ID : Fld := ⟨0x044, 28, 0⟩
def WAKE_ID_IDE : Fld := ⟨0x044, 29, 29⟩
def WAKE_TL_NS : Fld := ⟨0x048, 31, 0⟩
def WAKE_TL_SEC : Fld := ⟨0x04C, 31, 0⟩
def WAKE_PEND : Fld := ⟨0x050, 18, 0⟩
def REST_CFG_PWR_WAKE : Fld := ⟨0x054, 0, 0⟩
def REST_CFG_PG_WAIT : Fld := ⟨0x054, 15, 8⟩
def WAKE_COUNT : Fld := ⟨0x080, 31, 0⟩
def NO_POWER_CNT : Fld := ⟨0x084, 31, 0⟩
def WK_CFG_EN (n : Nat) : Fld := ⟨0x100 + 16 * n, 0, 0⟩
def WK_CFG_POL (n : Nat) : Fld := ⟨0x100 + 16 * n, 1, 1⟩
def WK_CFG_ROLE (n : Nat) : Fld := ⟨0x100 + 16 * n, 3, 2⟩
def WK_CFG_EDGES (n : Nat) : Fld := ⟨0x100 + 16 * n, 5, 4⟩
def WK_CFG_DEBOUNCE (n : Nat) : Fld := ⟨0x100 + 16 * n, 13, 6⟩
def WK_LIM_CHATTER_EDGES (n : Nat) : Fld := ⟨0x104 + 16 * n, 7, 0⟩
def WK_LIM_CHATTER_WINDOW (n : Nat) : Fld := ⟨0x104 + 16 * n, 15, 8⟩
def WK_LIM_HOLDOFF (n : Nat) : Fld := ⟨0x104 + 16 * n, 23, 16⟩
def WK_STUCK_STUCK_TIME (n : Nat) : Fld := ⟨0x108 + 16 * n, 19, 0⟩
def WK_STAT_LEVEL (n : Nat) : Fld := ⟨0x10C + 16 * n, 0, 0⟩
def WK_STAT_RAW (n : Nat) : Fld := ⟨0x10C + 16 * n, 1, 1⟩
def WK_STAT_STUCK (n : Nat) : Fld := ⟨0x10C + 16 * n, 2, 2⟩
def WK_STAT_MASKED (n : Nat) : Fld := ⟨0x10C + 16 * n, 3, 3⟩
def WK_STAT_STUCK_HIT (n : Nat) : Fld := ⟨0x10C + 16 * n, 4, 4⟩
def WK_STAT_CHATTER_HIT (n : Nat) : Fld := ⟨0x10C + 16 * n, 5, 5⟩
def PN_CFG_MODE (c : Nat) : Fld := ⟨0x100 + 32 * c, 1, 0⟩
def PN_CFG_RATE (c : Nat) : Fld := ⟨0x100 + 32 * c, 3, 2⟩
def PN_CFG_IDE (c : Nat) : Fld := ⟨0x100 + 32 * c, 4, 4⟩
def PN_CFG_DATA_CHK (c : Nat) : Fld := ⟨0x100 + 32 * c, 5, 5⟩
def PN_CFG_DLC (c : Nat) : Fld := ⟨0x100 + 32 * c, 9, 6⟩
def PN_CFG_FD_TOLERANT (c : Nat) : Fld := ⟨0x100 + 32 * c, 10, 10⟩
def PN_CFG_ERR_WAKE (c : Nat) : Fld := ⟨0x100 + 32 * c, 11, 11⟩
def PN_ID (c : Nat) : Fld := ⟨0x104 + 32 * c, 28, 0⟩
def PN_MASK (c : Nat) : Fld := ⟨0x108 + 32 * c, 28, 0⟩
def PN_DMASK_LO (c : Nat) : Fld := ⟨0x10C + 32 * c, 31, 0⟩
def PN_DMASK_HI (c : Nat) : Fld := ⟨0x110 + 32 * c, 31, 0⟩
def PN_STAT_ARMED (c : Nat) : Fld := ⟨0x114 + 32 * c, 0, 0⟩
def PN_STAT_MATCHED (c : Nat) : Fld := ⟨0x114 + 32 * c, 1, 1⟩
def PN_STAT_FEC (c : Nat) : Fld := ⟨0x114 + 32 * c, 12, 8⟩
def T1S_WAKE_CFG_WAKE_EN (i : Nat) : Fld := ⟨0x040 + 4 * i, 0, 0⟩
def T1S_WAKE_CFG_WAKE_TX (i : Nat) : Fld := ⟨0x040 + 4 * i, 1, 1⟩
def PHY_SLP_ADDR_EN (k : Nat) : Fld := ⟨0x080 + 8 * k, 0, 0⟩
def PHY_SLP_ADDR_C45 (k : Nat) : Fld := ⟨0x080 + 8 * k, 1, 1⟩
def PHY_SLP_ADDR_PHYAD (k : Nat) : Fld := ⟨0x080 + 8 * k, 6, 2⟩
def PHY_SLP_ADDR_DEVAD (k : Nat) : Fld := ⟨0x080 + 8 * k, 11, 7⟩
def PHY_SLP_ADDR_PAIR (k : Nat) : Fld := ⟨0x080 + 8 * k, 12, 12⟩
def PHY_SLP_ADDR_REGAD (k : Nat) : Fld := ⟨0x080 + 8 * k, 31, 16⟩
def PHY_SLP_VAL (k : Nat) : Fld := ⟨0x084 + 8 * k, 15, 0⟩
def MAC_CFG_SPEED : Fld := ⟨0x040, 2, 0⟩
def MAC_CFG_CUT_THROUGH : Fld := ⟨0x040, 3, 3⟩
def MAC_CFG_PASS_MARKED : Fld := ⟨0x040, 4, 4⟩
def MAC_CFG_HOST_FCS : Fld := ⟨0x040, 5, 5⟩
def MAC_CFG_LOOPBACK : Fld := ⟨0x040, 6, 6⟩
def MAC_CFG_MAXLEN : Fld := ⟨0x040, 29, 16⟩
def MM_CFG_EN : Fld := ⟨0x044, 0, 0⟩
def MM_CFG_VERIFY_DIS : Fld := ⟨0x044, 1, 1⟩
def MM_CFG_ADD_FRAG : Fld := ⟨0x044, 3, 2⟩
def MM_CFG_VERIFY_TIME : Fld := ⟨0x044, 15, 8⟩
def MM_CFG_PREEMPTABLE : Fld := ⟨0x044, 23, 16⟩
def FC_CFG_PAUSE_RX : Fld := ⟨0x048, 0, 0⟩
def FC_CFG_PAUSE_TX : Fld := ⟨0x048, 1, 1⟩
def FC_CFG_PFC_RX : Fld := ⟨0x048, 2, 2⟩
def FC_CFG_PFC_TX : Fld := ⟨0x048, 3, 3⟩
def FC_CFG_PFC_PRIO : Fld := ⟨0x048, 15, 8⟩
def FC_CFG_PAUSE_TIME : Fld := ⟨0x048, 31, 16⟩
def FC_THRESH_XOFF_CELLS : Fld := ⟨0x04C, 15, 0⟩
def FC_THRESH_XON_CELLS : Fld := ⟨0x04C, 31, 16⟩
def MAC_STAT_LINK : Fld := ⟨0x050, 0, 0⟩
def MAC_STAT_RX_SPEED : Fld := ⟨0x050, 3, 1⟩
def MAC_STAT_SPEED_MISMATCH : Fld := ⟨0x050, 4, 4⟩
def MAC_STAT_PAUSED : Fld := ⟨0x050, 5, 5⟩
def MAC_STAT_TX_BUSY : Fld := ⟨0x050, 6, 6⟩
def MM_STAT_VERIFY_STATE : Fld := ⟨0x054, 2, 0⟩
def MM_STAT_TX_ACTIVE : Fld := ⟨0x054, 3, 3⟩
def MM_STAT_HOLD : Fld := ⟨0x054, 4, 4⟩
def PFC_STAT_HELD : Fld := ⟨0x058, 7, 0⟩
def PFC_STAT_SENT : Fld := ⟨0x058, 15, 8⟩
def MACSEC_CTRL_TX_PROTECT : Fld := ⟨0x05C, 0, 0⟩
def MACSEC_CTRL_TX_ENCRYPT : Fld := ⟨0x05C, 1, 1⟩
def MACSEC_CTRL_CONF_OFFSET : Fld := ⟨0x05C, 3, 2⟩
def MACSEC_CTRL_INCLUDE_SCI : Fld := ⟨0x05C, 4, 4⟩
def MACSEC_CTRL_USE_ES : Fld := ⟨0x05C, 5, 5⟩
def MACSEC_CTRL_USE_SCB : Fld := ⟨0x05C, 6, 6⟩
def MACSEC_CTRL_VALIDATE : Fld := ⟨0x05C, 9, 8⟩
def MACSEC_CTRL_REPLAY_PROTECT : Fld := ⟨0x05C, 10, 10⟩
def MACSEC_CTRL_XPN : Fld := ⟨0x05C, 11, 11⟩
def MACSEC_CTRL_BYPASS_PTP : Fld := ⟨0x05C, 14, 14⟩
def MACSEC_CTRL_TX_PI : Fld := ⟨0x05C, 31, 16⟩
def MACSEC_WINDOW : Fld := ⟨0x060, 31, 0⟩
def MACSEC_TXAN : Fld := ⟨0x064, 1, 0⟩
def MAC_ADDR_LO : Fld := ⟨0x068, 31, 0⟩
def MAC_ADDR_HI : Fld := ⟨0x06C, 15, 0⟩
def RX_OCTETS : Fld := ⟨0x080, 31, 0⟩
def RX_OCTETS_HI : Fld := ⟨0x084, 31, 0⟩
def MAC_RX_FRAMES : Fld := ⟨0x088, 31, 0⟩
def MAC_RX_FRAMES_HI : Fld := ⟨0x08C, 31, 0⟩
def RX_FCS_ERR : Fld := ⟨0x090, 31, 0⟩
def RX_UNDERSIZE : Fld := ⟨0x094, 31, 0⟩
def RX_OVERSIZE : Fld := ⟨0x098, 31, 0⟩
def RX_SYMBOL_ERR : Fld := ⟨0x09C, 31, 0⟩
def RX_PAUSE : Fld := ⟨0x0A0, 31, 0⟩
def RX_PFC : Fld := ⟨0x0A4, 31, 0⟩
def RX_CTRL_OTHER : Fld := ⟨0x0A8, 31, 0⟩
def RX_NOT_RUNNING : Fld := ⟨0x0AC, 31, 0⟩
def RX_MM_ASSY_OK : Fld := ⟨0x0B0, 31, 0⟩
def RX_MM_ASSY_ERR : Fld := ⟨0x0B4, 31, 0⟩
def RX_MM_SMD_ERR : Fld := ⟨0x0B8, 31, 0⟩
def RX_MM_FRAG : Fld := ⟨0x0BC, 31, 0⟩
def TX_OCTETS : Fld := ⟨0x0C0, 31, 0⟩
def TX_OCTETS_HI : Fld := ⟨0x0C4, 31, 0⟩
def MAC_TX_FRAMES : Fld := ⟨0x0C8, 31, 0⟩
def MAC_TX_FRAMES_HI : Fld := ⟨0x0CC, 31, 0⟩
def TX_PAUSE : Fld := ⟨0x0D0, 31, 0⟩
def TX_PFC : Fld := ⟨0x0D4, 31, 0⟩
def TX_OVERSIZE_DROP : Fld := ⟨0x0D8, 31, 0⟩
def TX_MARKED : Fld := ⟨0x0DC, 31, 0⟩
def STOMPED : Fld := ⟨0x0E0, 31, 0⟩
def TX_LINK_DOWN_DROP : Fld := ⟨0x0E4, 31, 0⟩
def TX_ABORTED : Fld := ⟨0x0E8, 31, 0⟩
def TX_MM_FRAG : Fld := ⟨0x0EC, 31, 0⟩
def TX_MM_HOLD : Fld := ⟨0x0F0, 31, 0⟩
def MACSEC_CNT (k : Nat) : Fld := ⟨0x100 + 4 * k, 31, 0⟩
def LANE_CFG_MODE : Fld := ⟨0x040, 2, 0⟩
def LANE_CFG_AN_EN : Fld := ⟨0x040, 3, 3⟩
def LANE_PHY_TX_PRE : Fld := ⟨0x044, 3, 0⟩
def LANE_PHY_TX_POST : Fld := ⟨0x044, 8, 4⟩
def LANE_PHY_TX_AMP : Fld := ⟨0x044, 15, 12⟩
def LANE_PHY_TX_INV : Fld := ⟨0x044, 16, 16⟩
def LANE_PHY_RX_INV : Fld := ⟨0x044, 17, 17⟩
def LANE_PHY_LOOPBACK : Fld := ⟨0x044, 19, 18⟩
def LANE_STAT_CDR_LOCK : Fld := ⟨0x048, 0, 0⟩
def LANE_STAT_SYNC : Fld := ⟨0x048, 1, 1⟩
def LANE_STAT_HI_BER : Fld := ⟨0x048, 2, 2⟩
def LANE_STAT_AN_DONE : Fld := ⟨0x048, 3, 3⟩
def LANE_STAT_PRBS_LOCK : Fld := ⟨0x048, 4, 4⟩
def LANE_PRBS_PATTERN : Fld := ⟨0x04C, 2, 0⟩
def LANE_PRBS_GEN : Fld := ⟨0x04C, 3, 3⟩
def LANE_PRBS_CHK : Fld := ⟨0x04C, 4, 4⟩
def PRBS_ERR : Fld := ⟨0x050, 31, 0⟩
def T1S_PLCA_CFG_PLCA_EN : Fld := ⟨0x040, 0, 0⟩
def T1S_PLCA_CFG_FALLBACK : Fld := ⟨0x040, 1, 1⟩
def T1S_PLCA_CFG_NODE_ID : Fld := ⟨0x040, 10, 8⟩
def T1S_PLCA_CFG_NODE_COUNT : Fld := ⟨0x040, 15, 12⟩
def T1S_PLCA_CFG_TO_TIMER : Fld := ⟨0x040, 23, 16⟩
def T1S_PLCA_CFG_BURST_CNT : Fld := ⟨0x040, 31, 24⟩
def T1S_PLCA_CFG2_BURST_TMR : Fld := ⟨0x044, 7, 0⟩
def T1S_PLCA_CFG2_SEG_MAXLEN : Fld := ⟨0x044, 29, 16⟩
def T1S_STAT_PLCA_ACTIVE : Fld := ⟨0x048, 0, 0⟩
def T1S_STAT_CSMA : Fld := ⟨0x048, 1, 1⟩
def T1S_STAT_DUP_COORD : Fld := ⟨0x048, 2, 2⟩
def COLLISIONS : Fld := ⟨0x080, 31, 0⟩
def BEACON_LOSS : Fld := ⟨0x084, 31, 0⟩
def TX_EXCESS_COLL : Fld := ⟨0x088, 31, 0⟩
def MDIO_CFG_DIV : Fld := ⟨0x040, 7, 0⟩
def MDIO_CFG_PRE_SUPPRESS : Fld := ⟨0x040, 8, 8⟩
def MDIO_CFG_POLL_INT : Fld := ⟨0x040, 23, 16⟩
def MDIO_CMD_OP : Fld := ⟨0x044, 1, 0⟩
def MDIO_CMD_C45 : Fld := ⟨0x044, 2, 2⟩
def MDIO_CMD_PHYAD : Fld := ⟨0x044, 7, 3⟩
def MDIO_CMD_REGAD : Fld := ⟨0x044, 12, 8⟩
def MDIO_CMD_DATA : Fld := ⟨0x044, 31, 16⟩
def MDIO_STAT_BUSY : Fld := ⟨0x048, 0, 0⟩
def MDIO_STAT_DONE : Fld := ⟨0x048, 1, 1⟩
def MDIO_STAT_DATA : Fld := ⟨0x048, 31, 16⟩
def MDIO_POLL_ADDR_EN (k : Nat) : Fld := ⟨0x080 + 8 * k, 0, 0⟩
def MDIO_POLL_ADDR_C45 (k : Nat) : Fld := ⟨0x080 + 8 * k, 1, 1⟩
def MDIO_POLL_ADDR_PHYAD (k : Nat) : Fld := ⟨0x080 + 8 * k, 6, 2⟩
def MDIO_POLL_ADDR_DEVAD (k : Nat) : Fld := ⟨0x080 + 8 * k, 11, 7⟩
def MDIO_POLL_ADDR_REGAD (k : Nat) : Fld := ⟨0x080 + 8 * k, 31, 16⟩
def MDIO_POLL_VAL_MASK (k : Nat) : Fld := ⟨0x084 + 8 * k, 15, 0⟩
def MDIO_POLL_VAL_LAST (k : Nat) : Fld := ⟨0x084 + 8 * k, 31, 16⟩
def FWD_ROLE_STAT_A_SLICE : Fld := ⟨0x040, 1, 0⟩
def FWD_ROLE_STAT_B_SLICE : Fld := ⟨0x040, 3, 2⟩
def FWD_ROLE_STAT_RESERVE : Fld := ⟨0x040, 5, 4⟩
def FWD_ROLE_STAT_FOLD : Fld := ⟨0x040, 7, 6⟩
def FWD_ROLE_MAP_PORT_B : Fld := ⟨0x044, 27, 0⟩
def FWD_ROLE_MAP_H0_B : Fld := ⟨0x044, 28, 28⟩
def FWD_ROLE_MAP_RELAY_B : Fld := ⟨0x044, 29, 29⟩
def FWD_LEARN_CFG_HOLD : Fld := ⟨0x048, 15, 0⟩
def FWD_LEARN_CFG_FLAP_LIMIT : Fld := ⟨0x048, 19, 16⟩
def FWD_LEARN_CFG_FLAP_WINDOW : Fld := ⟨0x048, 31, 24⟩
def FWD_AGE_CFG_AGE_TICK : Fld := ⟨0x04C, 15, 0⟩
def FWD_AGE_CFG_AGE_LIMIT : Fld := ⟨0x04C, 30, 16⟩
def FWD_ROUTER_MAC_LO : Fld := ⟨0x050, 31, 0⟩
def FWD_ROUTER_MAC_HI : Fld := ⟨0x054, 15, 0⟩
def FWD_DEF_NH_NH4 : Fld := ⟨0x058, 11, 0⟩
def FWD_DEF_NH_EN4 : Fld := ⟨0x058, 15, 15⟩
def FWD_DEF_NH_NH6 : Fld := ⟨0x058, 27, 16⟩
def FWD_DEF_NH_EN6 : Fld := ⟨0x058, 31, 31⟩
def FWD_MISC_CFG_MAX_MOVES : Fld := ⟨0x05C, 4, 0⟩
def FWD_MISC_CFG_SHADOW_WINS : Fld := ⟨0x05C, 8, 8⟩
def FWD_MISC_CFG_LEAN_FOLD : Fld := ⟨0x05C, 9, 9⟩
def FWD_MISC_CFG_FAIL_FOLD : Fld := ⟨0x05C, 10, 10⟩
def FWD_MISC_CFG_SHADOW_PERIOD : Fld := ⟨0x05C, 23, 16⟩
def FWD_SEED (w : Nat) : Fld := ⟨0x060 + 4 * w, 31, 0⟩
def FWD_PORT_PVID (n : Nat) : Fld := ⟨0x040 + 4 * n, 11, 0⟩
def FWD_PORT_LEARN_EN (n : Nat) : Fld := ⟨0x040 + 4 * n, 12, 12⟩
def FWD_PORT_DROP_UNTAGGED (n : Nat) : Fld := ⟨0x040 + 4 * n, 13, 13⟩
def FWD_PORT_DROP_TAGGED (n : Nat) : Fld := ⟨0x040 + 4 * n, 14, 14⟩
def FWD_PORT_SA_STATIC_DROP (n : Nat) : Fld := ⟨0x040 + 4 * n, 15, 15⟩
def FWD_PORT_INNER_VID (n : Nat) : Fld := ⟨0x040 + 4 * n, 16, 16⟩
def FWD_PORT_FLUSH_ON_DOWN (n : Nat) : Fld := ⟨0x040 + 4 * n, 17, 17⟩
def FWD_TPID_S_TPID : Fld := ⟨0x0B0, 15, 0⟩
def FWD_TPID_C_TPID : Fld := ⟨0x0B0, 31, 16⟩
def MIR_CFG_DEST (k : Nat) : Fld := ⟨0x040 + 16 * k, 4, 0⟩
def MIR_CFG_HOSTQ (k : Nat) : Fld := ⟨0x040 + 16 * k, 12, 5⟩
def MIR_CFG_TRUNC (k : Nat) : Fld := ⟨0x040 + 16 * k, 29, 16⟩
def MIR_IN_PORTS (k : Nat) : Fld := ⟨0x044 + 16 * k, 27, 0⟩
def MIR_IN_H0 (k : Nat) : Fld := ⟨0x044 + 16 * k, 28, 28⟩
def MIR_EG (k : Nat) : Fld := ⟨0x048 + 16 * k, 29, 0⟩
def MIR_DROP (k : Nat) : Fld := ⟨0x0C0 + 4 * k, 31, 0⟩
def LEARN_FLUSH_GO : Fld := ⟨0x060, 0, 0⟩
def LEARN_FLUSH_BY_PORT : Fld := ⟨0x060, 1, 1⟩
def LEARN_FLUSH_FPORT : Fld := ⟨0x060, 6, 2⟩
def LEARN_FLUSH_BY_VID : Fld := ⟨0x060, 7, 7⟩
def LEARN_FLUSH_FVID : Fld := ⟨0x060, 19, 8⟩
def LOOKUPS : Fld := ⟨0x080, 31, 0⟩
def LOOKUPS_HI : Fld := ⟨0x084, 31, 0⟩
def LEARN_NEW : Fld := ⟨0x088, 31, 0⟩
def LEARN_MOVE : Fld := ⟨0x08C, 31, 0⟩
def DEAD_HEAT : Fld := ⟨0x090, 31, 0⟩
def LEARN_Q_FULL : Fld := ⟨0x094, 31, 0⟩
def LEARN_FULL : Fld := ⟨0x098, 31, 0⟩
def LEARN_EVICT : Fld := ⟨0x09C, 31, 0⟩
def AGED : Fld := ⟨0x0A0, 31, 0⟩
def FLAPS_MAC_FLAP : Fld := ⟨0x0A4, 15, 0⟩
def FLAPS_PINNED_MOVE : Fld := ⟨0x0A4, 31, 16⟩
def DROP_VLAN_UNKNOWN : Fld := ⟨0x0A8, 31, 0⟩
def DROP_VLAN_TYPE_INGRESS : Fld := ⟨0x0AC, 15, 0⟩
def DROP_VLAN_TYPE_FRAME_TYPE : Fld := ⟨0x0AC, 31, 16⟩
def DROP_VLAN_EGRESS : Fld := ⟨0x0B0, 31, 0⟩
def DROP_UNKNOWN_UC : Fld := ⟨0x0B4, 31, 0⟩
def DROP_SAME_PORT : Fld := ⟨0x0B8, 31, 0⟩
def DROP_SA_STATIC : Fld := ⟨0x0BC, 31, 0⟩
def DROP_DA_DROP : Fld := ⟨0x0C0, 31, 0⟩
def DROP_ROUTE_MISS : Fld := ⟨0x0C4, 31, 0⟩
def DROP_NULL_ROUTE : Fld := ⟨0x0C8, 31, 0⟩
def DROP_TTL_EXPIRED : Fld := ⟨0x0CC, 31, 0⟩
def DROP_IP_HEADER : Fld := ⟨0x0D0, 31, 0⟩
def DROP_LOOKUP_PARITY : Fld := ⟨0x0D4, 31, 0⟩
def FLOODED : Fld := ⟨0x0D8, 31, 0⟩
def LOOKUP_DISCARD : Fld := ⟨0x0DC, 31, 0⟩
def SLICE_STAT_STATE : Fld := ⟨0x040, 2, 0⟩
def SLICE_STAT_COPY_SRC : Fld := ⟨0x040, 3, 3⟩
def SLICE_STAT_COPY_DST : Fld := ⟨0x040, 4, 4⟩
def PARITY_MISS : Fld := ⟨0x080, 31, 0⟩
def SHADOW_MISMATCH : Fld := ⟨0x084, 31, 0⟩
def SHADOW_REPAIR : Fld := ⟨0x088, 31, 0⟩
def CLS_PORT_SF_KIND (n : Nat) : Fld := ⟨0x070 + 4 * n, 1, 0⟩
def CLS_PORT_SF_STRICT (n : Nat) : Fld := ⟨0x070 + 4 * n, 2, 2⟩
def CLS_PORT_DEF_PRIO (n : Nat) : Fld := ⟨0x070 + 4 * n, 5, 3⟩
def PRIO_MAP (n : Nat) : Fld := ⟨0x100 + 4 * n, 23, 0⟩
def SF_UNMATCHED_CNT : Fld := ⟨0x170, 31, 0⟩
def SF_UNBLOCK_SLOT : Fld := ⟨0x174, 11, 0⟩
def SF_UNBLOCK_GO : Fld := ⟨0x174, 31, 31⟩
def SG_REOPEN_GATE : Fld := ⟨0x070, 7, 0⟩
def SG_REOPEN_GO : Fld := ⟨0x070, 31, 31⟩
def MTR_CLEAR_METER : Fld := ⟨0x070, 10, 0⟩
def MTR_CLEAR_GO : Fld := ⟨0x070, 31, 31⟩
def BUF_STAT_FREE : Fld := ⟨0x040, 17, 0⟩
def BUF_RESERVE : Fld := ⟨0x044, 17, 0⟩
def BUFFER_FULL_CNT : Fld := ⟨0x080, 31, 0⟩
def HL_CFG_LENGTH : Fld := ⟨0x070, 8, 0⟩
def HL_CFG_EN : Fld := ⟨0x070, 9, 9⟩
def HL_CFG_DOMAIN : Fld := ⟨0x070, 12, 10⟩
def HL_CFG_FS_POLICY : Fld := ⟨0x070, 13, 13⟩
def HL_CFG_INIT_STATES : Fld := ⟨0x070, 23, 16⟩
def HL_CYCLE : Fld := ⟨0x074, 29, 0⟩
def HL_BASE_SEC_LO : Fld := ⟨0x078, 31, 0⟩
def HL_BASE_SEC_HI : Fld := ⟨0x07C, 15, 0⟩
def HL_BASE_NS : Fld := ⟨0x080, 31, 0⟩
def HL_STAT_ENTRY : Fld := ⟨0x084, 7, 0⟩
def HL_STAT_RUNNING : Fld := ⟨0x084, 8, 8⟩
def HL_STAT_HOLD : Fld := ⟨0x084, 9, 9⟩
def HL_STAT_TIME_INVALID : Fld := ⟨0x084, 10, 10⟩
def HL_CYCLES : Fld := ⟨0x088, 31, 0⟩
def LANE_CTRL_CBS_EN (i : Nat) : Fld := ⟨0x100 + 32 * i, 0, 0⟩
def LANE_CTRL_PACER_EN (i : Nat) : Fld := ⟨0x100 + 32 * i, 1, 1⟩
def LANE_CTRL_WRR (i : Nat) : Fld := ⟨0x100 + 32 * i, 2, 2⟩
def LANE_CTRL_WEIGHT (i : Nat) : Fld := ⟨0x100 + 32 * i, 11, 4⟩
def LANE_CTRL_CHG_POLICY (i : Nat) : Fld := ⟨0x100 + 32 * i, 13, 12⟩
def LANE_CTRL_OVH (i : Nat) : Fld := ⟨0x100 + 32 * i, 23, 16⟩
def CBS_IDLE (i : Nat) : Fld := ⟨0x104 + 32 * i, 23, 0⟩
def CBS_HICREDIT (i : Nat) : Fld := ⟨0x108 + 32 * i, 23, 0⟩
def PACER_RATE (i : Nat) : Fld := ⟨0x10C + 32 * i, 23, 0⟩
def PACER_BURST (i : Nat) : Fld := ⟨0x110 + 32 * i, 23, 0⟩
def LANE_BUF_MAX_CELLS (i : Nat) : Fld := ⟨0x114 + 32 * i, 15, 0⟩
def LANE_BUF_GUAR_CELLS (i : Nat) : Fld := ⟨0x114 + 32 * i, 31, 16⟩
def LANE_WM_WM_CELLS (i : Nat) : Fld := ⟨0x118 + 32 * i, 15, 0⟩
def LANE_WM_ABOVE (i : Nat) : Fld := ⟨0x118 + 32 * i, 16, 16⟩
def LANE_WM_WM_HIT (i : Nat) : Fld := ⟨0x118 + 32 * i, 17, 17⟩
def LANE_XING_WM_CROSSINGS (i : Nat) : Fld := ⟨0x11C + 32 * i, 15, 0⟩
def LANE_TX_FRAMES (i : Nat) : Fld := ⟨0x200 + 16 * i, 31, 0⟩
def DROP_LANE_FULL (i : Nat) : Fld := ⟨0x204 + 16 * i, 31, 0⟩
def DROP_BUFFER_FULL (i : Nat) : Fld := ⟨0x208 + 16 * i, 31, 0⟩
def DROP_TOO_LONG (i : Nat) : Fld := ⟨0x20C + 16 * i, 31, 0⟩
def CAN_CTRL_FD_EN : Fld := ⟨0x040, 0, 0⟩
def CAN_CTRL_XL_EN : Fld := ⟨0x040, 1, 1⟩
def CAN_CTRL_BRS_EN : Fld := ⟨0x040, 2, 2⟩
def CAN_CTRL_PXHD : Fld := ⟨0x040, 3, 3⟩
def CAN_CTRL_LISTEN_ONLY : Fld := ⟨0x040, 4, 4⟩
def CAN_CTRL_LOOPBACK : Fld := ⟨0x040, 5, 5⟩
def CAN_CTRL_SELF_RX : Fld := ⟨0x040, 6, 6⟩
def CAN_CTRL_TX_ORDER : Fld := ⟨0x040, 7, 7⟩
def CAN_CTRL_TXB_HOST : Fld := ⟨0x040, 10, 8⟩
def CAN_CTRL_TMS : Fld := ⟨0x040, 11, 11⟩
def CAN_CTRL_XL_ERRS : Fld := ⟨0x040, 12, 12⟩
def CAN_CTRL_TS_DOMAIN : Fld := ⟨0x040, 15, 13⟩
def CAN_NBT_BRP : Fld := ⟨0x044, 7, 0⟩
def CAN_NBT_TSEG1 : Fld := ⟨0x044, 15, 8⟩
def CAN_NBT_TSEG2 : Fld := ⟨0x044, 22, 16⟩
def CAN_NBT_SJW : Fld := ⟨0x044, 29, 23⟩
def CAN_DBT_BRP : Fld := ⟨0x048, 4, 0⟩
def CAN_DBT_TSEG1 : Fld := ⟨0x048, 13, 8⟩
def CAN_DBT_TSEG2 : Fld := ⟨0x048, 20, 16⟩
def CAN_DBT_SJW : Fld := ⟨0x048, 28, 24⟩
def CAN_XBT_BRP : Fld := ⟨0x04C, 4, 0⟩
def CAN_XBT_TSEG1 : Fld := ⟨0x04C, 13, 8⟩
def CAN_XBT_TSEG2 : Fld := ⟨0x04C, 20, 16⟩
def CAN_XBT_SJW : Fld := ⟨0x04C, 28, 24⟩
def CAN_TDC_TDCO : Fld := ⟨0x050, 6, 0⟩
def CAN_TDC_TDC_EN : Fld := ⟨0x050, 7, 7⟩
def CAN_TDC_TDCF : Fld := ⟨0x050, 14, 8⟩
def CAN_XL_CFG_PWMS : Fld := ⟨0x054, 5, 0⟩
def CAN_XL_CFG_PWML : Fld := ⟨0x054, 13, 8⟩
def CAN_XL_CFG_PWMO : Fld := ⟨0x054, 21, 16⟩
def CAN_MISC_CFG_SOLO_LIMIT : Fld := ⟨0x058, 7, 0⟩
def CAN_MISC_CFG_PAD : Fld := ⟨0x058, 15, 8⟩
def CAN_STAT_ERR_STATE : Fld := ⟨0x060, 1, 0⟩
def CAN_STAT_SOLO : Fld := ⟨0x060, 2, 2⟩
def CAN_STAT_BUS_IDLE : Fld := ⟨0x060, 3, 3⟩
def CAN_STAT_TX_ON_LINE : Fld := ⟨0x060, 4, 4⟩
def CAN_STAT_ACK_RUN : Fld := ⟨0x060, 15, 8⟩
def CAN_STAT_BOFF_COUNT : Fld := ⟨0x060, 23, 16⟩
def CAN_ECNT_TEC : Fld := ⟨0x064, 8, 0⟩
def CAN_ECNT_REC : Fld := ⟨0x064, 23, 16⟩
def CAN_TDC_STAT_TDCV : Fld := ⟨0x068, 6, 0⟩
def CAN_TDC_STAT_VALID : Fld := ⟨0x068, 7, 7⟩
def CAN_TDC_STAT_RANGE : Fld := ⟨0x068, 8, 8⟩
def CAN_RX_FRAMES : Fld := ⟨0x080, 31, 0⟩
def CAN_TX_FRAMES : Fld := ⟨0x084, 31, 0⟩
def ERR_BIT : Fld := ⟨0x088, 31, 0⟩
def ERR_STUFF : Fld := ⟨0x08C, 31, 0⟩
def ERR_FORM : Fld := ⟨0x090, 31, 0⟩
def ERR_CRC : Fld := ⟨0x094, 31, 0⟩
def ERR_ACK : Fld := ⟨0x098, 31, 0⟩
def BUS_OFF_CNT : Fld := ⟨0x09C, 31, 0⟩
def ARB_LOST : Fld := ⟨0x0A0, 31, 0⟩
def DROP_LIFETIME : Fld := ⟨0x0A4, 31, 0⟩
def DROP_QUEUE_FULL : Fld := ⟨0x0A8, 31, 0⟩
def DROP_FORMAT : Fld := ⟨0x0AC, 31, 0⟩
def DROP_NOT_RUNNING : Fld := ⟨0x0B0, 31, 0⟩
def MB_LOST_CNT : Fld := ⟨0x0B4, 31, 0⟩
def PROTO_EXC : Fld := ⟨0x0B8, 31, 0⟩
def CAN_CANCELLED : Fld := ⟨0x0BC, 31, 0⟩
def TXEV_OVF : Fld := ⟨0x0C0, 31, 0⟩
def DROP_LOST : Fld := ⟨0x0C4, 31, 0⟩
def HPB_FILT_ID (k : Nat) : Fld := ⟨0x0E0 + 8 * k, 28, 0⟩
def HPB_FILT_IDE (k : Nat) : Fld := ⟨0x0E0 + 8 * k, 29, 29⟩
def HPB_FILT_EN (k : Nat) : Fld := ⟨0x0E0 + 8 * k, 30, 30⟩
def HPB_FILT_KEEP_OLD (k : Nat) : Fld := ⟨0x0E0 + 8 * k, 31, 31⟩
def HPB_MASK_MASK (k : Nat) : Fld := ⟨0x0E4 + 8 * k, 28, 0⟩
def HPB_MASK_IDE_CHK (k : Nat) : Fld := ⟨0x0E4 + 8 * k, 29, 29⟩
def HPB_MASK_FMT (k : Nat) : Fld := ⟨0x0E4 + 8 * k, 31, 30⟩
def TXQ_ID : Fld := ⟨0x100, 29, 0⟩
def TXQ_INFO_FMT : Fld := ⟨0x104, 1, 0⟩
def TXQ_INFO_BRS : Fld := ⟨0x104, 2, 2⟩
def TXQ_INFO_RTR : Fld := ⟨0x104, 3, 3⟩
def TXQ_INFO_SEC : Fld := ⟨0x104, 4, 4⟩
def TXQ_INFO_LEN : Fld := ⟨0x104, 11, 5⟩
def TXQ_INFO_SDT : Fld := ⟨0x104, 23, 16⟩
def TXQ_INFO_VCID : Fld := ⟨0x104, 31, 24⟩
def TXQ_AF : Fld := ⟨0x108, 31, 0⟩
def TXQ_LIFE : Fld := ⟨0x10C, 23, 0⟩
def TXQ_DATA (k : Nat) : Fld := ⟨0x110 + 4 * k, 31, 0⟩
def TXQ_PUSH : Fld := ⟨0x150, 31, 0⟩
def TXQ_STAT_HANDLE : Fld := ⟨0x154, 15, 0⟩
def TXQ_STAT_OK : Fld := ⟨0x154, 16, 16⟩
def TXQ_CANCEL : Fld := ⟨0x158, 15, 0⟩
def TXQ_LEVEL_FRAMES : Fld := ⟨0x15C, 8, 0⟩
def TXQ_LEVEL_FREE : Fld := ⟨0x15C, 24, 16⟩
def TXEV_HANDLE : Fld := ⟨0x160, 15, 0⟩
def TXEV_OUTCOME : Fld := ⟨0x160, 17, 16⟩
def TXEV_CANCEL_LATE : Fld := ⟨0x160, 18, 18⟩
def TXEV_VALID : Fld := ⟨0x160, 31, 31⟩
def TXB_CTRL_REQ (b : Nat) : Fld := ⟨0x200 + 80 * b, 0, 0⟩
def TXB_CTRL_CANCEL (b : Nat) : Fld := ⟨0x200 + 80 * b, 1, 1⟩
def TXB_CTRL_LOCKED (b : Nat) : Fld := ⟨0x200 + 80 * b, 2, 2⟩
def TXB_CTRL_OUTCOME (b : Nat) : Fld := ⟨0x200 + 80 * b, 5, 4⟩
def TXB_CTRL_CANCEL_LATE (b : Nat) : Fld := ⟨0x200 + 80 * b, 6, 6⟩
def TXB_CTRL_SRC (b : Nat) : Fld := ⟨0x200 + 80 * b, 7, 7⟩
def TXB_CTRL_HANDLE (b : Nat) : Fld := ⟨0x200 + 80 * b, 31, 16⟩
def TXB_ID (b : Nat) : Fld := ⟨0x204 + 80 * b, 29, 0⟩
def TXB_INFO_FMT (b : Nat) : Fld := ⟨0x208 + 80 * b, 1, 0⟩
def TXB_INFO_BRS (b : Nat) : Fld := ⟨0x208 + 80 * b, 2, 2⟩
def TXB_INFO_RTR (b : Nat) : Fld := ⟨0x208 + 80 * b, 3, 3⟩
def TXB_INFO_SEC (b : Nat) : Fld := ⟨0x208 + 80 * b, 4, 4⟩
def TXB_INFO_LEN (b : Nat) : Fld := ⟨0x208 + 80 * b, 11, 5⟩
def TXB_INFO_SDT (b : Nat) : Fld := ⟨0x208 + 80 * b, 23, 16⟩
def TXB_INFO_VCID (b : Nat) : Fld := ⟨0x208 + 80 * b, 31, 24⟩
def TXB_AF (b : Nat) : Fld := ⟨0x20C + 80 * b, 31, 0⟩
def TXB_DATA0 (b : Nat) : Fld := ⟨0x210 + 80 * b, 31, 0⟩
def TXB_DATA1 (b : Nat) : Fld := ⟨0x214 + 80 * b, 31, 0⟩
def TXB_DATA2 (b : Nat) : Fld := ⟨0x218 + 80 * b, 31, 0⟩
def TXB_DATA3 (b : Nat) : Fld := ⟨0x21C + 80 * b, 31, 0⟩
def TXB_DATA4 (b : Nat) : Fld := ⟨0x220 + 80 * b, 31, 0⟩
def TXB_DATA5 (b : Nat) : Fld := ⟨0x224 + 80 * b, 31, 0⟩
def TXB_DATA6 (b : Nat) : Fld := ⟨0x228 + 80 * b, 31, 0⟩
def TXB_DATA7 (b : Nat) : Fld := ⟨0x22C + 80 * b, 31, 0⟩
def TXB_DATA8 (b : Nat) : Fld := ⟨0x230 + 80 * b, 31, 0⟩
def TXB_DATA9 (b : Nat) : Fld := ⟨0x234 + 80 * b, 31, 0⟩
def TXB_DATA10 (b : Nat) : Fld := ⟨0x238 + 80 * b, 31, 0⟩
def TXB_DATA11 (b : Nat) : Fld := ⟨0x23C + 80 * b, 31, 0⟩
def TXB_DATA12 (b : Nat) : Fld := ⟨0x240 + 80 * b, 31, 0⟩
def TXB_DATA13 (b : Nat) : Fld := ⟨0x244 + 80 * b, 31, 0⟩
def TXB_DATA14 (b : Nat) : Fld := ⟨0x248 + 80 * b, 31, 0⟩
def TXB_DATA15 (b : Nat) : Fld := ⟨0x24C + 80 * b, 31, 0⟩
def RXMB_HDR_SEQ (i : Nat) : Fld := ⟨0x400 + 4 * i, 7, 0⟩
def RXMB_HDR_NEW (i : Nat) : Fld := ⟨0x400 + 4 * i, 8, 8⟩
def RXMB_HDR_LOST (i : Nat) : Fld := ⟨0x400 + 4 * i, 9, 9⟩
def RXMB_HDR_TRUNC (i : Nat) : Fld := ⟨0x400 + 4 * i, 10, 10⟩
def RXMB_HDR_TS_INVALID (i : Nat) : Fld := ⟨0x400 + 4 * i, 11, 11⟩
def RXMB_HDR_LEN (i : Nat) : Fld := ⟨0x400 + 4 * i, 23, 12⟩
def RXMB_HDR_FMT (i : Nat) : Fld := ⟨0x400 + 4 * i, 25, 24⟩
def RXMB_HDR_BRS (i : Nat) : Fld := ⟨0x400 + 4 * i, 26, 26⟩
def RXMB_HDR_ESI (i : Nat) : Fld := ⟨0x400 + 4 * i, 27, 27⟩
def RXMB_HDR_RTR (i : Nat) : Fld := ⟨0x400 + 4 * i, 28, 28⟩
def RXMB_HDR_SEC (i : Nat) : Fld := ⟨0x400 + 4 * i, 29, 29⟩
def HPB_HDR_SEQ : Fld := ⟨0x480, 7, 0⟩
def HPB_HDR_NEW : Fld := ⟨0x480, 8, 8⟩
def HPB_HDR_LOST : Fld := ⟨0x480, 9, 9⟩
def HPB_HDR_TRUNC : Fld := ⟨0x480, 10, 10⟩
def HPB_HDR_TS_INVALID : Fld := ⟨0x480, 11, 11⟩
def HPB_HDR_LEN : Fld := ⟨0x480, 23, 12⟩
def HPB_HDR_FMT : Fld := ⟨0x480, 25, 24⟩
def HPB_HDR_BRS : Fld := ⟨0x480, 26, 26⟩
def HPB_HDR_ESI : Fld := ⟨0x480, 27, 27⟩
def HPB_HDR_RTR : Fld := ⟨0x480, 28, 28⟩
def HPB_HDR_SEC : Fld := ⟨0x480, 29, 29⟩
def RXMB_FILT_ID (i : Nat) : Fld := ⟨0x500 + 4 * i, 28, 0⟩
def RXMB_FILT_IDE (i : Nat) : Fld := ⟨0x500 + 4 * i, 29, 29⟩
def RXMB_FILT_EN (i : Nat) : Fld := ⟨0x500 + 4 * i, 30, 30⟩
def RXMB_FILT_KEEP_OLD (i : Nat) : Fld := ⟨0x500 + 4 * i, 31, 31⟩
def RXMB_MASK_MASK (i : Nat) : Fld := ⟨0x580 + 4 * i, 28, 0⟩
def RXMB_MASK_IDE_CHK (i : Nat) : Fld := ⟨0x580 + 4 * i, 29, 29⟩
def RXMB_MASK_FMT (i : Nat) : Fld := ⟨0x580 + 4 * i, 31, 30⟩
def SH_TAG_MB : Fld := ⟨0x600, 5, 0⟩
def SH_TAG_SEQ : Fld := ⟨0x600, 15, 8⟩
def SH_TAG_OPEN : Fld := ⟨0x600, 31, 16⟩
def SH_HDR : Fld := ⟨0x604, 31, 0⟩
def SH_ID : Fld := ⟨0x608, 29, 0⟩
def SH_XL_SDT : Fld := ⟨0x60C, 7, 0⟩
def SH_XL_VCID : Fld := ⟨0x60C, 15, 8⟩
def SH_AF : Fld := ⟨0x610, 31, 0⟩
def SH_TS_NS : Fld := ⟨0x614, 31, 0⟩
def SH_TS_SEC : Fld := ⟨0x618, 31, 0⟩
def SH_DATA (k : Nat) : Fld := ⟨0x620 + 4 * k, 31, 0⟩
def CORE_STAT_CHANNEL : Fld := ⟨0x040, 5, 0⟩
def CORE_STAT_TESTING : Fld := ⟨0x040, 6, 6⟩
def LIN_CFG_BAUD : Fld := ⟨0x070, 14, 0⟩
def LIN_CFG_ROLE : Fld := ⟨0x070, 15, 15⟩
def LIN_CFG_BREAK : Fld := ⟨0x070, 20, 16⟩
def LIN_CFG_AUTOBAUD : Fld := ⟨0x070, 21, 21⟩
def LIN_CFG_IDLE_SLEEP : Fld := ⟨0x070, 27, 24⟩
def LIN_SCHED_FIRST (k : Nat) : Fld := ⟨0x074 + 4 * k, 6, 0⟩
def LIN_SCHED_LENGTH (k : Nat) : Fld := ⟨0x074 + 4 * k, 14, 8⟩
def LIN_SCHED_REQ_SCHED : Fld := ⟨0x084, 1, 0⟩
def LIN_SCHED_REQ_RUN : Fld := ⟨0x084, 2, 2⟩
def LIN_STAT_RUNNING : Fld := ⟨0x088, 0, 0⟩
def LIN_STAT_SLEEP : Fld := ⟨0x088, 1, 1⟩
def LIN_STAT_SCHED : Fld := ⟨0x088, 3, 2⟩
def LIN_STAT_ENTRY : Fld := ⟨0x088, 10, 4⟩
def LIN_STAT_RATE : Fld := ⟨0x088, 31, 16⟩
def LIN_CMD_WAKE : Fld := ⟨0x08C, 0, 0⟩
def LIN_ERR_FRAMING : Fld := ⟨0x090, 31, 0⟩
def LIN_ERR_BIT : Fld := ⟨0x094, 31, 0⟩
def COLLISIONS_LIN : Fld := ⟨0x098, 31, 0⟩
def LIN_DATA (i : Nat) : Fld := ⟨0x200 + 4 * i, 31, 0⟩
def LIN_FSTAT_UPDATED (i : Nat) : Fld := ⟨0x400 + 4 * i, 0, 0⟩
def LIN_FSTAT_NEW (i : Nat) : Fld := ⟨0x400 + 4 * i, 1, 1⟩
def LIN_FSTAT_LOST (i : Nat) : Fld := ⟨0x400 + 4 * i, 2, 2⟩
def LIN_FSTAT_CODE (i : Nat) : Fld := ⟨0x400 + 4 * i, 15, 8⟩
def RLY_MAC_LO : Fld := ⟨0x040, 31, 0⟩
def RLY_MAC_HI : Fld := ⟨0x044, 15, 0⟩
def RLY_STAT_INQ_LEVEL : Fld := ⟨0x048, 9, 0⟩
def RLY_STAT_FREE_GRAN : Fld := ⟨0x048, 26, 16⟩
def ROUTED : Fld := ⟨0x080, 31, 0⟩
def NO_ROUTE : Fld := ⟨0x084, 31, 0⟩
def COPIES : Fld := ⟨0x088, 31, 0⟩
def DROP_OVERFLOW : Fld := ⟨0x08C, 31, 0⟩
def DROP_TOO_LONG_PDU : Fld := ⟨0x090, 31, 0⟩
def DROP_RLY_FORMAT : Fld := ⟨0x094, 31, 0⟩
def DROP_DEADLINE : Fld := ⟨0x098, 31, 0⟩
def DROP_PARITY : Fld := ⟨0x09C, 31, 0⟩
def DROP_HOST_FULL : Fld := ⟨0x0A0, 31, 0⟩
def DROP_MODE : Fld := ⟨0x0A4, 31, 0⟩
def DROP_AUTH : Fld := ⟨0x0A8, 31, 0⟩
def AUTH_FAILS : Fld := ⟨0x0AC, 31, 0⟩
def DROP_ACF : Fld := ⟨0x0B0, 31, 0⟩
def SEQ_GAP : Fld := ⟨0x0B4, 31, 0⟩
def ACF_SKIPPED : Fld := ⟨0x0B8, 31, 0⟩
def ACF_TS_INVALID : Fld := ⟨0x0BC, 31, 0⟩
def SPLICE_SHORT : Fld := ⟨0x0C0, 31, 0⟩
def LIN_OVERWRITE : Fld := ⟨0x0C4, 31, 0⟩
def SIG_EXPIRIES : Fld := ⟨0x0C8, 31, 0⟩
def TL_FRAC : Fld := ⟨0x040, 15, 0⟩
def TL_NS : Fld := ⟨0x044, 31, 0⟩
def TL_SEC_LO : Fld := ⟨0x048, 31, 0⟩
def TL_SEC_HI : Fld := ⟨0x04C, 15, 0⟩
def TIME_STAT_VALID : Fld := ⟨0x050, 3, 0⟩
def TIME_STAT_ON_REF : Fld := ⟨0x050, 4, 4⟩
def TIME_STAT_TL_SPLIT : Fld := ⟨0x050, 5, 5⟩
def FANOUT_FAULT : Fld := ⟨0x080, 31, 0⟩
def DUAL_REPAIR : Fld := ⟨0x084, 31, 0⟩
def DUAL_INVALID : Fld := ⟨0x088, 31, 0⟩
def TL_REPAIR : Fld := ⟨0x08C, 31, 0⟩
def DOM_CFG_SRC : Fld := ⟨0x040, 2, 0⟩
def DOM_CFG_SRC_IDX : Fld := ⟨0x040, 5, 3⟩
def DOM_CFG_STEP_EN : Fld := ⟨0x040, 6, 6⟩
def DOM_CFG_BMCA_EN : Fld := ⟨0x040, 7, 7⟩
def DOM_CFG_DOMAIN_NUM : Fld := ⟨0x040, 15, 8⟩
def DOM_STAT_VALID : Fld := ⟨0x044, 0, 0⟩
def DOM_STAT_SERVO : Fld := ⟨0x044, 2, 1⟩
def DOM_STAT_GM : Fld := ⟨0x044, 3, 3⟩
def DOM_RATE : Fld := ⟨0x048, 31, 0⟩
def SERVO_GAIN_KP : Fld := ⟨0x04C, 15, 0⟩
def SERVO_GAIN_KI : Fld := ⟨0x04C, 31, 16⟩
def SERVO_TH_LOCK_TH : Fld := ⟨0x050, 15, 0⟩
def SERVO_TH_LOCK_CNT : Fld := ⟨0x050, 23, 16⟩
def SERVO_TH_STEP_TH : Fld := ⟨0x050, 31, 24⟩
def SERVO_HOLD_HOLD_TO : Fld := ⟨0x054, 15, 0⟩
def SERVO_HOLD_RATE_LIM : Fld := ⟨0x054, 26, 16⟩
def DOM_OFFSET : Fld := ⟨0x058, 31, 0⟩
def DOM_FRAC : Fld := ⟨0x060, 15, 0⟩
def DOM_NS : Fld := ⟨0x064, 31, 0⟩
def DOM_SEC_LO : Fld := ⟨0x068, 31, 0⟩
def DOM_SEC_HI : Fld := ⟨0x06C, 15, 0⟩
def SET_NS : Fld := ⟨0x070, 31, 0⟩
def SET_SEC_LO : Fld := ⟨0x074, 31, 0⟩
def SET_SEC_HI : Fld := ⟨0x078, 15, 0⟩
def SET_CMD_OP : Fld := ⟨0x07C, 1, 0⟩
def HOST_OFS : Fld := ⟨0x088, 31, 0⟩
def STEP_CNT : Fld := ⟨0x0C0, 31, 0⟩
def SAMPLES : Fld := ⟨0x0C4, 31, 0⟩
def PTP_PORT_EN (n : Nat) : Fld := ⟨0x040 + 4 * n, 0, 0⟩
def PTP_PORT_CMLDS (n : Nat) : Fld := ⟨0x040 + 4 * n, 1, 1⟩
def PTP_PORT_LOG_PDELAY (n : Nat) : Fld := ⟨0x040 + 4 * n, 5, 2⟩
def PTP_PORT_LOG_SYNC (n : Nat) : Fld := ⟨0x040 + 4 * n, 9, 6⟩
def PTP_PORT_ROLE (n : Nat) : Fld := ⟨0x040 + 4 * n, 17, 10⟩
def PTP_PORT_HOST_COPY (n : Nat) : Fld := ⟨0x040 + 4 * n, 18, 18⟩
def LINK_DELAY (n : Nat) : Fld := ⟨0x100 + 8 * n, 31, 0⟩
def NRR (n : Nat) : Fld := ⟨0x104 + 8 * n, 31, 0⟩
def PTP_PSTAT_PDELAY_OK (n : Nat) : Fld := ⟨0x200 + 4 * n, 0, 0⟩
def PTP_PSTAT_AS_CAPABLE (n : Nat) : Fld := ⟨0x200 + 4 * n, 1, 1⟩
def CORR_E_U_RX (n : Nat) : Fld := ⟨0x040 + 4 * n, 15, 0⟩
def CORR_E_U_TX (n : Nat) : Fld := ⟨0x040 + 4 * n, 31, 16⟩
def CORR_C_U_RX (c : Nat) : Fld := ⟨0x0B0 + 4 * c, 15, 0⟩
def PST_CFG_EN (p : Nat) : Fld := ⟨0x040 + 32 * p, 0, 0⟩
def PST_CFG_MODE (p : Nat) : Fld := ⟨0x040 + 32 * p, 2, 1⟩
def PST_CFG_DOMAIN (p : Nat) : Fld := ⟨0x040 + 32 * p, 5, 3⟩
def PST_CFG_INVERT (p : Nat) : Fld := ⟨0x040 + 32 * p, 6, 6⟩
def PST_CFG_COUNT (p : Nat) : Fld := ⟨0x040 + 32 * p, 23, 8⟩
def PST_SEC_LO (p : Nat) : Fld := ⟨0x044 + 32 * p, 31, 0⟩
def PST_SEC_HI (p : Nat) : Fld := ⟨0x048 + 32 * p, 15, 0⟩
def PST_NS_NS (p : Nat) : Fld := ⟨0x04C + 32 * p, 29, 0⟩
def PST_NS_QNS (p : Nat) : Fld := ⟨0x04C + 32 * p, 31, 30⟩
def PST_PERIOD_NS (p : Nat) : Fld := ⟨0x050 + 32 * p, 29, 0⟩
def PST_PERIOD_QNS (p : Nat) : Fld := ⟨0x050 + 32 * p, 31, 30⟩
def PST_WIDTH (p : Nat) : Fld := ⟨0x054 + 32 * p, 29, 0⟩
def PST_CORR (p : Nat) : Fld := ⟨0x058 + 32 * p, 15, 0⟩
def PST_STAT_PULSES (p : Nat) : Fld := ⟨0x05C + 32 * p, 15, 0⟩
def PST_STAT_LEVEL (p : Nat) : Fld := ⟨0x05C + 32 * p, 16, 16⟩
def PST_STAT_ARMED (p : Nat) : Fld := ⟨0x05C + 32 * p, 17, 17⟩
def PST_STAT_HELD (p : Nat) : Fld := ⟨0x05C + 32 * p, 18, 18⟩
def CAP_CFG_EN (i : Nat) : Fld := ⟨0x040 + 32 * i, 0, 0⟩
def CAP_CFG_EDGE (i : Nat) : Fld := ⟨0x040 + 32 * i, 2, 1⟩
def CAP_CFG_DOMAIN (i : Nat) : Fld := ⟨0x040 + 32 * i, 5, 3⟩
def CAP_TS_NS_NS (i : Nat) : Fld := ⟨0x044 + 32 * i, 29, 0⟩
def CAP_TS_NS_RISING (i : Nat) : Fld := ⟨0x044 + 32 * i, 30, 30⟩
def CAP_TS_NS_PRESENT (i : Nat) : Fld := ⟨0x044 + 32 * i, 31, 31⟩
def CAP_TS_SEC (i : Nat) : Fld := ⟨0x048 + 32 * i, 31, 0⟩
def CAP_TS_HI_SEC_HI (i : Nat) : Fld := ⟨0x04C + 32 * i, 15, 0⟩
def CAP_TS_HI_QNS (i : Nat) : Fld := ⟨0x04C + 32 * i, 17, 16⟩
def CAP_TS_HI_INVALID (i : Nat) : Fld := ⟨0x04C + 32 * i, 18, 18⟩
def CAP_TS_HI_LEFT (i : Nat) : Fld := ⟨0x04C + 32 * i, 28, 24⟩
def CAP_CORR (i : Nat) : Fld := ⟨0x050 + 32 * i, 15, 0⟩
def CAP_OVF (i : Nat) : Fld := ⟨0x054 + 32 * i, 31, 0⟩
def CTS_CFG_EN (s : Nat) : Fld := ⟨0x040 + 16 * s, 0, 0⟩
def CTS_CFG_DIR (s : Nat) : Fld := ⟨0x040 + 16 * s, 1, 1⟩
def CTS_CFG_CHANNEL (s : Nat) : Fld := ⟨0x040 + 16 * s, 7, 2⟩
def CTS_CFG_DOMAIN (s : Nat) : Fld := ⟨0x040 + 16 * s, 9, 8⟩
def CTS_CFG_TDOM (s : Nat) : Fld := ⟨0x040 + 16 * s, 13, 10⟩
def CTS_CFG_IDE (s : Nat) : Fld := ⟨0x040 + 16 * s, 14, 14⟩
def CTS_ID (s : Nat) : Fld := ⟨0x044 + 16 * s, 28, 0⟩
def CTS_TIME_PERIOD (s : Nat) : Fld := ⟨0x048 + 16 * s, 15, 0⟩
def CTS_TIME_FUP_TIMEOUT (s : Nat) : Fld := ⟨0x048 + 16 * s, 31, 16⟩
def CTS_USER_USER (s : Nat) : Fld := ⟨0x04C + 16 * s, 23, 0⟩
def CTS_USER_PROP (s : Nat) : Fld := ⟨0x04C + 16 * s, 31, 24⟩
def CTS_LOST (s : Nat) : Fld := ⟨0x0C0 + 4 * s, 31, 0⟩
def TT_MISSED (c : Nat) : Fld := ⟨0x200 + 4 * c, 31, 0⟩
def REF_VERDICT_CODE : Fld := ⟨0x040, 15, 0⟩
def REF_VERDICT_CONTRACT : Fld := ⟨0x040, 25, 16⟩
def REF_VERDICT_IN_CONTRACT : Fld := ⟨0x040, 26, 26⟩
def REF_VERDICT_AT_TRIM : Fld := ⟨0x040, 27, 27⟩
def REF_VBOUND : Fld := ⟨0x044, 31, 0⟩
def REF_VDEADLINE : Fld := ⟨0x048, 31, 0⟩
def REF_VTAG : Fld := ⟨0x04C, 31, 0⟩
def REF_CHECK_US : Fld := ⟨0x050, 15, 0⟩
def REF_CNT_A_ENFORCED : Fld := ⟨0x054, 10, 0⟩
def REF_CNT_A_SUSPENDED : Fld := ⟨0x054, 26, 16⟩
def REF_CNT_B_VOID : Fld := ⟨0x058, 10, 0⟩
def REF_CNT_B_INACTIVE : Fld := ⟨0x058, 26, 16⟩
def REF_LANE_DECL (n : Nat) : Fld := ⟨0x080 + 4 * n, 7, 0⟩
def REF_CAN_DECL_LO : Fld := ⟨0x0F0, 31, 0⟩
def REF_CAN_DECL_HI : Fld := ⟨0x0F4, 15, 0⟩
def KEY_CMD_OP : Fld := ⟨0x040, 2, 0⟩
def KEY_CMD_SLOT : Fld := ⟨0x040, 15, 8⟩
def KEY_CMD_PARENT : Fld := ⟨0x040, 23, 16⟩
def KEY_CMD_ATTR : Fld := ⟨0x044, 31, 0⟩
def KEY_CMD_MASTERS : Fld := ⟨0x048, 15, 0⟩
def KEY_CMD_LEN_LABEL_LEN : Fld := ⟨0x04C, 5, 0⟩
def KEY_CMD_LEN_CTX_LEN : Fld := ⟨0x04C, 13, 8⟩
def KEY_STAT_BUSY : Fld := ⟨0x050, 0, 0⟩
def KEY_STAT_DONE : Fld := ⟨0x050, 1, 1⟩
def KEY_STAT_CODE : Fld := ⟨0x050, 31, 16⟩
def KEY_LABEL (k : Nat) : Fld := ⟨0x060 + 4 * k, 31, 0⟩
def KEY_CTX (k : Nat) : Fld := ⟨0x080 + 4 * k, 31, 0⟩
def KEY_USE_REFUSED : Fld := ⟨0x0A0, 31, 0⟩
def KEY_WIPES : Fld := ⟨0x0A4, 31, 0⟩
def NVM_STAT_BUSY : Fld := ⟨0x040, 0, 0⟩
def NVM_STAT_QUEUE : Fld := ⟨0x040, 5, 1⟩
def NVM_STAT_BOOT_LOST : Fld := ⟨0x040, 6, 6⟩
def NVM_STAT_BOOT_CONFLICT : Fld := ⟨0x040, 7, 7⟩
def NVM_STAT_ON_RESERVE : Fld := ⟨0x040, 8, 8⟩
def NVM_STAT_LOST_POS : Fld := ⟨0x040, 23, 16⟩
def NVM_STAT_CONFLICT_POS : Fld := ⟨0x040, 31, 24⟩
def ATT_CMD_GO : Fld := ⟨0x040, 0, 0⟩
def ATT_CFG_NONCE_LEN : Fld := ⟨0x044, 6, 0⟩
def ATT_CFG_TIME_DOMAIN : Fld := ⟨0x044, 10, 8⟩
def ATT_STAT_BUSY : Fld := ⟨0x048, 0, 0⟩
def ATT_STAT_DONE : Fld := ⟨0x048, 1, 1⟩
def ATT_STAT_LEN : Fld := ⟨0x048, 13, 2⟩
def ATT_STAT_CODE : Fld := ⟨0x048, 31, 16⟩
def ATT_NONCE (k : Nat) : Fld := ⟨0x080 + 4 * k, 31, 0⟩
def CERT_SEL : Fld := ⟨0x100, 1, 0⟩
def CERT_LEN : Fld := ⟨0x104, 10, 0⟩
def CERT_OUT (k : Nat) : Fld := ⟨0x400 + 4 * k, 31, 0⟩
def ATT_OUT (k : Nat) : Fld := ⟨0x800 + 4 * k, 31, 0⟩
def DRBG_CFG_PR : Fld := ⟨0x040, 0, 0⟩
def DRBG_STAT_READY : Fld := ⟨0x044, 0, 0⟩
def DRBG_STAT_FAIL : Fld := ⟨0x044, 1, 1⟩
def DRBG_STAT_RESEEDING : Fld := ⟨0x044, 2, 2⟩
def DRBG_STAT_ON_RESERVE : Fld := ⟨0x044, 3, 3⟩
def DRBG_OUT : Fld := ⟨0x048, 31, 0⟩
def DRBG_FAILS : Fld := ⟨0x04C, 31, 0⟩
def LC_REQ_TARGET : Fld := ⟨0x040, 2, 0⟩
def LC_REQ_CONFIRM : Fld := ⟨0x040, 31, 16⟩
def LC_STAT_BUSY : Fld := ⟨0x044, 0, 0⟩
def LC_STAT_PENDING : Fld := ⟨0x044, 3, 1⟩
def LC_STAT_WIPED : Fld := ⟨0x044, 4, 4⟩
def LC_STAT_CODE : Fld := ⟨0x044, 31, 16⟩
def LC_NONCE_LO : Fld := ⟨0x048, 31, 0⟩
def LC_NONCE_HI : Fld := ⟨0x04C, 31, 0⟩
def LC_ROLLBACK : Fld := ⟨0x050, 6, 0⟩
def LC_ROLLBACK_CMD_ADVANCE : Fld := ⟨0x054, 0, 0⟩
def LC_TOKEN (k : Nat) : Fld := ⟨0x080 + 4 * k, 31, 0⟩
def ST_CFG_LAP_PERIOD : Fld := ⟨0x040, 15, 0⟩
def ST_CFG_TS_GAP : Fld := ⟨0x040, 23, 16⟩
def ST_CFG_LAPS_EN : Fld := ⟨0x040, 24, 24⟩
def ST_CFG_RETRY_EN : Fld := ⟨0x040, 25, 25⟩
def ST_CMD_OP : Fld := ⟨0x044, 3, 0⟩
def ST_CMD_UNIT : Fld := ⟨0x044, 31, 16⟩
def ST_STAT_STATE : Fld := ⟨0x048, 1, 0⟩
def ST_STAT_WAITING : Fld := ⟨0x048, 2, 2⟩
def ST_STAT_CUR_SLICE : Fld := ⟨0x048, 15, 8⟩
def ST_STAT_CUR_UNIT : Fld := ⟨0x048, 31, 16⟩
def ST_LAP : Fld := ⟨0x04C, 15, 0⟩
def ST_PASS : Fld := ⟨0x080, 31, 0⟩
def ST_FAIL : Fld := ⟨0x084, 31, 0⟩
def ST_INCOMPLETE : Fld := ⟨0x088, 31, 0⟩
def ST_TRANSIENT : Fld := ⟨0x08C, 31, 0⟩
def ST_UNTESTABLE : Fld := ⟨0x090, 31, 0⟩
def MB_LOG0_MEM : Fld := ⟨0x040, 15, 0⟩
def MB_LOG0_BIT : Fld := ⟨0x040, 22, 16⟩
def MB_LOG0_COLUMN : Fld := ⟨0x040, 23, 23⟩
def MB_LOG0_REPAIRED : Fld := ⟨0x040, 24, 24⟩
def MB_LOG0_HARD : Fld := ⟨0x040, 25, 25⟩
def MB_LOG0_VALID : Fld := ⟨0x040, 31, 31⟩
def MB_LOG1_ADDR : Fld := ⟨0x044, 19, 0⟩
def MB_FUSE : Fld := ⟨0x048, 8, 0⟩
def MB_LOST : Fld := ⟨0x080, 31, 0⟩

end R

end Sys2Proof.Machine
end

