-- ==== Sys2Proof/Machine/State.lean ====
section
/-! DEFINITION. The state of the VX9690 as plain data: the register file, the mode axes, and for every block the queues, buffers,
counters and sequences that the spec gives it; the state right after reset; the reasons a step could stop. -/

namespace Sys2Proof.Machine

/-- The pins whose level the device drives and that the model shows. -/
inductive Pin where
  | faultN
  | pwrReq
  | wake (n : Nat)
  | pistol (n : Nat)
  | t1sActivity (i : Nat)
  | linWake (n : Nat)
  deriving DecidableEq, Repr

/-- A CAN frame (the format table of chapter 08): format (0 Classical, 1 FD, 2 XL), identifier and its IDE bit, flags, the CAN XL
fields and the payload. -/
structure CanFrame where
  fmt : Nat
  ide : Bool
  id : Nat
  brs : Bool
  rtr : Bool
  esi : Bool
  sec : Bool
  sdt : Nat
  vcid : Nat
  af : Nat
  data : List Byte
  deriving DecidableEq, Repr


/-- What leaves the device: frames on a port, messages to the hosts, DMA writes, the data of a read of the logbook
port, the completion of a read that stalled, pin levels, and pulses of a length in microseconds. The list of them in State is the
model's record of outputs, oldest first. -/
inductive Out where
  | ethFrame (port : Nat) (bytes : List Byte)
  | mPacket (port : Nat) (respond : Bool)
  | beacon (t1s : Nat)
  | msi (fn vector : Nat)
  | dma (fn addr : Nat) (bytes : List Byte)
  | dmaRead (fn addr len : Nat)
  | pin (p : Pin) (level : Bool)
  | pulse (p : Pin) (us : Nat)
  | can (channel : Nat) (frame : CanFrame) (pwm : Option (Nat × Nat × Nat))
  | linHeader (channel id brk : Nat)
  | linResponse (channel id : Nat) (bytes : List Byte)
  | mdio (pair op : Nat) (c45 : Bool) (phyad regad data : Nat)
  | portData (bytes : List Byte)
  | completion (m : Nat) (data : Word)
  deriving DecidableEq, Repr

/-- The five readings of a photo-finish stamp (R324), corrected to the ball, in counter units, and the INVALID marks (bits 0 to 3
for T0 to T3, bit 4 for TL; R321), and the island that took it (R12). -/
structure Stamps where
  t0 : Nat
  t1 : Nat
  t2 : Nat
  t3 : Nat
  tl : Nat
  invalid : Nat
  island : Island
  deriving DecidableEq, Repr


/-- The power axis (R34). -/
inductive Power where
  | full
  | trim
  | lean
  | rest
  deriving DecidableEq, Repr

/-- The service axis (R34). -/
inductive Service where
  | halt
  | run
  | diagnose
  | maintain
  deriving DecidableEq, Repr

/-- The trust axis (R34). -/
inductive Trust where
  | unmeasured
  | opn
  | sealed
  | quarantine
  | retrn
  deriving DecidableEq, Repr

/-- The fused life-cycle state (R56). -/
inductive LifeCycle where
  | blank
  | dev
  | prod
  | rma
  | fin
  deriving DecidableEq, Repr

/-- Where a REST entry or exit stands (R458, R460): no entry under way; request taken and ingress closed; committed;
PD3 to PD15 off; PWR_REQ low and sources armed; woken and waiting for a PG line. -/
inductive RestPhase where
  | awake
  | requested
  | committed
  | off
  | asleep
  | waking
  deriving DecidableEq, Repr

/-- A QUARANTINE record of the journaled store (R57): its cause and its REPORTED mark. -/
structure QuarRecord where
  cause : Nat
  reported : Bool
  deriving DecidableEq, Repr

/-- The three mode axes and what DEV_MODE shows beside them (R34), the life-cycle fuses, the QUARANTINE record and the REST
sequence. -/
structure ModeState where
  power : Power
  service : Service
  trust : Trust
  life : LifeCycle
  maintPending : Bool
  /-- a LEAVE_MAINTAIN that waits for the test or repair step in progress (R50) -/
  leaving : Bool
  diagPending : Bool
  trimDroop : Bool
  trimThermal : Bool
  tamper : Bool
  quarCause : Nat
  /-- the current boot and runtime measurements match (R58) -/
  measuresMatch : Bool
  quarRecord : Option QuarRecord
  rest : RestPhase
  /-- a wake event came after the REST request was taken (R456, R459) -/
  wakeSeen : Bool
  /-- the trust axis has opened the debug port (R56, R420) -/
  jtagOpen : Bool
  deriving DecidableEq, Repr

def ModeState.reset : ModeState :=
  { power := .full, service := .halt, trust := .unmeasured, life := .blank, maintPending := false, leaving := false
    diagPending := false, trimDroop := false, trimThermal := false, tamper := false, quarCause := 0
    measuresMatch := false, quarRecord := none, rest := .awake, wakeSeen := false, jtagOpen := false }

/-- The steps of the boot sequence, each named by what must happen next (R96, R100). -/
inductive BootStep where
  | held
  | fuses
  | plls
  | hostif
  | romMbist
  | imageRead
  | imageCheck
  | p0Wait
  | recovery
  | domains
  | domainMbist
  | measure
  | halt
  | done
  | failed
  deriving DecidableEq, Repr

/-- Which reset, or REST exit, a boot follows. -/
inductive BootKind where
  | powerOn
  | warm
  | restExit
  deriving DecidableEq, Repr

/-- The boot sequence and the reset pins. -/
structure BootState where
  step : BootStep
  kind : BootKind
  bootsel : BitVec 2
  /-- the image source under trial: 0 and 1 the xSPI slots, 2 P0 (BOOT_STATUS.SOURCE) -/
  source : Nat
  /-- BOOT_STATUS.STAGE and BOOT_STATUS.CODE -/
  stage : Nat
  code : Nat
  image : Option ImageFacts
  /-- PORST_N is low; WRST_N is low -/
  porstLow : Bool
  wrstLow : Bool
  /-- the standby sources are lost and the internal power-on reset holds the device (R72) -/
  internalPor : Bool
  /-- the boot measurement is complete and BAR0 is decoded (R96, R98) -/
  measured : Bool
  /-- P0, P1 have entered Detect (R98) -/
  detect0 : Bool
  detect1 : Bool
  /-- PERST0_N, PERST1_N are high (R98) -/
  perst0 : Bool
  perst1 : Bool
  /-- the boot measurement matched (R56) -/
  matched : Bool
  /-- DEV_MODE when the boot began, for the record of R37 -/
  before : Word
  deriving DecidableEq, Repr

def BootState.reset : BootState :=
  { step := .held, kind := .powerOn, bootsel := 0, source := 0, stage := 0, code := 0, image := none, porstLow := true
    wrstLow := false, internalPor := false, measured := false, detect0 := false, detect1 := false, perst0 := true, perst1 := true, matched := false
    before := 0 }

/-- The power manager: the groups of domains still to be switched on (R82), the domains that are on but not yet restored
(R47), and the domains of the lean set (R76). -/
structure PowerState where
  groups : List (List Nat)
  restoring : List Nat
  leanSet : List Nat
  /-- PLLs whose islands are held (R89, R90); PLL5 is switching or relocking in place of the one named -/
  heldPlls : List Nat
  substituting : Option Nat
  deriving DecidableEq, Repr

def PowerState.reset : PowerState :=
  { groups := [], restoring := [], leanSet := [], heldPlls := [], substituting := none }

/-- The events that come a known time after another: each is one timer, due at a TL time. The index is a port, an input, a
channel, a ring or a table index. -/
inductive Tmr where
  | trimHold
  | pgHold
  | diagExit
  | group
  | restOff
  | restPwr
  | pgWait
  | debounce (n : Nat)
  | chatter (n : Nat)
  | holdoff (n : Nat)
  | stuck (n : Nat)
  | phyWake (n : Nat)
  | faultMin
  | tblOwner (p : Nat)
  | logSwitch
  | ringWait (k : Nat)
  | ringMod (k : Nat)
  | txStamp (k : Nat)
  | bootGo
  | late
  | mmVerify (n : Nat)
  | pause (n : Nat)
  | pauseRepeat (n : Nat)
  | beacon (n : Nat)
  | mdioPoll (n : Nat)
  | shadow
  | canHandover (n : Nat)
  | linResponse (n : Nat)
  | linIdle (n : Nat)
  | linResume (n : Nat)
  | linHandover (n : Nat)
  | acf (n : Nat)
  | holdover (k : Nat)
  | pdelay (n : Nat)
  | pdelayResp (n : Nat)
  | sync (n : Nat)
  | drbg
  | lap
  | tsGap
  | contracts
  deriving DecidableEq, Repr

/-- A change of one table entry in a heat (R118): its page, its index, whether it deletes, its data, and the physical slots, as
(array, slot), that are reserved or written for it (`newSlots`; R183, R132) and that loading marked for deletion (`oldSlots`). -/
structure TblRec where
  page : Nat
  idx : Nat
  del : Bool
  data : Entry
  newSlots : List (Nat × Nat)
  oldSlots : List (Nat × Nat)
  /-- the master that staged it (R405) -/
  by_ : Nat
  deriving DecidableEq, Repr

/-- The changes of a heat: register records, by address (page × 4,096 + offset), and table records, oldest first. -/
structure Changes where
  regs : SMap Word
  tbls : List TblRec
  deriving DecidableEq, Repr

def Changes.empty : Changes := { regs := [], tbls := [] }

/-- A heat whose referee check runs (R122): tag, changes, HEAT_ACT mode (0 TIMED, 1 NOW, 2 CYCLE), domain (0 to 3), port, the
time written, and the TL time at which the check began. -/
structure Checking where
  tag : Word
  chg : Changes
  mode : Nat
  domain : Nat
  port : Nat
  time : Nat
  loaded : Bool
  since : Nat
  /-- other heats were armed at the capture point (R123) -/
  behind : Bool
  deriving DecidableEq, Repr

/-- An armed heat (R124): activation domain (0 to 3, 4 = TL), activation time in 2^-48 ns of that domain, whether it is loaded
into the next copies (R125), whether R131 holds it, and its late activation time in TL once that is fixed. -/
structure Armed where
  tag : Word
  chg : Changes
  domain : Nat
  time : Nat
  loaded : Bool
  late : Bool
  lateTime : Option Nat
  /-- held to the end of the spacing behind a late heat (R131) -/
  spaced : Bool
  /-- a step has carried its domain past its time: it swaps at once, or at the end of its loading (R130) -/
  stepped : Bool := false
  /-- the bounds the referee computed for it, by contract (FULL, TRIM) -/
  bounds : SMap (Nat × Nat)
  deriving DecidableEq, Repr

/-- The heat manager (chapter 04). -/
structure HeatState where
  opn : Changes
  checking : Option Checking
  armed : List Armed
  /-- tag of the live heat, 0 for none -/
  live : Word
  /-- the live heat, while it has not settled (R133), and its activation time in TL -/
  settling : Option (Changes × Nat)
  /-- what the registers that the live heat changed held before the swap, for frames of the old epoch (R23) -/
  old : SMap Word
  /-- LIVE_E of every table (R132) -/
  liveE : Bool
  /-- the last activation: its domain, its time in that domain, and the TL time of the swap (R20, R130) -/
  actAt : Nat × Nat × Nat
  /-- the TL time at which the spacing behind the last heat that went live late by its domain's invalidity ends (R131) -/
  spacing : Option Nat := none
  /-- the bounds of the live heat and of the latest accepted heat, by contract (FULL, TRIM; R347), and the contract states with their
  REASON bits (R365) -/
  bounds : SMap (Nat × Nat)
  latest : SMap (Nat × Nat)
  states : SMap (Nat × Nat)
  deriving DecidableEq, Repr

def HeatState.reset : HeatState :=
  { opn := Changes.empty, checking := none, armed := [], live := 0, settling := none, old := [], liveE := false, actAt := (4, 0, 0)
    bounds := [], latest := [], states := [] }

/-- A physical table slot (R132): its V, E and B bits, RSV of the tables reached by key (R183), and its data. -/
structure Slot where
  v : Bool
  e : Bool
  b : Bool
  rsv : Bool
  data : Entry
  deriving DecidableEq, Repr

/-- An entry of a posted-error log (the PERR registers). -/
structure PostedError where
  baton : Nat
  master : Nat
  vf : Nat
  bar : Nat
  offset : Nat
  data : Word
  code : Nat
  dw : Nat
  deriving DecidableEq, Repr

/-- A request of a host: master, window, byte offset, the first word written and those after it, length in words (0 for an access narrower
than a word), and whether it reads. -/
structure Inbound where
  m : Master
  w : Window
  off : Nat
  value : Word
  more : List Word
  dw : Nat
  read : Bool
  /-- the bytes that a read of the logbook port asks for, where they are no whole words -/
  bytes : Option Nat := none
  deriving DecidableEq, Repr

/-- The credits that an endpoint has for its link partner (R375): posted and non-posted headers, and data in units of 16 bytes. Completion
credits are infinite. -/
structure Credits where
  ph : Nat
  pd : Nat
  nph : Nat
  npd : Nat
  deriving DecidableEq, Repr

/-- An inbound access held behind a page under test (R111), or a fence read that waits for its function's writes (R373); `waits` are the
batons of the writes outstanding when it came. -/
inductive Stalled where
  | write (m : Master) (e : PostedError) (page off : Nat) (value : Word)
  | read (m : Master) (page off : Nat)
  | fence (m : Master) (fn : Nat) (baton : Nat) (waits : List Nat)
  /-- an access to another window than the registers', behind a stalled write -/
  | window (x : Inbound) (e : PostedError)
  deriving DecidableEq, Repr

/-- One bridge (index 0 P0, 1 P1): next baton, posted-error log, stalled accesses, and the requests that the link has delivered and that still
hold their credits, since the bridge has no room for the first of them (R371, R375). -/
structure Bridge where
  baton : Nat
  log : List PostedError
  stall : List Stalled
  link : List Inbound
  deriving DecidableEq, Repr

/-- The bridges and the per-function attribution of posted writes (R371 to R373), and MSI-X (R368, R388, R465): vectors 0 to
255 are those of P0, 256 to 271 those of P1. -/
structure BridgeState where
  p0 : Bridge
  p1 : Bridge
  /-- per function (PF0, PF1, VF0 to VF7, P1): failures since its last fence read, and baton of its last write -/
  failed : SMap Nat
  last : SMap Nat
  msixEnabled : List Nat
  unmasked : List Nat
  msixPending : List Nat
  msixTable : SMap Word
  /-- the image buffer of the boot window (R100) -/
  bootBuffer : SMap Word
  /-- the transmit ring served last at each PRIO (R386) -/
  txPtr : SMap Nat
  /-- the write of the KEY_SLOT port's TBL_CMD that waits for a record write (R403) -/
  keyWrite : Option (Master × PostedError)
  /-- NumVFs and VF Enable of PF1 (R368) -/
  numVfs : Nat := 0
  vfEnable : Bool := false
  deriving DecidableEq, Repr

def Bridge.reset : Bridge := { baton := 0, log := [], stall := [], link := [] }

def BridgeState.reset : BridgeState :=
  { p0 := Bridge.reset, p1 := Bridge.reset, failed := [], last := [], msixEnabled := [], unmasked := [], msixPending := []
    msixTable := [], bootBuffer := [], txPtr := [], keyWrite := none }

/-- A logbook record before its header is written (R390, R391). -/
structure LogRec where
  type : Nat
  page : Nat
  tl : Nat
  tsInvalid : Bool
  code : Nat
  arg0 : Nat
  arg1 : Nat
  arg2 : Nat
  payload : List Word
  deriving DecidableEq, Repr

/-- The state of a logbook bank (R392). -/
inductive BankState where
  | free
  | filling
  | closed
  deriving DecidableEq, Repr

/-- A logbook bank: its state and the bytes written to it. -/
structure Bank where
  st : BankState
  bytes : List Byte
  deriving DecidableEq, Repr

/-- A position in the stream of the two banks: the bank (`true` is B) and the offset in it. -/
structure LogPos where
  bankB : Bool
  off : Nat
  deriving DecidableEq, Repr

/-- The logbook (R390 to R397): the records on their way to LOG-P1, the two banks, which of them is the older, the read
position, the split mark and the release point, the next SEQ, and whether records were lost since the last one written. -/
structure LogState where
  coming : List LogRec
  a : Bank
  b : Bank
  olderB : Bool
  rp : LogPos
  mark : LogPos
  rel : LogPos
  seq : Nat
  lostBefore : Bool
  deriving DecidableEq, Repr

def LogState.reset : LogState :=
  { coming := [], a := { st := .filling, bytes := [] }, b := { st := .free, bytes := [] }, olderB := false
    rp := { bankB := false, off := 0 }, mark := { bankB := false, off := 0 }, rel := { bankB := false, off := 0 }
    seq := 0, lostBefore := false }

/-- FAULT_N (R466, R467): the fixed conditions that hold, in table order, the pin, and the TL time it was last asserted. -/
structure FaultState where
  droopCrit : Bool
  thermCrit : Bool
  refclkLost : Bool
  tlSplit : Bool
  boot : Bool
  lockstep : Bool
  unserved : Bool
  pin : Bool
  since : Nat
  deriving DecidableEq, Repr

def FaultState.reset : FaultState :=
  { droopCrit := false, thermCrit := false, refclkLost := false, tlSplit := false, boot := true, lockstep := false
    unserved := false, pin := true, since := 0 }

/-- The wake inputs' chatter counts (R448), by input: changes of RAW in the present window. -/
structure WakeState where
  edges : SMap Nat
  /-- the debounced level that a masked input would load at the end of its hold-off (R448) -/
  shadow : SMap Bool
  deriving DecidableEq, Repr

def WakeState.reset : WakeState := { edges := [], shadow := [] }

/-- A servo (R316): the integral rate, the count of good samples, and the TL time (ns) of the last sample used. -/
structure Servo where
  ri : Int
  n : Nat
  last : Option Nat
  deriving DecidableEq, Repr

/-- A gPTP port (R330): sequence number and send time t1 of the Pdelay_Req under way, t2 and t4 of its response, the (t3, t4) of
the last exchanges (newest first), the last link delays, the runs of good and bad exchanges, the AS_CAPABLE decision being in its
register; the newest request that a Pdelay_Resp under way answers (sequence, majorSdoId and domainNumber together; requesting port; receipt time)
and the earlier ones whose responses have not left yet; and the exchange before the newest where it is still open: its sequence number, t1, and t2
and t4. -/
structure PtpPort where
  seq : Nat
  asked : Bool
  t1 : Option Nat
  resp : Option (Int × Nat)
  past : List (Int × Nat)
  delays : List Int
  good : Nat
  bad : Nat
  answer : Option (Nat × Nat × Nat)
  answers : List (Nat × Nat × Nat) := []
  older : Option (Nat × Option Nat × Option (Int × Nat)) := none
  deriving DecidableEq, Repr

/-- What the last Sync and Follow_Up of a domain gave (R331): precise origin time, correction, scaled rate offset, ingress stamp on TL. -/
structure GptpRecv where
  pot : Nat
  cf : Int
  rate : Int
  ingress : Nat
  deriving DecidableEq, Repr

/-- A gPTP domain: the Sync that waits for its Follow_Up (port, sequenceId, stamps, correction), what was last received, the TL time of
the last sample, the sequence number of the Syncs sent. -/
structure Gptp where
  sync : Option (Nat × Nat × Stamps × Int)
  recv : Option GptpRecv
  heard : Option Nat
  seq : Nat
  deriving DecidableEq, Repr

/-- A pistol (R333 to R336), times in quarter-nanoseconds of its DOMAIN: the number of the next pulse and its edge time, and the end of
the pulse in progress. -/
structure Pistol where
  next : Option (Nat × Nat)
  until_ : Option Nat
  deriving DecidableEq, Repr

/-- A capture input (R337): the FIFO (time in quarter-ns, rising, INVALID), oldest first, and the TL time of the last edge. -/
structure Capture where
  fifo : List (Nat × Bool × Bool)
  last : Option Nat
  deriving DecidableEq, Repr

/-- A CAN time-synchronisation slot (R339): SC, the domain time of the next SYNC of a master, and the SYNC a slave holds (SC, SOF stamps,
seconds). -/
structure CtsSlot where
  sc : Nat
  next : Option Nat
  sync : Option (Nat × Stamps × Nat)
  deriving DecidableEq, Repr

/-- The counters of TL and of T0 to T3, in units of 2^-48 ns (R312: 48 fraction bits below the nanosecond), and the time subsystem's
running state. -/
structure TimeState where
  tl : Nat
  t0 : Nat
  t1 : Nat
  t2 : Nat
  t3 : Nat
  /-- the islands whose replica the last update found off (R19) -/
  off : List Island
  /-- the five counters at the last update of the replicas -/
  updated : Stamps
  /-- egress stamps of gPTP event messages, by port × 4 + kind (1 Pdelay_Req, 2 Pdelay_Resp, 3 Sync), with the message's tag -/
  egress : SMap (Nat × Stamps)
  /-- the latches of R313, by group (0 to 3 the domains, 4 TL) × 8 + master -/
  latches : SMap Nat
  servo : SMap Servo
  /-- counter B of a domain minus its counter A, in counter units (R318) -/
  dual : SMap Int
  /-- the domains whose counters disagree and that wait for a sample of their source (R318) -/
  dualWaits : List Nat
  /-- those of them that were valid until then, whose validity a repair restores (R318) -/
  dualValid : List Nat := []
  /-- counters 1 and 2 of TL minus counter 0, which is `tl`, in counter units (R320) -/
  tlOff : Int × Int
  ports : SMap PtpPort
  gptp : SMap Gptp
  pistols : SMap Pistol
  caps : SMap Capture
  cts : SMap CtsSlot
  /-- S_0 of the time-triggered schedules, by channel, in nanoseconds of their domain (R342) -/
  tt : SMap Nat
  deriving DecidableEq, Repr

def TimeState.reset : TimeState :=
  { tl := 0, t0 := 0, t1 := 0, t2 := 0, t3 := 0, off := []
    updated := { t0 := 0, t1 := 0, t2 := 0, t3 := 0, tl := 0, invalid := 0, island := .time }, egress := [], latches := [], servo := [], dual := [], dualWaits := [], tlOff := (0, 0), ports := []
    gptp := [], pistols := [], caps := [], cts := [], tt := [] }

/-- A transmit frame's place in its ring (R387): function, ring, serial number of the frame in the ring, stamp asked for. -/
structure TxRef where
  fn : Nat
  ring : Nat
  serial : Nat
  ts : Bool
  deriving DecidableEq, Repr

/-- A frame on its way to the lookup. `bytes` runs from the destination address to the byte before the FCS; of an oversize frame
it holds every byte kept (R143). `early`: handed on before its end was checked; `bad`: it then ended with a bad FCS or a symbol
error (R25). `frag`: it came as fragments (R151). `src`: 0 to 27 En, 28 H0, 29 the relay engine. `vid` and `prio` of
frames from 28 and 29 are their descriptor's or route's; `prio` holds the priority of R225 once classified. `ended`: the TL time at which it
ended at its ingress port. -/
structure Frame where
  bytes : List Byte
  oversize : Bool
  early : Bool
  bad : Bool
  frag : Bool
  src : Nat
  stamp : Stamps
  epoch : Bool
  vid : Nat
  /-- the PCP of a tag that egress adds (R198) -/
  pcp : Nat
  prio : Nat
  markDei : Bool
  pacer : Option Nat
  tx : Option TxRef
  ended : Nat
  /-- it ended with a bad FCS, which nothing has counted yet (R142) -/
  fcs : Bool := false
  deriving DecidableEq, Repr

/-- A stored frame (R226): the cells it holds, the port it entered by, its priority, how many copies hold it, and whether a copy's drop for a bad
FCS has been counted (R142). -/
structure Packet where
  cells : Nat
  src : Nat
  prio : Nat
  copies : Nat
  fcs : Bool := false
  deriving DecidableEq, Repr

/-- A copy of a frame in a lane: the packet it holds, the bytes to send, without FCS. -/
structure Copy where
  packet : Nat
  bytes : List Byte
  oversize : Bool
  early : Bool
  bad : Bool
  tx : Option TxRef
  /-- the TL time at which the frame ended at its ingress port -/
  ended : Nat
  /-- a gPTP event message whose egress stamp the time unit waits for: its kind (1 Pdelay_Req, 2 Pdelay_Resp, 3 Sync) and a tag -/
  ptp : Option (Nat × Nat)
  /-- its frame ended with a bad FCS, which nothing had counted when it was queued (R142) -/
  fcs : Bool := false
  deriving DecidableEq, Repr

/-- A PDU (R286, R287): source, format (0 Classical, 1 FD, 2 XL, 3 LIN), identifier and flags, XL fields, bus, payload, EOF stamps,
epoch. -/
structure Pdu where
  src : Nat
  fmt : Nat
  ide : Bool
  id : Nat
  brs : Bool
  rtr : Bool
  esi : Bool
  sec : Bool
  sdt : Nat
  vcid : Nat
  af : Nat
  bus : Nat
  data : List Byte
  stamp : Stamps
  epoch : Bool
  tx : Option TxRef
  deriving DecidableEq, Repr

/-- An item of a receive ring's queue (R384): a frame copy or a PDU. -/
structure RxItem where
  packet : Option Nat
  cells : Nat
  bytes : List Byte
  oversize : Bool
  mirror : Option Nat
  fcsKept : Bool
  src : Nat
  prio : Nat
  vid : Nat
  stamp : Stamps
  pdu : Option Pdu
  /-- the latest TL time at which a PDU may be written (R306) -/
  deadline : Option Nat
  deriving DecidableEq, Repr

/-- Where a mirror copy goes (R208): a lane of a port, or a receive ring of a function. -/
inductive MirrorTo where
  | lane (port lane : Nat) (copy : Copy)
  | ring (fn ring : Nat) (item : RxItem)
  deriving DecidableEq, Repr

/-- A frame at step 7 of R214, as it waits behind a flow pacer (R229) and passes to its queues: its cells and kept length, its copies for
lanes (port, lane), for receive rings (function, ring), and its mirror copies with their sessions. `alone`: the lane copies are all
the copies of its result (R225). -/
structure Paced where
  cells : Nat
  len : Nat
  src : Nat
  prio : Nat
  copies : List (Nat × Nat × Copy)
  rings : List (Nat × Nat × RxItem)
  mirrors : List (Nat × MirrorTo)
  alone : Bool
  tx : Option TxRef
  deriving DecidableEq, Repr

/-- The levels of R223 and R232: tokens and credit in u, the last advance in TL nanoseconds. -/
structure Levels where
  tok : Int
  cr : Int
  last : Nat
  deriving DecidableEq, Repr

/-- A lane: its copies, oldest first, its levels and its deficit (R233). -/
structure Lane where
  q : List Copy
  lv : Levels
  deficit : Int
  deriving DecidableEq, Repr

/-- A transmission: lane, copy, bytes on the wire without FCS, FCS inverted at the end, the bytes already sent in earlier
fragments, and the TL time at which the present fragment began; for the preemptable MAC the TL time of a request to preempt it, and that
at which the closure of its lane's gate acts as one (R149, R240). -/
structure Sending where
  lane : Nat
  copy : Copy
  wire : List Byte
  inverted : Bool
  sent : Nat
  since : Nat
  frags : Nat
  stamp : Option Stamps
  ask : Option Nat
  hold : Option Nat
  close : Option Nat
  deriving DecidableEq, Repr

/-- A hurdle list in its island (R237 to R239): the swap A and the first cycle start S_0, the start of the present cycle (all in
nanoseconds of DOMAIN), whether the first cycle has started, the entry in force, and whether its hold is in force. -/
structure Hurdle where
  swap : Nat
  s0 : Nat
  cycle : Nat
  running : Bool
  entry : Nat
  hold : Bool
  deriving DecidableEq, Repr

/-- The egress side of a port: what the express and the preemptable MAC hold, the round-robin pointers, the hurdle list, and the TL time
from which the line may carry the next frame (R141). -/
structure EgressPort where
  express : Option Sending
  preempt : Option Sending
  suspended : Bool
  ptrE : Nat
  ptrP : Nat
  hurdle : Hurdle
  free : Nat
  deriving DecidableEq, Repr

/-- A reassembly (R151): the SMD frame number, the fragment count expected next, and the bytes so far. -/
structure Assembly where
  frame : Nat
  next : Nat
  bytes : List Byte
  stamp : Stamps
  epoch : Bool
  /-- its frame was dropped with EPOCH_STALE (R129); what is still to come of it is passed over -/
  stale : Bool := false
  deriving DecidableEq, Repr

/-- The PLCA cycle of a T1S PHY (R157): the TL time of its BEACON, the frames that the port has sent in its opportunity, and the TL time at which
the last of them ended. -/
structure Plca where
  since : Nat
  id : Nat
  sent : Nat
  last : Nat
  deriving DecidableEq, Repr

/-- The Ethernet ports: reassemblies, verify attempts, the priorities for which XOFF stands (bit 8 for PAUSE), collision attempts
and the MDIO commands in progress and waiting, by pair. -/
structure EthState where
  asm : SMap Assembly
  tries : SMap Nat
  xoff : SMap Nat
  attempts : SMap Nat
  mdio : SMap Word
  /-- ports whose MACsec engine is lost with no reserve free (R440) -/
  engineLost : List Nat
  /-- the present cycle of each T1S PHY -/
  plca : SMap Plca
  /-- mPackets that wait for a frame boundary, the oldest first: true a response, false a verify (R147) -/
  mPackets : SMap (List Bool)
  /-- transmit SAs, port * 4 + AN, whose last packet number has been used (R162) -/
  pnUsed : List Nat
  deriving DecidableEq, Repr

/-- A stream gate's run-time state (R216, R220): swap, first cycle start and present cycle start in nanoseconds of DOMAIN, whether
the first cycle has started, entry in force, octets passed in it, CLOSED. -/
structure StreamGate where
  swap : Nat
  s0 : Nat
  cycle : Nat
  running : Bool
  entry : Nat
  octets : Nat
  closed : Bool
  deriving DecidableEq, Repr

/-- A meter's run-time state (R216, R224): the two buckets in u, the last time in TL nanoseconds, MARK_ALL_RED. -/
structure Meter where
  tc : Int
  te : Int
  last : Nat
  allRed : Bool
  deriving DecidableEq, Repr

/-- A learn request (R186, R188): slice, VID, address, port, TL time of the lookup, epoch. -/
structure LearnReq where
  slice : Nat
  role : Nat
  vid : Nat
  mac : BitVec 48
  port : Nat
  time : Nat
  epoch : Bool
  deriving DecidableEq, Repr

/-- The forwarding pipeline: the frames between MAC and lookup, the learn queues, the run-time state of filters (MATCHED, DROPPED,
BLOCKED), stream gates, meters and flow pacers, the packet buffer, the lanes and the egress ports. -/
structure FwdState where
  classQ : List Frame
  lookQ : List Frame
  learnQ : List LearnReq
  /-- TL time of the last learn or move, by (slice × 2^60 + VID × 2^48 + address) (R187) -/
  learned : SMap Nat
  matched : SMap Nat
  dropped : SMap Nat
  blocked : List Nat
  gates : SMap StreamGate
  gateDrops : SMap Nat
  meters : SMap Meter
  yellow : SMap Nat
  red : SMap Nat
  pacers : SMap (List Paced)
  pacerLv : SMap Levels
  pacerDrops : SMap Nat
  packets : SMap Packet
  nextPacket : Nat
  lanes : SMap Lane
  ports : SMap EgressPort
  /-- the role whose learned entries are being copied to the reserve (R209), with source and destination slice -/
  copying : Option (Nat × Nat × Nat)
  /-- the ageing tick of the last sweep (R191) -/
  ageTick : Nat
  /-- frames of receive streams on their way to the relay engine, with the stream (R302) -/
  acfIn : List (Nat × Frame)
  /-- what the hardware of a slice holds in a slot that the shadow compare found different from what the heats wrote and kept (R207), by
  slice × 2^40 + slot, `none` an emptied slot; `slots` holds what the shadow holds -/
  strays : SMap (Option Entry)
  /-- by role, the TL time until which its last flush runs (R193) -/
  flushes : SMap Nat := []
  deriving DecidableEq, Repr

def EthState.reset : EthState := { asm := [], tries := [], xoff := [], attempts := [], mdio := [], engineLost := [], plca := [], mPackets := [], pnUsed := [] }

def FwdState.reset : FwdState :=
  { classQ := [], lookQ := [], learnQ := [], learned := [], matched := [], dropped := [], blocked := [], gates := []
    gateDrops := [], meters := [], yellow := [], red := [], pacers := [], pacerLv := [], pacerDrops := [], packets := []
    nextPacket := 0, lanes := [], ports := [], copying := none, ageTick := 0, acfIn := [], strays := [] }

/-- A key slot (R401): its attributes, masters, generation and content. `origin` is the slot it was derived from, kept also where
CASCADE = 0 (R407; log entry 31). Key and salt are never read back (R400). -/
structure KeySlot where
  usage : Nat
  persist : Bool
  cascade : Bool
  world : Bool
  lcDev : Bool
  lcProd : Bool
  derived : Bool
  orphaned : Bool
  depth : Nat
  masters : Nat
  gen : Nat
  parent : Nat
  parentGen : Nat
  origin : Option Nat
  key : BitVec 256
  salt : BitVec 96
  deriving DecidableEq, Repr

/-- An object of the journaled store (R408): a key slot, a record of freshness ceilings, the QUARANTINE record, a scratch list
record or a repair record (as pairs of numbers), or nothing. -/
inductive NvObj where
  | gone
  | key (k : KeySlot)
  | ceilings (l : List (Nat × Nat))
  | quarantine (q : QuarRecord)
  | scratch (l : List (Nat × Nat))
  | repairs (l : List (Nat × Nat × Nat))
  deriving DecidableEq, Repr

/-- A record of the store in one bank, field by field as R408 lays it out: PAYLOAD holds 64 bytes, key and salt in them encrypted; the byte
7, which is 0, has no field. -/
structure NvRec where
  magic : BitVec 32
  position : Nat
  kind : Nat
  seq : Nat
  payload : List Byte
  digest : BitVec 384
  commit : BitVec 32
  deriving DecidableEq, Repr

/-- What waits for a record write: nothing, the KEY_SLOT table port, KEY_CMD, or the wipe of an orphaned slot. -/
inductive NvJob where
  | none
  | port
  | cmd
  | wipe
  deriving DecidableEq, Repr

/-- A record write waiting or in progress (R409); for a DERIVE that waits for it, the parent slot that the command names (R401). -/
structure NvWrite where
  pos : Nat
  obj : NvObj
  job : NvJob
  parent : Option Nat := none
  deriving DecidableEq, Repr

/-- A load buffer (R402). -/
structure LoadBuf where
  key : Option (BitVec 256)
  salt : BitVec 96
  deriving DecidableEq, Repr

/-- The key store: slots, the load buffers of M0 and M1, the nonvolatile store (bank × 256 + position), its writes in order (the
first is in progress), whether its reserve bank serves bank A (0) or B (1), the payload being signed and the last statement, the heat
digest, the measurements, the DRBG's failed restarts and requests, the OTP contents, the highest target of the transitions accepted since the
last power-on reset, how many fuses of the rows 1 to 4 (DEV, PROD, RMA, END) are blown above the row of the present state (R418), the
transition under way as its target and the time it still takes, whether TBL_DATA of KEY_SLOT holds what READ_LIVE gave (R400), the private keys
of the device slots, and the random value of the alias certificate's signature, none where no such certificate is issued (R412). -/
structure KeyState where
  slots : SMap KeySlot
  buf0 : LoadBuf
  buf1 : LoadBuf
  nvm : SMap NvRec
  writes : List NvWrite
  reserveBank : Option Nat
  bootLost : Bool
  bootConflict : Bool
  lostPos : Nat
  conflictPos : Nat
  attPayload : Option (List Byte)
  statement : List Byte
  heatDigest : BitVec 384
  bodyHash : BitVec 384
  runHash : BitVec 384
  restarts : Nat
  requests : Nat
  drbgScratched : Bool
  uid : BitVec 64
  rollback : Nat
  lcPending : Nat
  nonce : BitVec 64
  lcRows : SMap Nat := []
  lcRun : Option (Nat × Nat) := none
  shown : Bool := false
  idKey : BitVec 384 := 0
  aliasKey : BitVec 384 := 0
  aliasNonce : Option (BitVec 256) := none
  deriving DecidableEq, Repr

def LoadBuf.empty : LoadBuf := { key := none, salt := 0 }

def KeyState.reset : KeyState :=
  { slots := [], buf0 := LoadBuf.empty, buf1 := LoadBuf.empty, nvm := [], writes := [], reserveBank := none, bootLost := false
    bootConflict := false, lostPos := 0, conflictPos := 0, attPayload := none, statement := [], heatDigest := 0, bodyHash := 0
    runHash := 0, restarts := 0, requests := 0, drbgScratched := false, uid := 0, rollback := 0, lcPending := 0, nonce := 0 }

/-- A receive descriptor as fetched: index in the ring, buffer address and length. -/
structure RxDesc where
  ix : Nat
  addr : Nat
  len : Nat
  deriving DecidableEq, Repr

/-- A transmit descriptor as fetched. -/
structure TxDesc where
  ix : Nat
  addr : Nat
  len : Nat
  sop : Bool
  eop : Bool
  pduForm : Bool
  tsReq : Bool
  prio : Nat
  vid : Nat
  id : Nat
  ide : Bool
  fmt : Nat
  brs : Bool
  rtr : Bool
  sec : Bool
  sdt : Nat
  vcid : Nat
  af : Nat
  deriving DecidableEq, Repr

/-- A transmit frame or PDU that entered the device and whose descriptors wait to be written back (R387): its serial number, its
descriptors, the ports that still hold a copy, the status of the first drop, the egress stamp of the lowest port that sent it,
whether the write-back may be made, and the TL time at which it entered. -/
structure TxWait where
  serial : Nat
  descs : List TxDesc
  ts : Bool
  ports : List Nat
  status : Nat
  stamp : Option (Nat × Stamps)
  known : Bool
  since : Nat
  /-- its set of egress ports is known: the frame is past admission -/
  granted : Bool := false
  deriving DecidableEq, Repr

/-- A ring (R381 to R388): the receive queue, what of its head is written (bytes, and descriptors with the bytes in each), the
descriptors fetched, the next index to fetch, the transmit frames waiting for write-back, the next serial number, the completions
not yet signalled, and whether the head waits for a descriptor. -/
structure Ring where
  queue : List RxItem
  written : Nat
  filled : List (RxDesc × Nat)
  rx : List RxDesc
  tx : List TxDesc
  fetch : Nat
  waits : List TxWait
  serial : Nat
  unsignalled : Nat
  /-- the first descriptors of a transmit frame whose reading has begun, which are prefetched no more (R383) -/
  begun : List TxDesc := []
  deriving DecidableEq, Repr

def Ring.empty : Ring :=
  { queue := [], written := 0, filled := [], rx := [], tx := [], fetch := 0, waits := [], serial := 0, unsignalled := 0 }

/-- A frame held for transmission: its handle (R266), whether it was pushed through the push window (R267), its expiry on TL
(R265), and the time-synchronisation slot that sent it, with `true` for a FUP (R339). -/
structure CanHeld where
  frame : CanFrame
  handle : Nat
  pushed : Bool
  expiry : Option Nat
  cts : Option (Nat × Bool)
  deriving DecidableEq, Repr

/-- What a mailbox stores beside its header (R270): identifier with IDE in bit 29, XL fields, timestamp, at most 64 bytes, and the stamp that
the timestamp was read from. -/
structure CanStored where
  id : Nat
  sdt : Nat
  vcid : Nat
  af : Nat
  ns : Nat
  sec : Nat
  data : List Byte
  stamp : Stamps
  deriving DecidableEq, Repr

/-- A CAN channel: the frames held by its transmit buffers, the marshalling queue in rank order, the generation of each handle
slot, the buffer whose attempt is locked with the start-of-frame stamp of the attempt, the mailboxes (32 is the high-priority
buffer), the transmit events (handle, outcome, CANCEL_LATE), the timing registers still in force after a swap (R248), the reserve
core attached for a handover (R274), and the open time-triggered windows (R341): the close time of each, by its
entry × 4 + its buffer. -/
structure CanChan where
  bufs : SMap CanHeld
  queue : List CanHeld
  gens : SMap Nat
  locked : Option Nat
  sof : Option Stamps
  /-- the loop delay of the locked attempt, in clocks, which is measured in its data phase (R249) -/
  delay : Option Nat
  mbs : SMap CanStored
  events : List (Nat × Nat × Bool)
  timing : SMap Word
  attached : Option Nat
  windows : SMap Nat
  deriving DecidableEq, Repr

def CanChan.empty : CanChan :=
  { bufs := [], queue := [], gens := [], locked := none, sof := none, delay := none, mbs := [], events := [], timing := [], attached := none
    windows := [] }

/-- A LIN slot in progress (R279): the identifier of its header, its type (6 for a poll of the collision list), whether this node
sends the response, and the TL time of its start. -/
structure LinSlot where
  id : Nat
  type : Nat
  publish : Bool
  since : Nat
  deriving DecidableEq, Repr

/-- A LIN channel: the slot in progress, when the next starts (TL), the identifiers still to poll after a collision, the first data
words held and the second words latched by identifier (R278), the header a responder answers, and the reserve core attached. -/
structure LinChan where
  slot : Option LinSlot
  next : Option Nat
  polls : List Nat
  held : SMap Word
  latched : SMap Word
  attached : Bool
  deriving DecidableEq, Repr

def LinChan.empty : LinChan := { slot := none, next := none, polls := [], held := [], latched := [], attached := false }

/-- A copy on its way to a destination (R292, R293): the record's kind and port, the message (format 3 is LIN), bus identifier, H0
queue, lifetime in µs, the latest TL time of its hand-off, source, EOF stamps, epoch. -/
structure RelayCopy where
  kind : Nat
  port : Nat
  msg : CanFrame
  bus : Nat
  hostq : Nat
  life : Nat
  deadline : Option Nat
  src : Nat
  stamp : Stamps
  epoch : Bool
  deriving DecidableEq, Repr

/-- A copy that CANAUTH holds: one that waits for a freshness ceiling (profile, counter, data identifier), or one that is ready and waits
behind it for the order of R288. -/
structure AuthWait where
  copy : RelayCopy
  gen : Option (Entry × Nat × Nat)
  deriving DecidableEq, Repr

/-- A signal monitor's run-time state (R297). -/
structure Monitor where
  expiry : Nat
  out : Bool
  expiries : Nat
  deriving DecidableEq, Repr

/-- A message of an ACF frame (R301): its message and bus, whether the stream's domain was valid when it was added, the EOF stamps of its copy,
the latest TL time of the copy's hand-off (R306). -/
structure AcfMsg where
  msg : CanFrame
  bus : Nat
  timed : Bool
  stamp : Stamps
  deadline : Option Nat
  deriving DecidableEq, Repr

/-- A frame being built for an ACF stream (R301): its messages, oldest first, and the epoch. -/
structure Builder where
  msgs : List AcfMsg
  epoch : Bool
  deriving DecidableEq, Repr

/-- A freshness counter (R303, R304): value, DIR, PERSIST and the ceiling last asked for. -/
structure Fvc where
  value : Nat
  dir : Bool
  persist : Bool
  ceil : Nat
  deriving DecidableEq, Repr

/-- The relay engine (chapter 09): PDUs on their way to it, its input queue, the copies held by CANAUTH, images, monitors, stream sequence
numbers and frame counts, builders, freshness counters, and the persistent counters in the order of their ceiling entries. -/
structure RelayState where
  coming : List Pdu
  inq : List Pdu
  waiting : List AuthWait
  images : SMap (BitVec 512)
  monitors : SMap Monitor
  seqs : SMap Nat
  frames : SMap Nat
  builders : SMap Builder
  fvc : SMap Fvc
  ceilings : List Nat
  deriving DecidableEq, Repr

def RelayState.reset : RelayState :=
  { coming := [], inq := [], waiting := [], images := [], monitors := [], seqs := [], frames := [], builders := [], fvc := []
    ceilings := [] }

/-- What the unit table holds of a unit (R424 and the ST_UNITS table): RESULT, RETRIED, UNTESTABLE, the last test slice, the lap, its
signature, patterns and target. -/
structure UnitResult where
  result : Nat
  retried : Bool
  untestable : Bool
  slice : Nat
  lap : Nat
  misr : BitVec 64
  patterns : Nat
  target : Nat
  deriving DecidableEq, Repr

/-- Where the test of a unit stands (R427): its work moves to the reserve, a test slice runs, the gap before the next, its work moves
back. -/
inductive TestPhase where
  | out
  | slice
  | gap
  | back
  deriving DecidableEq, Repr

/-- The unit under test: unit code, phase, test slice, whether that slice is being repeated and whether one passed on repeat, the reserve
that took its work, and whether the engine that takes over is attached (R432). -/
structure TestRun where
  unit : Nat
  phase : TestPhase
  slice : Nat
  repeating : Bool
  retried : Bool
  reserve : Nat
  attached : Bool
  /-- the CAN channel whose work moves -/
  chan : Nat := 0
  deriving DecidableEq, Repr

/-- An entry of the MBIST log (R437). -/
structure MbEntry where
  mem : Nat
  addr : Nat
  bit : Nat
  column : Bool
  repaired : Bool
  hard : Bool
  deriving DecidableEq, Repr

/-- A repair of a memory: memory number, address, bit or column, column repair (R441). -/
structure Repair where
  mem : Nat
  addr : Nat
  bit : Nat
  column : Bool
  deriving DecidableEq, Repr

/-- The self-test controller (chapter 14): unit results, the scratch list (unit code, cause), the operation in progress (0 none, 1 lap,
2 full BIST, 3 hard repair, 4 a single test), the units still to test, the unit under test, the command that waits for its mode (R444), a
lap that is due, the MBIST log, the repair records and the fuse entries in use. -/
structure TestState where
  units : SMap UnitResult
  scratch : List (Nat × Nat)
  op : Nat
  todo : List Nat
  run : Option TestRun
  waiting : Option (Nat × Nat)
  lapDue : Bool
  /-- the TL time at which the last lap started (R429), or the boot ended -/
  lapAt : Nat
  mbLog : List MbEntry
  soft : List Repair
  fuses : List Repair
  /-- corrected errors of the packet buffer: the location, and the TL time of the last (R437) -/
  corrected : List (Repair × Nat)
  /-- the hardware slots of static tables that the shadow compare rewrote for bad parity since the boot (R437): slice × 2^40 + slot key -/
  rewritten : List Nat
  deriving DecidableEq, Repr

def TestState.reset : TestState :=
  { units := [], scratch := [], op := 0, todo := [], run := none, waiting := none, lapDue := false, lapAt := 0, mbLog := [], soft := [], fuses := []
    corrected := [], rewritten := [] }


/-- The state of the device. -/
structure State where
  /-- the commands waiting, first in, first out -/
  pending : List Instr
  /-- the register file: page × 4,096 + offset, to the value where it is not the reset value -/
  regs : SMap Word
  /-- the running 64-bit counters (R142), by the address of their LO word -/
  wide : SMap (BitVec 64)
  /-- the counter snapshots of frozen pages (R107), by address -/
  snap : SMap (BitVec 64)
  /-- the PAGE_CTRL.VIEW bits that are 1 (R105), as page × 8 + master -/
  views : List Nat
  /-- the masters latched by table ports (R116), by page -/
  owners : SMap Nat
  /-- the data of the last read completed, none for Unsupported Request (the model's own port for what a read returns) -/
  rdata : Option Word
  /-- what has left the device, oldest first -/
  outbox : List Out
  /-- the model's counter of free values -/
  freeIx : Nat
  /-- running timers, each with the TL time at which it is due -/
  timers : List (Tmr × Nat)
  mode : ModeState
  boot : BootState
  power : PowerState
  heat : HeatState
  /-- the physical slots of the tables, by table number × 2^24 + slot -/
  slots : SMap Slot
  bridge : BridgeState
  log : LogState
  fault : FaultState
  wake : WakeState
  time : TimeState
  eth : EthState
  fwd : FwdState
  /-- frames and PDUs dropped, by reason code: the model's own count, for reasons that no register counts -/
  drops : SMap Nat
  key : KeyState
  /-- the rings, by function × 32 + ring (receive 0 to 15, transmit 16 to 31; function 10 is P1) -/
  rings : SMap Ring
  /-- the CAN channels C0 to C47 and the LIN channels L0 to L11 -/
  can : SMap CanChan
  lin : SMap LinChan
  relay : RelayState
  test : TestState
  deriving DecidableEq, Repr

/-- The device in power-on reset, PORST_N still low: the reset values of the spec, and those of log entries 3 and 4 where it gives none. -/
def State.reset : State :=
  { pending := []
    regs := []
    wide := []
    snap := []
    views := []
    owners := []
    rdata := none
    outbox := []
    freeIx := 0
    timers := []
    mode := ModeState.reset
    boot := BootState.reset
    power := PowerState.reset
    heat := HeatState.reset
    slots := []
    bridge := BridgeState.reset
    log := LogState.reset
    fault := FaultState.reset
    wake := WakeState.reset
    time := TimeState.reset
    eth := EthState.reset
    fwd := FwdState.reset
    drops := []
    key := KeyState.reset
    rings := []
    can := []
    lin := []
    relay := RelayState.reset
    test := TestState.reset }

/-- The reasons a step could end in a fault: none. Every command of the table has an effect that the spec gives, so no meaning of
this model faults. -/
inductive Fault where
  /-- raised by no meaning; safe, since nothing reaches it -/
  | none
  deriving DecidableEq, Repr

/-- The reasons a step could be refused. -/
inductive Refusal where
  /-- raised by an arm of `exec` whose command has no meaning yet; safe: the machine stops -/
  | notModelled (mnemonic : String)
  deriving DecidableEq, Repr

end Sys2Proof.Machine
end

