-- ==== Sys2Proof/Machine/Ops.lean ====
section
/-! DEFINITION. The named operations over the register file, the counters, the timers and the clock, and the ways a block
reports: error capture (R106), event bits and their messages (R463 to R465), FAULT_N (R466, R467), logbook records (R390, R391),
and failed posted writes (R371, R372). -/

namespace Sys2Proof.Machine

/-! ### Registers -/

/-- The reset value of the register at `off` of page `p`. -/
def resetWord (p off : Nat) : Word :=
  (regFields p (off % 4096)).foldl (fun w f => setBits w f.hi f.lo f.reset) 0

/-- The bits of a register whose access code satisfies `q`. -/
def accMask (q : Acc → Bool) (p off : Nat) : Word :=
  (regFields p (off % 4096)).foldl (fun w f => if q f.acc then w ||| maskW f.hi f.lo else w) 0

/-- The key of a register in the register file: a page holds 4096 bytes, so an offset counts modulo that. -/
def regKey (p off : Nat) : Nat := p * 4096 + off % 4096

/-- The value of the register at `off` of page `p`: the live copy where it is staged. -/
def State.rd (s : State) (p off : Nat) : Word := (mget s.regs (regKey p off)).getD (resetWord p off)

/-- Put a value into a register. An entry equal to the reset value is not listed. -/
def State.wr (s : State) (p off : Nat) (v : Word) : State :=
  { s with regs := if v = resetWord p off then mdel s.regs (regKey p off) else mset s.regs (regKey p off) v }

/-- The field `f` of page `p`. -/
def State.fld (s : State) (p : Nat) (f : Fld) : Nat := getBits (s.rd p f.off) f.hi f.lo

/-- The field `f` of page `p`, as a flag. -/
def State.flag (s : State) (p : Nat) (f : Fld) : Bool := s.fld p f != 0

/-- Put `x` into the field `f` of page `p`. -/
def State.setF (s : State) (p : Nat) (f : Fld) (x : Nat) : State :=
  s.wr p f.off (setBits (s.rd p f.off) f.hi f.lo x)

/-- Put a flag. -/
def State.setB (s : State) (p : Nat) (f : Fld) (x : Bool) : State := s.setF p f (b2n x)

/-- Count one in a field that wraps at its width. -/
def State.count (s : State) (p : Nat) (f : Fld) : State := s.setF p f (s.fld p f + 1)

/-- Count `n` in a field that wraps at its width. -/
def State.countN (s : State) (p : Nat) (f : Fld) (n : Nat) : State := s.setF p f (s.fld p f + n)

/-- Count one in a field that saturates at its width. -/
def State.countSat (s : State) (p : Nat) (f : Fld) : State := s.setF p f (satInc (s.fld p f) (f.hi + 1 - f.lo))

/-- Count `n` in the 64-bit counter whose LO word is at `off` (R142). -/
def State.countWide (s : State) (p off n : Nat) : State :=
  let k := regKey p off
  { s with wide := mset s.wide k ((mget s.wide k).getD 0 + BitVec.ofNat 64 n) }

/-- Return the registers of every page that satisfies `q` to their reset values, with the counters, snapshots, views and
latches of those pages. -/
def State.resetPages (s : State) (q : Nat → Bool) : State :=
  { s with
    regs := mkeep s.regs fun k => !q (k / 4096)
    wide := mkeep s.wide fun k => !q (k / 4096)
    snap := mkeep s.snap fun k => !q (k / 4096)
    views := s.views.filter fun k => !q (k / 8)
    owners := mkeep s.owners fun k => !q k }

/-- Return to their reset values the fields of every page satisfying `q` whose access code satisfies `a`. -/
def State.resetFields (s : State) (q : Nat → Bool) (a : Acc → Bool) : State :=
  let clean (e : Nat × Word) : Option (Nat × Word) :=
    let m := accMask a (e.1 / 4096) (e.1 % 4096)
    let v := (e.2 &&& ~~~ m) ||| (resetWord (e.1 / 4096) (e.1 % 4096) &&& m)
    if q (e.1 / 4096) then
      if v = resetWord (e.1 / 4096) (e.1 % 4096) then none else some (e.1, v)
    else some e
  { s with regs := s.regs.filterMap clean }

/-! ### Time and timers -/

/-- One nanosecond in the units of the counters. -/
def nsUnit : Nat := 2 ^ 48

/-- Nanoseconds, microseconds and milliseconds in the units of the counters. -/
def nsT (n : Nat) : Nat := n * nsUnit
def usT (n : Nat) : Nat := n * 1000 * nsUnit
def msT (n : Nat) : Nat := n * 1000000 * nsUnit

/-- One second in the units of the counters. -/
def secUnit : Nat := 1000000000 * nsUnit

/-- The fields of a device time (R5): seconds, nanoseconds, fraction. -/
def timeSec (t : Nat) : Nat := t / secUnit % 2 ^ 48
def timeNs (t : Nat) : Nat := t % secUnit / nsUnit
def timeFrac (t : Nat) : Nat := t % nsUnit / 2 ^ 32

/-- The counter value that a seconds, nanoseconds and fraction triple spells. -/
def timeOf (sec ns frac : Nat) : Nat := sec * secUnit + ns * nsUnit + frac * 2 ^ 32

/-- The counter of domain `k`: T0 to T3, and TL for any other number. -/
def State.clock (s : State) (k : Nat) : Nat :=
  match k with
  | 0 => s.time.t0
  | 1 => s.time.t1
  | 2 => s.time.t2
  | 3 => s.time.t3
  | _ => s.time.tl

/-- Start timer `t`, due `d` from now (in counter units). -/
def State.start (s : State) (t : Tmr) (d : Nat) : State :=
  { s with timers := s.timers.filter (fun e => e.1 != t) ++ [(t, s.time.tl + d)] }

/-- Stop timer `t`. -/
def State.stop (s : State) (t : Tmr) : State := { s with timers := s.timers.filter fun e => e.1 != t }

/-- Timer `t` runs. -/
def State.running (s : State) (t : Tmr) : Bool := s.timers.any fun e => e.1 == t

/-- Timer `t` runs and its time has come. -/
def State.due (s : State) (t : Tmr) : Bool := s.timers.any fun e => e.1 == t && e.2 ≤ s.time.tl

/-- Release the latch by which a master owns page `p` (R116). -/
def State.disown (s : State) (p : Nat) : State := { s.stop (.tblOwner p) with owners := mdel s.owners p }

/-- Put something on the record of outputs. -/
def State.emit (s : State) (o : Out) : State := { s with outbox := s.outbox ++ [o] }

/-- The next free value, `n` bits wide, and the state after drawing it. -/
def State.draw (s : State) : State := { s with freeIx := s.freeIx + 1 }

/-! ### Power of pages -/

/-- PDn is powered and its isolation is released (PWR_STAT.DOMAIN_ON). -/
def State.on (s : State) (pd : Nat) : Bool := bit (s.fld 1 R.PWR_STAT_DOMAIN_ON) pd

/-- PDn is powered and its configuration is loaded (R81). -/
def State.up (s : State) (pd : Nat) : Bool := s.on pd && !s.power.restoring.contains pd

/-- The clock of an island fed by PLL `k` runs (R87, R89 to R91): 0 feeds DMA, S0 to S2, PKTBUF, CLASSIFY, the MACs, the egress islands,
RELAY, CANAUTH, MACsec, CTRL and PERIPH; 1 COACH, KEY, CAN and LIN; 2 TIME, pistols and captures; 3 and 4 the SerDes lanes. -/
def State.clocked (s : State) (k : Nat) : Bool := !s.power.heldPlls.contains k && !s.fault.refclkLost

/-- What an island fed by PLL `k` does: nothing while its clock is held (R89). -/
def State.whenClocked (s : State) (k : Nat) (t : State) : State := if s.clocked k then t else s

/-- The domain by which a page is reached: of a role page that of the slice that serves the role; of the common forwarding pages that of the
first slice that is on (DEDUCED from R168 and R424, log entry 13); of the others the page's own. `none` where no slice serves the page. -/
def State.reachedBy (s : State) (p : Nat) : Option Nat :=
  if 0x080 ≤ p && p ≤ 0x08F then [5, 6, 7].find? s.on
  else if p == 0x090 || p == 0x091 then
    let sv := s.fld p R.RESERVE_MAP_SERVING
    if sv < 3 then some (5 + sv) else none
  else some (pageDomain p)

/-- The domain that serves a page is powered. -/
def State.pageOn (s : State) (p : Nat) : Bool := (s.reachedBy p).any s.on

/-- The page takes accesses to its body: its domain is powered and holds its configuration (R81, R110). -/
def State.pageUp (s : State) (p : Nat) : Bool :=
  if 0x080 ≤ p && p ≤ 0x08F then [5, 6, 7].any s.up else (s.reachedBy p).any s.up

/-- The unit of a code is on the scratch list (R440). -/
def State.scratched (s : State) (u : Nat) : Bool := s.test.scratch.any fun e => e.1 == u

/-- A domain is isolated because it, or the unit that alone needs it, is scratched (R440). PD3, which the Coach needs, never is (DEDUCED, log
entry 189). -/
def State.isolatedDomain (s : State) (d : Nat) : Bool :=
  (5 ≤ d && d ≤ 7 && s.scratched (0x100 + (d - 5))) || (4 ≤ d && s.scratched (0xA00 + d))

/-- The page's domain is scratched, or the unit that serves it is, with no reserve serving it (R112): changes to it are discarded at loading. -/
def State.pageUnserved (s : State) (p : Nat) : Bool :=
  (s.reachedBy p).any s.isolatedDomain || (s.flag p R.PAGE_STAT_SCRATCHED && s.fld p R.RESERVE_MAP_SERVING == 15)

/-! ### Events: IRQ_RAW, the aggregator, MSI-X, FAULT_N -/

/-- IRQ_RAW AND IRQ_EN of a page. -/
def State.irqPend (s : State) (p : Nat) : Word := s.rd p R.IRQ_RAW.off &&& s.rd p R.IRQ_EN.off

/-- RING_IRQ_RAW AND RING_IRQ_EN of an FN page. -/
def State.ringPend (s : State) (p : Nat) : Word := s.rd p R.RING_IRQ_RAW.off &&& s.rd p R.RING_IRQ_EN.off

/-- A page of the range has an event pending (IRQ_PEND, less the bits of `mask`), and is powered. -/
def State.pendIn (s : State) (first last : Nat) : Bool :=
  (List.range (last + 1 - first)).any fun i => s.pageOn (first + i) && s.irqPend (first + i) != 0

/-- Aggregator source `k` is active (R463, R464). -/
def State.sourceActive (s : State) (k : Nat) : Bool :=
  if k < 0x140 then s.on 4 && (s.ringPend (0x028 + k / 32)).getLsbD (k % 32)
  else if k < 0x170 then s.pageOn (0x100 + (k - 0x140)) && (s.irqPend (0x100 + (k - 0x140))).getLsbD 1
  else if k < 0x180 then s.pendIn (k - 0x170) (k - 0x170)
  else if k == 0x180 then s.pendIn 0x010 0x010
  else if k == 0x181 then s.pendIn 0x011 0x01F
  else if k == 0x182 then s.pendIn 0x020 0x020
  else if k == 0x183 then s.pendIn 0x021 0x021
  else if k < 0x18F then s.pendIn (0x028 + (k - 0x184)) (0x028 + (k - 0x184))
  else if k < 0x1AB then s.pendIn (0x040 + (k - 0x18F)) (0x040 + (k - 0x18F))
  else if k == 0x1AB then s.pendIn 0x060 0x07F
  else if k == 0x1AC then s.pendIn 0x080 0x08E
  else if k == 0x1AD then s.pendIn 0x090 0x090
  else if k == 0x1AE then s.pendIn 0x091 0x091
  else if k == 0x1AF then s.pendIn 0x098 0x09A
  else if k == 0x1B0 then s.pendIn 0x0C0 0x0C5
  else if k == 0x1B1 then s.pendIn 0x0C8 0x0E3
  else if k < 0x1E2 then
    s.pageOn (0x100 + (k - 0x1B2)) && (s.irqPend (0x100 + (k - 0x1B2)) &&& 0xFFFFFFFD) != 0
  else if k == 0x1E2 then s.pendIn 0x130 0x131 || s.pendIn 0x140 0x14C
  else if k == 0x1E3 then s.pendIn 0x150 0x157
  else if k < 0x1E9 then s.pendIn (0x180 + (k - 0x1E4)) (0x180 + (k - 0x1E4))
  else if k == 0x1E9 then s.pendIn 0x188 0x18F
  else if k == 0x1EA then s.pendIn 0x1A0 0x1A5
  else if k == 0x1EB then s.pendIn 0x1A8 0x1B0
  else if k == 0x1EC then s.pendIn 0x1C0 0x1C2
  else if k == 0x1ED then s.pendIn 0x1D0 0x1D3
  else if k == 0x1EE then s.pendIn 0x1E0 0x1E0
  else if k == 0x1EF then s.pendIn 0x1F0 0x1F0
  else false

/-- The aggregator sources that the IRQ_RAW bits of a page feed (R463). -/
def pageSources (p : Nat) : List Nat :=
  if p < 0x010 then [0x170 + p] else if p == 0x010 then [0x180] else if p < 0x020 then [0x181]
  else if p < 0x022 then [0x182 + (p - 0x020)] else if p < 0x028 then []
  else if p < 0x033 then [0x184 + (p - 0x028)] else if p < 0x040 then []
  else if p < 0x05C then [0x18F + (p - 0x040)] else if p < 0x060 then [] else if p < 0x080 then [0x1AB]
  else if p < 0x08F then [0x1AC] else if p == 0x090 then [0x1AD] else if p == 0x091 then [0x1AE]
  else if 0x098 ≤ p && p < 0x09B then [0x1AF] else if p < 0x0C0 then [] else if p < 0x0C6 then [0x1B0]
  else if 0x0C8 ≤ p && p < 0x0E4 then [0x1B1] else if p < 0x100 then []
  else if p < 0x130 then [0x140 + (p - 0x100), 0x1B2 + (p - 0x100)]
  else if p < 0x132 || (0x140 ≤ p && p < 0x14D) then [0x1E2] else if p < 0x150 then [] else if p < 0x158 then [0x1E3]
  else if 0x180 ≤ p && p < 0x185 then [0x1E4 + (p - 0x180)] else if 0x188 ≤ p && p < 0x190 then [0x1E9]
  else if 0x1A0 ≤ p && p < 0x1A6 then [0x1EA] else if 0x1A8 ≤ p && p < 0x1B1 then [0x1EB]
  else if 0x1C0 ≤ p && p < 0x1C3 then [0x1EC] else if 0x1D0 ≤ p && p < 0x1D4 then [0x1ED]
  else if p == 0x1E0 then [0x1EE] else if p == 0x1F0 then [0x1EF] else []

/-- The pages of the aggregator. -/
def pgAggCtrl : Nat := 0x1E0
def pgAggRoute : Nat := 0x1E1

/-- Vector `v` of P0 is active (R465). -/
def State.vectorActive (s : State) (v : Nat) : Bool :=
  (List.range 0x1F0).any fun k =>
    s.flag pgAggRoute (R.AGG_ROUTE_MSI_EN k) && s.fld pgAggRoute (R.AGG_ROUTE_VECTOR k) == v && s.sourceActive k

/-- The function that owns vector `v` (PF0 0, PF1 1, VF v 2 + v, P1 10) and the vector's number in it. -/
def vectorOwner (v : Nat) : Nat × Nat :=
  if v < 64 then (0, v) else if v < 128 then (1, v - 64) else if v < 256 then (2 + (v - 128) / 16, (v - 128) % 16)
  else (10, v - 256)

/-- A message on vector `v`: sent, or its pending bit set where the vector is masked or MSI-X is disabled (R388, R465). -/
def State.message (s : State) (v : Nat) : State :=
  let (fn, k) := vectorOwner v
  if s.bridge.msixEnabled.contains fn && s.bridge.unmasked.contains v then s.emit (.msi fn k)
  else if s.bridge.msixPending.contains v then s
  else { s with bridge := { s.bridge with msixPending := s.bridge.msixPending ++ [v] } }

/-- Assert FAULT_N, for at least 1 ms (R467). -/
def State.assertFaultN (s : State) : State :=
  let s1 := if s.fault.pin then s else s.emit (.pin .faultN false)
  { s1.start .faultMin (msT 1) with fault := { s1.fault with pin := true, since := s1.time.tl } }

/-- What follows when source `k` may have become active between `a` and `b`: FAULT_N and a message (R465, R466). -/
def aggNote (a : State) (k : Nat) (b : State) : State :=
  if !a.sourceActive k && b.sourceActive k && b.on 3 then
    let c := if b.flag pgAggRoute (R.AGG_ROUTE_FAULT k) then b.assertFaultN else b
    if b.flag pgAggRoute (R.AGG_ROUTE_MSI_EN k) then
      let v := b.fld pgAggRoute (R.AGG_ROUTE_VECTOR k)
      if a.vectorActive v then c else c.message v
    else c
  else b

/-- The vector of P1 that a page's events use without the aggregator (R397): the logbook 8, P1_BRG 9. -/
def p1Note (a : State) (p : Nat) (b : State) : State :=
  if p == 0x1F0 && a.irqPend p == 0 && b.irqPend p != 0 then b.message (256 + 8)
  else if p == 0x021 && a.irqPend p == 0 && b.irqPend p != 0 then b.message (256 + 9)
  else b

/-- What follows when the event bits of page `p` may have changed between `a` and `b`. -/
def pageNote (a : State) (p : Nat) (b : State) : State :=
  p1Note a p ((pageSources p).foldl (fun c k => aggNote a k c) b)

/-- Raise event bit `i` of page `p`. -/
def State.raise (s : State) (p i : Nat) : State :=
  pageNote s p (s.wr p R.IRQ_RAW.off (s.rd p R.IRQ_RAW.off ||| BitVec.ofNat 32 (2 ^ i)))

/-- Raise the event of receive or transmit ring `r` of FN page `p` (R388); P1 rings use vectors 0 to 7 of P1 (R397). -/
def State.raiseRing (s : State) (p r : Nat) : State :=
  let s1 := s.wr p R.RING_IRQ_RAW.off (s.rd p R.RING_IRQ_RAW.off ||| BitVec.ofNat 32 (2 ^ r))
  if p == 0x032 then
    if (s.ringPend p).getLsbD r == false && (s1.ringPend p).getLsbD r then s1.message (256 + r) else s1
  else aggNote s (32 * (p - 0x028) + r) s1

/-! ### Errors -/

/-- The error number of a master (ERR_INFO.MASTER), and whether it is of the normal world. -/
def Master.num : Master → Nat
  | .m0 => 0
  | .m1 => 1
  | .m2 => 2
  | .m3 _ => 3
  | .m4 => 4

def Master.normal : Master → Bool
  | .m0 => false
  | .m1 => false
  | _ => true

/-- The function of a master: PF0 0, PF1 1, VF v 2 + v, P1 10; the Coach has none. -/
def Master.fn : Master → Option Nat
  | .m0 => none
  | .m1 => some 0
  | .m2 => some 1
  | .m3 v => some (2 + v.val)
  | .m4 => some 10

/-- Capture an error in page `p` (R106): ERR_COUNT, IRQ_RAW.ERR, and ERR_ADDR and ERR_INFO where ERR_COUNT was 0. -/
def State.capture (s : State) (p addr code master : Nat) (normal : Bool) : State :=
  let first := s.fld p R.ERR_COUNT == 0
  let s1 := s.countSat p R.ERR_COUNT
  let s2 := if first then
      (s1.wr p R.ERR_ADDR.off (BitVec.ofNat 32 addr)).wr p R.ERR_INFO_CODE.off
        (BitVec.ofNat 32 (code + master * 2 ^ 16 + b2n normal * 2 ^ 20))
    else s1
  s2.raise p 31

/-- Capture a condition that no access caused (R494): MASTER reads 0xF. -/
def State.captureInternal (s : State) (p addr code : Nat) : State := s.capture p addr code 0xF false

/-! ### The logbook's record queue -/

/-- The island whose replica of TL stamps a record of page `p`: that of the page's block (R12; DEDUCED, log entry 201). -/
def pageIsland (p : Nat) : Island :=
  match pageDomain p with
  | 0 => .aon
  | 1 => .time
  | 2 => .key
  | 3 => if p == 0x011 then .coach else if p < 0x080 && 0x07C ≤ p then .periph else .ctrl
  | 4 => if p == 0x020 then .hostP0 else if p < 0x028 || 0x1F0 ≤ p then .logP1 else .dma
  | 5 => .slice 0
  | 6 => .slice 1
  | 7 => .slice 2
  | 8 => .classify
  | 9 => if p < 0x060 then (if p < 0x048 then .macX else .macG1) else .egrA
  | 10 => if p < 0x060 then .macG2 else .egrB
  | 11 => .t1s
  | 12 => if p < 0x150 then .canA else .relay
  | 13 => .canB
  | 14 => .lin
  | _ => if p < 0x1B0 then .macsecG else .bulk

/-- A record made now and sent to LOG-P1; while PD4 is off it goes nowhere. Its stamp is INVALID where the source's replica was found off at the
last update, or while PLL2 is being replaced (R321, R390). -/
def State.record (s : State) (r : LogRec) : State :=
  let bad : Bool := s.time.off.contains (pageIsland r.page) || s.power.substituting == some 2
  if s.on 4 then { s with log := { s.log with coming := s.log.coming ++ [{ r with tl := s.time.tl, tsInvalid := bad }] } } else s

/-- The three words of a time triple, laid out as DW2 to DW4 of a record header (R390). -/
def timeTriple (t : Nat) : List Word :=
  [BitVec.ofNat 32 (timeNs t), BitVec.ofNat 32 (timeSec t),
    BitVec.ofNat 32 (timeSec t / 2 ^ 32 + timeFrac t * 2 ^ 16)]

/-- A FAULT record (R391, R468). -/
def State.faultRecord (s : State) (p addr code : Nat) : State :=
  s.record { type := 6, page := p, tl := 0, tsInvalid := false, code := code, arg0 := p, arg1 := addr
             arg2 := code + 0xF * 2 ^ 16, payload := [] }

/-! ### Failed posted writes -/

/-- The bridge of a function: P0 or P1. -/
def State.bridgeOf (s : State) (fn : Nat) : Bridge := if fn == 10 then s.bridge.p1 else s.bridge.p0

def State.setBridge (s : State) (fn : Nat) (b : Bridge) : State :=
  if fn == 10 then { s with bridge := { s.bridge with p1 := b } } else { s with bridge := { s.bridge with p0 := b } }

/-- Function `fn` is there: PF0, PF1 and P1's always, a VF where NumVFs counts it and VF Enable is set (R368). -/
def State.fnOn (s : State) (fn : Nat) : Bool :=
  fn < 2 || fn == 10 || (s.bridge.vfEnable && Nat.blt (fn - 2) s.bridge.numVfs && fn < 10)

/-- The page of a function's bridge. -/
def bridgePage (fn : Nat) : Nat := if fn == 10 then 0x021 else 0x020

/-- A posted write of function `fn` fails (R372): logged, or counted in PERR_LOST; BRG_POSTED_ERR; counted for the fence. -/
def State.postedFail (s : State) (fn : Nat) (e : PostedError) : State :=
  let b := s.bridgeOf fn
  let pg := bridgePage fn
  let s1 := if b.log.length < 16 then
      let s2 := s.setBridge fn { b with log := b.log ++ [e] }
      if b.log.length == 15 then s2.raise pg 2 else s2
    else s.countSat pg R.PERR_LOST
  let s3 := s1.raise pg 0
  { s3 with bridge := { s3.bridge with failed := mset s3.bridge.failed fn (satInc ((mget s3.bridge.failed fn).getD 0) 16) } }

end Sys2Proof.Machine
end

