-- ==== Sys2Proof/Machine/Stamp.lean ====
section
/-! DEFINITION. Photo-finish stamps (R321, R324, R325): the five domain readings, corrected to the ball. -/

namespace Sys2Proof.Machine

/-- The page of the photo-finish units, and the TIME page. -/
def pgStamp : Nat := 0x189
def pgTime : Nat := 0x180

/-- A tenth of a nanosecond, and a sixteenth, times `n`, in counter units. -/
def tenthsT (n : Nat) : Nat := n * nsUnit / 10
def sixteenths (n : Int) : Int := n * (2 ^ 44 : Nat)

/-- Domain `k` (0 to 3, other numbers TL) is valid; TL always is (R320). -/
def State.domainValid (s : State) (k : Nat) : Bool := if k < 4 then bit (s.fld pgTime R.TIME_STAT_VALID) k else true

/-- The interface of port `n`: its live lane MODE (0 for E24 to E27) and SPEED. -/
def State.laneMode (s : State) (n : Nat) : Nat := if n < 24 then s.fld (0x060 + n) R.LANE_CFG_MODE else 0
def State.speed (s : State) (n : Nat) : Nat := s.fld (0x040 + n) R.MAC_CFG_SPEED

/-- C_rx and C_tx of a port in tenths of a nanosecond (R325). -/
def portDelay (n mode speed : Nat) : Nat × Nat :=
  if n ≥ 24 then (12400, 8600)
  else if mode == 4 then (216, 144)
  else if mode == 5 then
    match speed with
    | 4 => (224, 152)
    | 3 => (256, 184)
    | 2 => (320, 248)
    | 1 => (512, 440)
    | _ => (3392, 3320)
  else if mode == 3 then (408, 272)
  else if mode == 2 then (448, 352)
  else if speed == 0 then (1680, 1520) else (480, 320)

/-- A counter reading moved by a signed amount; counters do not go below 0. -/
def moved (t : Nat) (d : Int) : Nat := ((t : Int) + d).toNat

/-- The INVALID bits of a stamp taken now by an island (R321): invalid domains; every domain where the island's replica was found
off at the last update, or while PLL2 is being replaced. -/
def State.stampInvalid (s : State) (island : Island) : Nat :=
  if s.time.off.contains island || s.power.substituting == some 2 then 31
  else 15 - s.fld pgTime R.TIME_STAT_VALID

/-- The islands of a port's MAC and of a CAN channel's controller, in which their photo-finish units stand (R12, R324). -/
def macIsland (n : Nat) : Island := if n < 8 then .macX else if n < 14 then .macG1 else if n < 24 then .macG2 else .t1s
def canIsland (c : Nat) : Island := if c < 24 then .canA else .canB

/-- The five readings now, each moved by `d`. -/
def State.stampBy (s : State) (d : Int) (island : Island) : Stamps :=
  { t0 := moved s.time.t0 d, t1 := moved s.time.t1 d, t2 := moved s.time.t2 d, t3 := moved s.time.t3 d
    tl := moved s.time.tl d, invalid := s.stampInvalid island, island := island }

/-- The byte time of a port in tenths of a nanosecond. -/
def byteTenths (speed : Nat) : Nat :=
  match speed with
  | 0 => 800
  | 1 => 80
  | 2 => 32
  | 3 => 16
  | 4 => 8
  | _ => 8000

def State.byteTime (s : State) (n : Nat) : Nat := byteTenths (s.speed n)

/-- The time of `k` bytes on the line of port `n`, in counter units. -/
def State.bytesT (s : State) (n k : Nat) : Nat := k * s.byteTime n * nsUnit / 10

/-- The ingress stamp of an event at port `n` now: X − C_rx − U_rx. -/
def State.rxStamp (s : State) (n : Nat) : Stamps :=
  let c := (portDelay n (s.laneMode n) (s.speed n)).1
  s.stampBy (-(tenthsT c : Int) - sixteenths (signed (s.fld pgStamp (R.CORR_E_U_RX n)) 16)) (macIsland n)

/-- The ingress stamp of a frame of `len` bytes that ends now at port `n`: X is the instant of its first bit after the SFD, `len` byte times
ago (R164). -/
def State.rxStampAt (s : State) (n len : Nat) : Stamps :=
  let c := (portDelay n (s.laneMode n) (s.speed n)).1
  s.stampBy (-(tenthsT c : Int) - sixteenths (signed (s.fld pgStamp (R.CORR_E_U_RX n)) 16) - (s.bytesT n len : Nat)) (macIsland n)

/-- The egress stamp of an event at port `n` now: X + C_tx + U_tx. -/
def State.txStamp (s : State) (n : Nat) : Stamps :=
  let c := (portDelay n (s.laneMode n) (s.speed n)).2
  s.stampBy ((tenthsT c : Int) + sixteenths (signed (s.fld pgStamp (R.CORR_E_U_TX n)) 16)) (macIsland n)

/-- The stamp of CAN channel `c`: X − 12.5 ns − U_rx (R325, R327). -/
def State.canStamp (s : State) (c : Nat) : Stamps :=
  s.stampBy (-(tenthsT 125 : Int) - sixteenths (signed (s.fld pgStamp (R.CORR_C_U_RX c)) 16)) (canIsland c)

/-- The stamp of an event inside the device, without correction. -/
def State.bareStamp (s : State) (island : Island) : Stamps := s.stampBy 0 island

/-- The readings of a stamp, moved by a span. -/
def Stamps.later (x : Stamps) (d : Nat) : Stamps :=
  { x with t0 := x.t0 + d, t1 := x.t1 + d, t2 := x.t2 + d, t3 := x.t3 + d, tl := x.tl + d }

/-- The reading of one domain, and its INVALID mark. -/
def Stamps.read (x : Stamps) (k : Nat) : Nat :=
  match k with
  | 0 => x.t0
  | 1 => x.t1
  | 2 => x.t2
  | 3 => x.t3
  | _ => x.tl

def Stamps.isInvalid (x : Stamps) (k : Nat) : Bool := bit x.invalid (if k < 4 then k else 4)

/-- The epoch of a frame or PDU by its ingress stamp (R20): the old one where the stamp, read in the activation domain, precedes the activation
of the live heat. What ingressed after the swap takes the new one, whatever a step of the domain made of its stamp (R130). -/
def State.epochOf (s : State) (st : Stamps) : Bool :=
  let (k, act, swap) := s.heat.actAt
  if Nat.blt (st.read k) act && Nat.blt st.tl swap then !s.heat.liveE else s.heat.liveE

/-- A stamp is INVALID in every domain where an island of the list `off` took it at or after TL time `t` (R19). -/
def Stamps.spoilt (x : Stamps) (off : List Island) (t : Nat) : Stamps :=
  if off.contains x.island && Nat.ble t x.tl then { x with invalid := 31 } else x

end Sys2Proof.Machine
end

