-- ==== Sys2Proof/Machine/Crc.lean ====
section
/-! DEFINITION. The cyclic redundancy checks: the reflected CRC with a given polynomial, the Ethernet frame check sequence and the
CRC-32C of R178. -/

namespace Sys2Proof.Machine

/-- One bit of a reflected CRC over register `c`. -/
def crcBit (poly c : Nat) : Nat := if c % 2 == 1 then Nat.xor (c / 2) poly else c / 2

/-- One byte of a reflected CRC, least significant bit first. -/
def crcByte (poly c : Nat) (b : Byte) : Nat :=
  (List.range 8).foldl (fun x _ => crcBit poly x) (Nat.xor c b.toNat)

/-- The register of a reflected CRC after a list of bytes. -/
def crcRun (poly c : Nat) (l : List Byte) : Nat := l.foldl (crcByte poly) c

/-- The Ethernet CRC-32 of a frame, as a number whose low byte is sent first. -/
def crc32 (l : List Byte) : Nat := Nat.xor (crcRun 0xEDB88320 0xFFFFFFFF l) 0xFFFFFFFF

/-- The four FCS bytes of a frame, and the same inverted (R25). -/
def fcsOf (l : List Byte) : List Byte := leBytes (crc32 l) 4
def fcsInverted (l : List Byte) : List Byte := leBytes (Nat.xor (crc32 l) 0xFFFFFFFF) 4

/-- The CRC-32C of R178 with its register initialised to `seed`. -/
def crc32c (seed : Nat) (l : List Byte) : Nat := Nat.xor (crcRun 0x82F63B78 seed l) 0xFFFFFFFF

end Sys2Proof.Machine
end

