-- ==== Sys2Proof/Machine/Tables.lean ====
section
/-! DEFINITION. The large tables: physical slots with their epoch bits (R132), pairs of slots for indexed entries (R175), the
hashed tables reached by key (R176, R178, R217, R289) with the insertion of R180, the live and the staged view of an entry, and
loading, swapping and settling of a heat's records (R122, R127, R133). -/

namespace Sys2Proof.Machine

/-! ### Slots -/

/-- The number of a slot array: the page of the table, and 0x200 + s for the L2 slots of slice s. -/
def slotKey (tid i : Nat) : Nat := tid * 2 ^ 24 + i

/-- A slot that holds nothing. -/
def Slot.empty : Slot := { v := false, e := false, b := false, rsv := false, data := 0 }

/-- Slot `i` of array `tid`. -/
def State.slot (s : State) (tid i : Nat) : Slot := (mget s.slots (slotKey tid i)).getD Slot.empty

/-- Put a slot; an empty one is not listed. Where its data are written, the hardware of every slice holds them again. -/
def State.setSlot (s : State) (tid i : Nat) (x : Slot) : State :=
  let k := slotKey tid i
  let old := s.slot tid i
  { s with slots := if x = Slot.empty then mdel s.slots k else mset s.slots k x
           fwd := { s.fwd with strays := if x.data == old.data && old.v then s.fwd.strays
                                         else mkeep s.fwd.strays fun e => e % 2 ^ 40 != k } }

/-- The hardware of slice `i` holds other data in a slot than the shadow (R207). -/
def State.setStray (s : State) (i tid k : Nat) (d : Entry) : State :=
  { s with fwd := { s.fwd with strays := mset s.fwd.strays (i * 2 ^ 40 + slotKey tid k) (some d) } }

/-- The hardware of slice `i` holds in a slot what the shadow holds. -/
def State.dropStray (s : State) (i tid k : Nat) : State :=
  { s with fwd := { s.fwd with strays := mdel s.fwd.strays (i * 2 ^ 40 + slotKey tid k) } }

/-- The tables as the hardware of slice `i` holds them. -/
def State.asSlice (s : State) (i : Nat) : State :=
  let one (m : SMap Slot) (e : Nat × Option Entry) : SMap Slot :=
    match mget m (e.1 % 2 ^ 40), e.2 with
    | some w, some d => mset m (e.1 % 2 ^ 40) { w with data := d }
    | some _, none => mdel m (e.1 % 2 ^ 40)
    | none, _ => m
  { s with slots := (s.fwd.strays.filter fun e => e.1 / 2 ^ 40 == i).foldl one s.slots }

/-- A slot matches a lookup in epoch `x` (R132). -/
def Slot.matches (t : Slot) (x : Bool) : Bool := t.v && (t.b || t.e == x)

/-- A slot is free (R180). -/
def Slot.isFree (t : Slot) : Bool := !t.v && !t.rsv

/-- The slot of entry `i`'s pair that a lookup in epoch `x` uses (R175). -/
def State.pairSlot (s : State) (tid i : Nat) (x : Bool) : Option Nat :=
  if (s.slot tid (2 * i)).matches x then some (2 * i)
  else if (s.slot tid (2 * i + 1)).matches x then some (2 * i + 1)
  else none

/-- Entry `i` of an indexed table in epoch `x`. -/
def State.pairGet (s : State) (tid i : Nat) (x : Bool) : Option Entry :=
  (s.pairSlot tid i x).map fun k => (s.slot tid k).data

/-! ### Tables reached by key -/

/-- The pages of the tables reached by key. -/
def pgL2 : Nat := 0x089
def pgHost : Nat := 0x08E
def pgFilter : Nat := 0x0C0
def pgExact : Nat := 0x151

/-- Page `p` carries a table reached by key. -/
def keyed (p : Nat) : Bool := p == pgL2 || p == pgHost || p == pgFilter || p == pgExact

/-- Ways, index bits and number of the first seed of a table reached by key. -/
def keyedWays (p : Nat) : Nat := if p == pgL2 then 4 else 2
def keyedBits (p : Nat) : Nat := if p == pgL2 then 12 else if p == pgHost then 10 else if p == pgFilter then 11 else 12
def firstSeed (p : Nat) : Nat := if p == pgExact then 2 else 0

/-- The bits of a table entry that are its key. -/
def keyOf (p : Nat) (e : Entry) : Nat :=
  if p == pgL2 then eBits e 59 0
  else if p == pgHost then eBits e 127 0
  else if p == pgFilter then
    let kind := eBits e 1 0
    kind + eBits e 15 8 * 2 ^ 8 + (if kind == 2 then 0 else eBits e 27 16) * 2 ^ 16
      + (if kind == 2 then eBits e 95 32 else eBits e 79 32) * 2 ^ 32
  else eBits e 28 0 + eBits e 46 32 * 2 ^ 32

/-- The key of (VID, address) in the L2 table. -/
def l2Key (vid mac : Nat) : Nat := mac + vid * 2 ^ 48

/-- The bytes over which the index of a key is computed. An address of HOST_TBL whose low 96 bits are 0 is taken as IPv4 (DESIGN
CHOICE, log entry 20: the spec gives no field for the family). The address is the number that DATA0 to DATA3 hold, its first byte in
DATA3[31:24] (DESIGN CHOICE, log entry 160: the spec says only that these words hold the address). -/
def keyBytes (p k : Nat) : List Byte :=
  if p == pgL2 then beBytes (bits k 59 48) 2 ++ beBytes (bits k 47 0) 6
  else if p == pgHost then
    (if bits k 95 0 == 0 then [0x04] else [0x06]) ++ beBytes (bits k 127 0) 16
  else if p == pgFilter then
    beBytes (bits k 1 0) 1 ++ beBytes (bits k 15 8) 1 ++
      (if bits k 1 0 == 2 then beBytes (bits k 95 32) 8 else beBytes (bits k 27 16) 2 ++ beBytes (bits k 79 32) 6)
  else
    beBytes (bits k 38 32) 1 ++ beBytes (bits k 40 39 * 64 + bits k 41 41 * 32 + bits k 46 42) 1 ++ beBytes (bits k 28 0) 4

/-- The slot of key `k` in way `w` (R178). -/
def State.place (s : State) (p k w : Nat) : Nat :=
  let seed := (s.rd 0x080 (0x060 + 4 * (firstSeed p + w))).toNat
  w * 2 ^ keyedBits p + crc32c seed (keyBytes p k) % 2 ^ keyedBits p

/-- The slot array in which table `p` is searched for slice `sl`. -/
def keyedArray (p sl : Nat) : Nat := if p == pgL2 then 0x200 + sl else p

/-- The slot where a search for key `k` in epoch `x` ends: the lowest way that matches (R181). -/
def State.findKey (s : State) (p sl k : Nat) (x : Bool) : Option Nat :=
  let tid := keyedArray p sl
  ((List.range (keyedWays p)).map (s.place p k)).find? fun i =>
    let t := s.slot tid i
    t.matches x && keyOf p t.data == k

/-- The entry of key `k` in epoch `x`. -/
def State.getKey (s : State) (p sl k : Nat) (x : Bool) : Option Entry :=
  (s.findKey p sl k x).map fun i => (s.slot (keyedArray p sl) i).data

/-- The slices that hold table slots: those not scratched. The slots of a slice that is off stand for the restore image (R168). -/
def State.poweredSlices (s : State) : List Nat := (List.range 3).filter fun i => s.fld (0x098 + i) R.SLICE_STAT_STATE != 5

/-- The slot arrays that a write to table `p` reaches (R168). -/
def State.arraysOf (s : State) (p : Nat) : List Nat := if p == pgL2 then s.poweredSlices.map (0x200 + ·) else [p]

/-- The slice whose copy of a common table is read: role A's, or role B's where that is off (R168). -/
def State.readSlice (s : State) : Nat :=
  let a := s.fld 0x080 R.FWD_ROLE_STAT_A_SLICE
  if a < 3 && s.on (5 + a) then a else s.fld 0x080 R.FWD_ROLE_STAT_B_SLICE

/-- The slice in whose array the static entries are read that do not depend on what is powered (R348): role A's, or role B's where role A has none,
or the first that is not scratched. -/
def State.staticSlice (s : State) : Nat :=
  let a := s.fld 0x080 R.FWD_ROLE_STAT_A_SLICE
  let b := s.fld 0x080 R.FWD_ROLE_STAT_B_SLICE
  if a < 3 then a else if b < 3 then b else (s.poweredSlices.head?).getD 0

/-! ### Insertion (R180) -/

/-- STATIC of an L2 slot; every entry of the other tables reached by key is static. -/
def isStatic (p : Nat) (e : Entry) : Bool := p != pgL2 || eBit e 77

/-- What insertion decides: the slots to write, and whether a learned entry is evicted. -/
structure Placing where
  writes : List (Nat × Slot)
  evicts : Bool

/-- The relocation loop of R180. `w` is the way now tried for `cur`, `tried` how many ways of it were tried this round, `chain` the
slots already assigned, nearest the far end first. `none` where no slot is found. -/
def State.relocate (s : State) (p tid max : Nat) (static : Bool) (fuel w tried moves : Nat) (cur : Slot)
    (chain : List (Nat × Slot)) : Option Placing :=
  match fuel with
  | 0 => none
  | fuel + 1 =>
    let at_ := s.place p (keyOf p cur.data) w
    let v := s.slot tid at_
    if isStatic p v.data || v.rsv || !v.b || (chain.map (·.1)).contains at_ then
      if tried + 1 == keyedWays p then
        if static && !chain.isEmpty then some { writes := chain, evicts := true } else none
      else s.relocate p tid max static fuel ((w + 1) % keyedWays p) (tried + 1) moves cur chain
    else
      let other := ((List.range (keyedWays p)).filter (· != w)).map (s.place p (keyOf p v.data))
      match other.find? fun i => (s.slot tid i).isFree && !(chain.map (·.1)).contains i with
      | some i => some { writes := (i, v) :: (at_, cur) :: chain, evicts := false }
      | none =>
        if moves + 1 ≥ max then
          if static then some { writes := (at_, cur) :: chain, evicts := true } else none
        else s.relocate p tid max static fuel ((w + 1) % keyedWays p) 0 (moves + 1) v ((at_, cur) :: chain)

/-- Insertion of `x` into array `tid` of table `p` (R180): the slots it writes, the slot of `x` itself last. -/
def State.insertion (s : State) (p tid : Nat) (x : Slot) (static : Bool) : Option Placing :=
  let ways := (List.range (keyedWays p)).map (s.place p (keyOf p x.data))
  match ways.find? fun i => (s.slot tid i).isFree with
  | some i => some { writes := [(i, x)], evicts := false }
  | none =>
    let m := s.fld 0x080 R.FWD_MISC_CFG_MAX_MOVES
    let max := if m == 0 then 1 else m
    s.relocate p tid max static (5 * (max + 1)) 0 0 0 x []

/-- Write the slots that an insertion decided. -/
def State.applyWrites (s : State) (tid : Nat) (l : List (Nat × Slot)) : State :=
  l.foldl (fun t e => t.setSlot tid e.1 e.2) s

/-- The slot that the inserted entry itself takes. -/
def Placing.own (x : Placing) : Nat := ((x.writes.getLast?).map (·.1)).getD 0

/-! ### Changes of a heat -/

/-- A record is about key or index `k`. -/
def TblRec.key (r : TblRec) : Nat := if keyed r.page then keyOf r.page r.data else r.idx

/-- The last record of page `p` and key `k` among a heat's changes. -/
def Changes.find (c : Changes) (p k : Nat) : Option TblRec :=
  (c.tbls.filter fun r => r.page == p && r.key == k).getLast?

/-- All the changes that are staged and not yet live, oldest first: armed heats, the heat under check, the open heat. -/
def State.stagedChanges (s : State) : List Changes :=
  s.heat.armed.map (·.chg) ++ (match s.heat.checking with | some c => [c.chg] | none => []) ++ [s.heat.opn]

/-- The changes of heats that are loaded and have not settled. -/
def State.loadedChanges (s : State) : List Changes :=
  ((s.heat.armed.filter (·.loaded)).map (·.chg)) ++ (match s.heat.checking with
    | some c => if c.loaded then [c.chg] else []
    | none => []) ++ (match s.heat.settling with
    | some (c, _) => [c]
    | none => [])

/-- The staged view of a register: the newest staged value, else the live one. -/
def State.stagedRd (s : State) (p off : Nat) : Word :=
  s.stagedChanges.foldl (fun v c => (mget c.regs (regKey p off)).getD v) (s.rd p off)

/-- The staged view of a field. -/
def State.stagedFld (s : State) (p : Nat) (f : Fld) : Nat := getBits (s.stagedRd p f.off) f.hi f.lo

/-- The live entry with key or index `k` of page `p`. -/
def State.liveEntry (s : State) (p k : Nat) : Option Entry :=
  if keyed p then
    let e := s.getKey p s.readSlice k s.heat.liveE
    if p == pgL2 then
      match e with
      | some d => if isStatic p d then some d else none
      | none => none
    else e
  else s.pairGet p k s.heat.liveE

/-- The staged view of that entry. -/
def State.stagedEntry (s : State) (p k : Nat) : Option Entry :=
  s.stagedChanges.foldl (fun v c =>
    match c.find p k with
    | some r => if r.del then none else some r.data
    | none => v) (s.liveEntry p k)

/-! ### Reading under a frame's epoch (R20, R23) -/

/-- A register as epoch `x` sees it: the live copy, or the old copy kept for frames of the old epoch. -/
def State.rdAt (s : State) (x : Bool) (p off : Nat) : Word :=
  if x == s.heat.liveE then s.rd p off else (mget s.heat.old (regKey p off)).getD (s.rd p off)

def State.fldAt (s : State) (x : Bool) (p : Nat) (f : Fld) : Nat := getBits (s.rdAt x p f.off) f.hi f.lo

def State.flagAt (s : State) (x : Bool) (p : Nat) (f : Fld) : Bool := s.fldAt x p f != 0

/-- Count a dropped frame or PDU by its reason (the model's own count). -/
def State.drop (s : State) (code : Nat) : State :=
  { s with drops := mset s.drops code ((mget s.drops code).getD 0 + 1) }

end Sys2Proof.Machine
end

