-- ==== Sys2Proof/Machine/Parse.lean ====
section
/-! DEFINITION. The frame parser (R172, R173) and the rewriting of tags, addresses and IP headers (R198, R205). -/

namespace Sys2Proof.Machine

/-- A VLAN tag: offset of its TPID in the frame, TPID, priority, drop eligibility, VID. -/
structure Tag where
  off : Nat
  tpid : Nat
  pcp : Nat
  dei : Bool
  vid : Nat
  deriving DecidableEq, Repr

/-- An IP header (R172): family (4 or 6), its offset, the addresses, the protocol (the next header after the extension headers read), TTL or hop limit, DSCP with ECN (the traffic class), flow label (0 in IPv4), fragment offset and MF (of an IPv6
Fragment header), IP_BAD (R173), and the offset of the layer-4 header where the frame carries one that the parser reaches. -/
structure IpHead where
  v6 : Bool
  off : Nat
  src : Nat
  dst : Nat
  proto : Nat
  ttl : Nat
  tos : Nat
  flow : Nat
  frag : Nat
  mf : Bool
  bad : Bool
  l4 : Option Nat
  deriving DecidableEq, Repr

/-- The source and destination ports of UDP or TCP. -/
structure L4Head where
  proto : Nat
  sport : Nat
  dport : Nat
  deriving DecidableEq, Repr

/-- The AVTP common header: subtype, sv, stream_id. -/
structure AvtpHead where
  subtype : Nat
  sv : Bool
  stream : Nat
  deriving DecidableEq, Repr

/-- What the parser extracts. -/
structure Parsed where
  da : Nat
  sa : Nat
  tags : List Tag
  etype : Nat
  /-- offset of the byte after the EtherType -/
  pay : Nat
  ip : Option IpHead
  l4 : Option L4Head
  avtp : Option AvtpHead
  deriving DecidableEq, Repr

/-- The stream_id of an IEEE 1722 frame with sv = 1. -/
def Parsed.stream (p : Parsed) : Option Nat := (p.avtp.filter (·.sv)).map (·.stream)

/-- A header of `n` bytes at offset `k` lies inside the parser's first 128 bytes and inside the frame. -/
def inReach (l : List Byte) (k n : Nat) : Bool := k + n ≤ 128 && k + n ≤ l.length

/-- The sum of the 16-bit words of bytes, as a one's complement sum. -/
def onesSum (l : List Byte) : Nat :=
  let raw := (List.range ((l.length + 1) / 2)).foldl (fun a k => a + beAt (padTo l (l.length + l.length % 2)) (2 * k) 2) 0
  let a := raw % 65536 + raw / 65536
  a % 65536 + a / 65536

/-- The IPv4 header at offset `k`. -/
def parseIp4 (l : List Byte) (k : Nat) : Option IpHead :=
  let ihl := byteAt l k % 16
  if inReach l k 20 && byteAt l k / 16 == 4 && ihl ≥ 5 && inReach l k (4 * ihl) then
    let fr := beAt l (k + 6) 2
    some { v6 := false, off := k, src := beAt l (k + 12) 4, dst := beAt l (k + 16) 4, proto := byteAt l (k + 9)
           ttl := byteAt l (k + 8), tos := byteAt l (k + 1), flow := 0, frag := bits fr 12 0, mf := bit fr 13
           bad := onesSum ((l.drop k).take (4 * ihl)) != 65535 || beAt l (k + 2) 2 < 4 * ihl
           l4 := if bits fr 12 0 == 0 then some (k + 4 * ihl) else none }
  else none

/-- An IPv6 extension header that the parser knows. -/
def knownExt (nh : Nat) : Bool := nh == 0 || nh == 43 || nh == 44 || nh == 60

/-- The extension headers from offset `k` on, `nh` their type, at most `fuel` of them (R172): the header type after the last one read,
fragment offset and MF, and the offset behind them where parsing may go on to layer 4. -/
def walkExt (l : List Byte) (fuel nh k frag : Nat) (mf : Bool) : Nat × Nat × Bool × Option Nat :=
  if !knownExt nh then (nh, frag, mf, some k)
  else
    match fuel with
    | 0 => (nh, frag, mf, none)
    | fuel + 1 =>
      let n := if nh == 44 then 8 else 8 * (byteAt l (k + 1) + 1)
      if !inReach l k n then (nh, frag, mf, none)
      else if nh == 44 then
        let fr := beAt l (k + 2) 2
        if bits fr 15 3 != 0 then (byteAt l k, bits fr 15 3, bit fr 0, none)
        else walkExt l fuel (byteAt l k) (k + n) 0 (bit fr 0)
      else walkExt l fuel (byteAt l k) (k + n) frag mf

/-- The IPv6 header at offset `k`. -/
def parseIp6 (l : List Byte) (k : Nat) : Option IpHead :=
  if inReach l k 40 && byteAt l k / 16 == 6 then
    let (nh, frag, mf, l4) := walkExt l 2 (byteAt l (k + 6)) (k + 40) 0 false
    some { v6 := true, off := k, src := beAt l (k + 8) 16, dst := beAt l (k + 24) 16, proto := nh, ttl := byteAt l (k + 7)
           tos := bits (beAt l k 2) 11 4, flow := bits (beAt l k 4) 19 0, frag := frag, mf := mf, bad := false, l4 := l4 }
  else none

/-- The UDP or TCP header behind an IP header. -/
def parseL4 (l : List Byte) (h : IpHead) : Option L4Head :=
  match h.l4 with
  | some k =>
    if (h.proto == 17 && inReach l k 8) || (h.proto == 6 && inReach l k 20) then
      some { proto := h.proto, sport := beAt l k 2, dport := beAt l (k + 2) 2 }
    else none
  | none => none

/-- The AVTP common header at offset `k`. -/
def parseAvtp (l : List Byte) (k : Nat) : Option AvtpHead :=
  if inReach l k 12 then some { subtype := byteAt l k, sv := bit (byteAt l (k + 1)) 7, stream := beAt l (k + 4) 8 } else none

/-- Up to two tags from offset `k`. -/
def parseTags (stpid ctpid : Nat) (l : List Byte) (fuel k : Nat) : List Tag :=
  match fuel with
  | 0 => []
  | fuel + 1 =>
    let t := beAt l k 2
    if inReach l k 4 && (t == stpid || t == ctpid) then
      let c := beAt l (k + 2) 2
      { off := k, tpid := t, pcp := bits c 15 13, dei := bit c 12, vid := bits c 11 0 } :: parseTags stpid ctpid l fuel (k + 4)
    else []

/-- Parse a frame (R172). -/
def parseFrame (stpid ctpid : Nat) (l : List Byte) : Parsed :=
  let tags := parseTags stpid ctpid l 2 12
  let k := 12 + 4 * tags.length
  let et := if inReach l k 2 then beAt l k 2 else 0
  let ip := if et == 0x0800 then parseIp4 l (k + 2) else if et == 0x86DD then parseIp6 l (k + 2) else none
  { da := beAt l 0 6, sa := beAt l 6 6, tags := tags, etype := et, pay := k + 2, ip := ip, l4 := ip.bind (parseL4 l)
    avtp := if et == 0x22F0 then parseAvtp l (k + 2) else none }

/-- An identifier that no frame carries. -/
def noTpid : Nat := 65536

/-- The parse of a frame under the tag identifiers of its epoch. A tag in the data of a frame of the host is carried as data (R386). -/
def State.parse (s : State) (f : Frame) : Parsed :=
  if f.src != 28 then parseFrame (s.fldAt f.epoch 0x081 R.FWD_TPID_S_TPID) (s.fldAt f.epoch 0x081 R.FWD_TPID_C_TPID) f.bytes
  else parseFrame noTpid noTpid f.bytes

/-- An address is a group address; it is the broadcast address. -/
def isGroup (mac : Nat) : Bool := bit mac 40
def isBroadcast (mac : Nat) : Bool := mac == 2 ^ 48 - 1

/-- The tag that gives the VID (R174): the inner one where INNER_VID = 1 and two are present, else the outer. -/
def vidTag (inner : Bool) (p : Parsed) : Option Tag := if inner && p.tags.length == 2 then p.tags[1]? else p.tags.head?

/-- The VID of a frame (R174). -/
def State.frameVid (s : State) (f : Frame) (p : Parsed) : Nat :=
  if f.src ≥ 28 then f.vid
  else
    match vidTag (s.flagAt f.epoch 0x081 (R.FWD_PORT_INNER_VID f.src)) p with
    | some t => if t.vid == 0 then s.fldAt f.epoch 0x081 (R.FWD_PORT_PVID f.src) else t.vid
    | none => s.fldAt f.epoch 0x081 (R.FWD_PORT_PVID f.src)

/-- The kept length of a frame, destination address through FCS (R143). -/
def Frame.len (f : Frame) : Nat := f.bytes.length + (if f.oversize then 0 else 4)

/-! ### Rewriting -/

/-- A tag as four bytes. -/
def tagBytes (tpid pcp vid : Nat) (dei : Bool) : List Byte := beBytes tpid 2 ++ beBytes (pcp * 8192 + b2n dei * 4096 + vid) 2

/-- The tag that gave a frame its VID (R198): the one of R174 where its VID is not 0; of a frame of the relay engine, the tag it
was built with. -/
def State.givingTag (s : State) (f : Frame) (p : Parsed) : Option Tag :=
  if f.src ≥ 28 then p.tags.head?
  else (vidTag (s.flagAt f.epoch 0x081 (R.FWD_PORT_INNER_VID f.src)) p).filter (·.vid != 0)

/-- Egress tagging (R198): toward a port in UNTAG the tag that gave the VID is removed; toward any other a frame that has none
gains one with C_TPID, the classifier's PCP and the VID, in front of the tags it carries, with DEI where the meter marks the
frame (R224). -/
def retag (untag : Bool) (giving : Option Tag) (ctpid pcp vid : Nat) (dei : Bool) (l : List Byte) : List Byte :=
  match giving with
  | some t => if untag then l.take t.off ++ l.drop (t.off + 4) else l
  | none => if untag then l else l.take 12 ++ tagBytes ctpid pcp vid dei ++ l.drop 12

/-- A frame without a tag (UNTAG of a next hop, R205). -/
def untagAll (p : Parsed) (l : List Byte) : List Byte := p.tags.foldr (fun t a => a.take t.off ++ a.drop (t.off + 4)) l

/-- Set DEI in every tag of a frame (MARK_DEI). -/
def markTags (p : Parsed) (l : List Byte) : List Byte :=
  p.tags.foldl (fun a t => putBytes a (t.off + 2) (beBytes (t.pcp * 8192 + 4096 + t.vid) 2)) l

/-- One's complement addition of a carry into 16 bits. -/
def fold16 (n : Nat) : Nat :=
  let a := n % 65536 + n / 65536
  a % 65536 + a / 65536

/-- The IPv4 header checksum after a 16-bit word went from `m` to `m'` (RFC 1624, equation 3). -/
def newChecksum (old m m' : Nat) : Nat := 65535 - fold16 ((65535 - old) + (65535 - m) + m')

/-- Decrement TTL or hop limit (R205). -/
def hopDown (h : IpHead) (l : List Byte) : List Byte :=
  if h.v6 then putBytes l (h.off + 7) (beBytes (h.ttl - 1) 1)
  else putBytes (putBytes l (h.off + 8) (beBytes (h.ttl - 1) 1)) (h.off + 10) 
      (beBytes (newChecksum (beAt l (h.off + 10) 2) (beAt l (h.off + 8) 2) (beAt l (h.off + 8) 2 - 256)) 2)

/-- New addresses. -/
def readdress (da sa : Nat) (l : List Byte) : List Byte := beBytes da 6 ++ beBytes sa 6 ++ l.drop 12

end Sys2Proof.Machine
end

