-- ==== Sys2Proof/Machine/Classify.lean ====
section
/-! DEFINITION. CLASSIFY, steps 1 to 4 of R214: stream identification, filters, stream gates and meters (R217 to R224), and the
run-time state that a heat starts afresh (R216, R220, R224). -/

namespace Sys2Proof.Machine

def pgCls : Nat := 0x0C0
def pgGate : Nat := 0x0C1
def pgGateList : Nat := 0x0C2
def pgMeter : Nat := 0x0C3

/-- Nanoseconds of a domain's counter, whole. -/
def State.nowNs (s : State) (k : Nat) : Nat := s.clock k / nsUnit

/-- TL in whole nanoseconds (R223). -/
def State.tlNs (s : State) : Nat := s.time.tl / nsUnit

/-- The unit u of R223: a byte is 8,000,000 u. -/
def byteU : Nat := 8000000

/-- A time difference, saturating at 2^40 − 1 ns (R223). -/
def spanNs (now last : Nat) : Nat := min (now - last) (2 ^ 40 - 1)

/-! ### Stream gates -/

/-- Fields of a stream gate entry. -/
def gCycle (e : Entry) : Nat := eBits e 29 0
def gBase (e : Entry) : Nat := (eBits e 63 32 + eBits e 79 64 * 2 ^ 32) * 1000000000 + eBits e 127 96
def gDomain (e : Entry) : Nat := eBits e 82 80
def gFirst (e : Entry) : Nat := eBits e 138 128
def gLength (e : Entry) : Nat := eBits e 145 139
def gInitOpen (e : Entry) : Bool := eBit e 146
def gCloseInvalid (e : Entry) : Bool := eBit e 147
def gCloseOctets (e : Entry) : Bool := eBit e 148

/-- Fields of a gate list entry. -/
def glInterval (e : Entry) : Nat := eBits e 29 0
def glOpen (e : Entry) : Bool := eBit e 32
def glIpv (e : Entry) : Option Nat := if eBit e 36 then some (eBits e 35 33) else none
def glMaxOctets (e : Entry) : Nat := eBits e 63 40

/-- A gate that has not started. -/
def StreamGate.idle : StreamGate :=
  { swap := 0, s0 := 0, cycle := 0, running := false, entry := 0, octets := 0, closed := false }

def State.gate (s : State) (g : Nat) : StreamGate := (mget s.fwd.gates g).getD StreamGate.idle
def State.setGate (s : State) (g : Nat) (x : StreamGate) : State :=
  { s with fwd := { s.fwd with gates := mset s.fwd.gates g x } }

/-- The first cycle start under ALIGN: the base time, or the first later cycle boundary at or after `a` (R238). -/
def alignStart (a base cycle : Nat) : Nat := if base ≥ a then base else base + ceilDiv (a - base) cycle * cycle

/-- Start gate `g` at a swap or a restore (R220): its runtime state but CLOSED begins afresh. -/
def State.startGate (s : State) (g : Nat) (e : Entry) : State :=
  let a := s.nowNs (gDomain e)
  s.setGate g { swap := a, s0 := alignStart a (gBase e) (gCycle e), cycle := 0, running := false, entry := 0, octets := 0
                closed := (s.gate g).closed }

/-- The list entry in force at a gate in epoch `x`; none before the first cycle. -/
def State.gateEntry (s : State) (x : Bool) (g : Nat) (e : Entry) : Option Entry :=
  if (s.gate g).running then s.pairGet pgGateList (gFirst e + (s.gate g).entry) x else none

/-- What a gate does to a frame: the state after it, a drop code (0 none), and the IPV. -/
structure Gated where
  st : State
  code : Nat
  ipv : Option Nat

/-- Count a frame dropped at gate `g`. -/
def State.gateDrop (s : State) (g : Nat) : State :=
  { s with fwd := { s.fwd with gateDrops := mset s.fwd.gateDrops g (((mget s.fwd.gateDrops g).getD 0 + 1) % 2 ^ 32) } }

/-- A frame of `len` bytes at gate `g` with entry `e` (R221). -/
def State.passGate (s : State) (x : Bool) (g : Nat) (e : Entry) (len : Nat) : Gated :=
  let st := s.gate g
  if gLength e == 0 then
    if st.closed then ⟨s.gateDrop g, Code.SGATE_CLOSED, none⟩ else ⟨s, 0, none⟩
  else
    let le := s.gateEntry x g e
    let isOpen := match le with
      | some l => glOpen l
      | none => if st.running then false else gInitOpen e
    let maxO := match le with
      | some l => glMaxOctets l
      | none => 0
    if st.closed then ⟨s.gateDrop g, Code.SGATE_CLOSED, none⟩
    else if !isOpen then
      ⟨(if gCloseInvalid e then s.setGate g { st with closed := true } else s).gateDrop g, Code.SGATE_CLOSED, none⟩
    else if maxO != 0 && st.octets + len > maxO then
      ⟨(if gCloseOctets e then s.setGate g { st with closed := true } else s).gateDrop g, Code.SGATE_OCTETS, none⟩
    else ⟨s.setGate g { st with octets := st.octets + len }, 0, match le with
      | some l => glIpv l
      | none => none⟩

/-- The start of entry `j` of a list, as an offset from the cycle start, the intervals given by `iv`. -/
def entryStart (iv : Nat → Nat) (j : Nat) : Nat := ((List.range j).map iv).sum

/-- The cycle and entry that contain time `t`: cycle start and entry number (R222, R239). -/
def locate (iv : Nat → Nat) (len s0 cycle t : Nat) : Nat × Nat :=
  let c := if cycle == 0 then s0 else s0 + (t - s0) / cycle * cycle
  (c, ((List.range len).filter fun j => j == 0 || c + entryStart iv j ≤ t).length - 1)

/-- The live interval of entry `j` of a gate. -/
def State.gateInterval (s : State) (e : Entry) (j : Nat) : Nat :=
  ((s.pairGet pgGateList (gFirst e + j) s.heat.liveE).map glInterval).getD 0

/-- Bring gate `g` to the entry that contains its domain's time, or to its initial state before the first cycle; octets restart where the entry
changes (R220, R222). -/
def State.advanceGate (s : State) (g : Nat) : State :=
  match s.pairGet pgGate g s.heat.liveE with
  | none => s
  | some e =>
    let st := s.gate g
    let t := s.nowNs (gDomain e)
    if gLength e == 0 || !s.domainValid (gDomain e) then s
    else if t < st.s0 then
      (if st.running then s.setGate g { st with running := false, cycle := 0, entry := 0, octets := 0 } else s)
    else
      let (c, j) := locate (s.gateInterval e) (gLength e) st.s0 (gCycle e) t
      if st.running && st.entry == j && st.cycle == c then s
      else s.setGate g { st with running := true, cycle := c, entry := j, octets := 0 }

/-! ### Meters -/

/-- Fields of a meter entry. -/
def mCir (e : Entry) : Nat := eBits e 23 0
def mEir (e : Entry) : Nat := eBits e 55 32
def mCBurst (e : Entry) : Nat := eBits e 87 64
def mEBurst (e : Entry) : Nat := eBits e 119 96
def mCf (e : Entry) : Bool := eBit e 128
def mAware (e : Entry) : Bool := eBit e 129
def mDropYellow (e : Entry) : Bool := eBit e 130
def mMarkDei (e : Entry) : Bool := eBit e 131
def mRedEn (e : Entry) : Bool := eBit e 132

/-- Colours. -/
inductive Colour where
  | green
  | yellow
  | red
  deriving DecidableEq, Repr

/-- A meter with both buckets full at time `now` (R224). -/
def Meter.full (e : Entry) (now : Nat) (allRed : Bool) : Meter :=
  { tc := (mCBurst e * byteU : Nat), te := (mEBurst e * byteU : Nat), last := now, allRed := allRed }

def State.meter (s : State) (m : Nat) (e : Entry) : Meter := (mget s.fwd.meters m).getD (Meter.full e s.tlNs false)
def State.setMeter (s : State) (m : Nat) (x : Meter) : State :=
  { s with fwd := { s.fwd with meters := mset s.fwd.meters m x } }

/-- The meter of R224 on a frame of `len` bytes with input colour yellow or green. -/
def meterStep (e : Entry) (m : Meter) (now len : Nat) (yellowIn : Bool) : Meter × Colour :=
  let dt : Int := (spanNs now m.last : Nat)
  let c := m.tc + (mCir e : Int) * dt
  let tc := min c ((mCBurst e * byteU : Nat) : Int)
  let spill := c - tc
  let te := min (m.te + (mEir e : Int) * dt + (if mCf e then spill else 0)) ((mEBurst e * byteU : Nat) : Int)
  let need : Int := (len * byteU : Nat)
  let m1 := { m with tc := tc, te := te, last := now }
  if m.allRed then (m1, .red)
  else if !yellowIn && tc ≥ need then ({ m1 with tc := tc - need }, .green)
  else if te ≥ need then ({ m1 with te := te - need }, .yellow)
  else ({ m1 with allRed := m1.allRed || mRedEn e }, .red)

/-! ### Filters -/

/-- The key of a filter lookup (R217, R218). -/
def filterKey (kind port vid value : Nat) : Nat :=
  kind + port * 2 ^ 8 + (if kind == 2 then 0 else vid) * 2 ^ 16 + value * 2 ^ 32

/-- Fields of a filter entry. -/
def sfMask (e : Entry) : Nat := eBits e 103 96
def sfBlockEn (e : Entry) : Bool := eBit e 104
def sfMaxSdu (e : Entry) : Nat := eBits e 119 106
def sfGate (e : Entry) : Nat := eBits e 136 128
def sfMeter (e : Entry) : Nat := eBits e 148 137
def sfPacer (e : Entry) : Option Nat := if eBit e 159 then some (eBits e 158 149) else none

/-- The kind and value under which source `src` identifies a frame; none where it identifies no stream. -/
def State.identify (s : State) (f : Frame) (p : Parsed) : Option (Nat × Nat) :=
  match s.fldAt f.epoch pgCls (R.CLS_PORT_SF_KIND f.src) with
  | 0 => some (0, p.da)
  | 1 => some (1, p.sa)
  | 2 => match p.stream with
    | some id => some (2, id)
    | none => some (0, p.da)
  | _ => none

/-- The PCP of the filter test (R218): that of the outer tag, DEF_PRIO for priority-tagged and untagged frames, the descriptor's
or route's for frames of H0 and the relay engine. -/
def State.filterPcp (s : State) (f : Frame) (p : Parsed) : Nat :=
  if f.src ≥ 28 then f.prio
  else match p.tags.head? with
    | some t => if t.vid == 0 then s.fldAt f.epoch pgCls (R.CLS_PORT_DEF_PRIO f.src) else t.pcp
    | none => s.fldAt f.epoch pgCls (R.CLS_PORT_DEF_PRIO f.src)

/-- The priority of R225 before a gate's IPV. -/
def State.basePrio (s : State) (f : Frame) (p : Parsed) : Nat :=
  if f.src ≥ 28 then f.prio
  else match p.tags.head? with
    | some t => t.pcp
    | none => s.fldAt f.epoch pgCls (R.CLS_PORT_DEF_PRIO f.src)

/-- The slot of the filter that a frame matches (R218). -/
def State.matchFilter (s : State) (f : Frame) (p : Parsed) : Option Nat :=
  match s.identify f p with
  | none => none
  | some (kind, value) =>
    let vid := s.frameVid f p
    let pcp := s.filterPcp f p
    let try_ (port : Nat) : Option Nat :=
      (s.findKey pgFilter 0 (filterKey kind port vid value) f.epoch).filter fun i =>
        bit (sfMask (s.slot pgFilter i).data) pcp
    (try_ f.src).or (try_ 0xFF)

/-- Count per filter slot. -/
def State.filterMatched (s : State) (i : Nat) : State :=
  { s with fwd := { s.fwd with matched := mset s.fwd.matched i (((mget s.fwd.matched i).getD 0 + 1) % 2 ^ 32) } }
def State.filterDropped (s : State) (i : Nat) : State :=
  { s with fwd := { s.fwd with dropped := mset s.fwd.dropped i (((mget s.fwd.dropped i).getD 0 + 1) % 2 ^ 32) } }
def State.blockFilter (s : State) (i : Nat) : State :=
  if s.fwd.blocked.contains i then s else { s with fwd := { s.fwd with blocked := s.fwd.blocked ++ [i] } }

/-- A frame after steps 1 to 4: the state, a drop code (0 none), and the frame with its priority, DEI mark and pacer. -/
structure Classified where
  st : State
  code : Nat
  frame : Frame

/-- Step 4: the meter of a filter. -/
def State.meterFrame (s : State) (i : Nat) (e : Entry) (f : Frame) (p : Parsed) : Classified :=
  let m := sfMeter e
  match (if m == 0xFFF then none else s.pairGet pgMeter m f.epoch) with
  | none => ⟨s, 0, f⟩
  | some me =>
    let yin := mAware me && (match p.tags.head? with
      | some t => t.dei
      | none => false)
    let (m', col) := meterStep me (s.meter m me) s.tlNs f.len yin
    let s1 := s.setMeter m m'
    match col with
    | .green => ⟨s1, 0, f⟩
    | .yellow =>
      let s2 := { s1 with fwd := { s1.fwd with yellow := mset s1.fwd.yellow m (((mget s1.fwd.yellow m).getD 0 + 1) % 2 ^ 32) } }
      if mDropYellow me then ⟨s2.filterDropped i, Code.METER_YELLOW, f⟩ else ⟨s2, 0, { f with markDei := mMarkDei me }⟩
    | .red =>
      let s2 := { s1 with fwd := { s1.fwd with red := mset s1.fwd.red m (((mget s1.fwd.red m).getD 0 + 1) % 2 ^ 32) } }
      ⟨s2.filterDropped i, Code.METER_RED, f⟩

/-- Steps 1 to 4 of R214 on a frame. -/
def State.classify (s : State) (f : Frame) : Classified :=
  let p := s.parse f
  let f0 := { f with prio := s.basePrio f p, pcp := s.basePrio f p }
  match s.matchFilter f p with
  | none =>
    if (s.identify f p).isSome && s.flagAt f.epoch pgCls (R.CLS_PORT_SF_STRICT f.src) then
      ⟨s.count pgCls R.SF_UNMATCHED_CNT, Code.SF_UNMATCHED, f0⟩
    else ⟨s, 0, f0⟩
  | some i =>
    let e := (s.slot pgFilter i).data
    let s1 := s.filterMatched i
    if s.fwd.blocked.contains i then ⟨s1.filterDropped i, Code.SF_BLOCKED, f0⟩
    else if sfMaxSdu e != 0 && f.len > sfMaxSdu e then
      ⟨(if sfBlockEn e then s1.blockFilter i else s1).filterDropped i, Code.SF_MAX_SDU, f0⟩
    else
      let g := sfGate e
      let gated : Gated := match (if g == 0x1FF then none else s1.pairGet pgGate g f.epoch) with
        | some ge => s1.passGate f.epoch g ge f.len
        | none => ⟨s1, 0, none⟩
      if gated.code != 0 then ⟨gated.st.filterDropped i, gated.code, f0⟩
      else
        gated.st.meterFrame i e { f0 with prio := gated.ipv.getD f0.prio, pacer := sfPacer e } p

end Sys2Proof.Machine
end

