-- ==== Sys2Proof/Config.lean ====
section
/-! DEFINITION. What the spec names and does not define inside its own text: the cryptographic functions of the standards it cites
(uninterpreted: log entry 30), and the free values: random bits, certificates, values that the spec leaves open. None has a
body, so a claim about the model holds whatever they are. -/

namespace Sys2Proof.Config

/-- GCM-AES-256 (IEEE 802.1AE): the tag over additional data and ciphertext, and byte `k` of the keystream. -/
opaque gcmTag : BitVec 256 → BitVec 96 → List Byte → List Byte → BitVec 128
opaque gcmByte : BitVec 256 → BitVec 96 → Nat → Byte

/-- AES-CMAC with a 128-bit key (`false`) or a 256-bit key (`true`). -/
opaque cmac : Bool → BitVec 256 → List Byte → BitVec 128

/-- HMAC-SHA-384 and SHA-384. -/
opaque hmac384 : BitVec 256 → List Byte → BitVec 384
opaque sha384 : List Byte → BitVec 384

/-- The ECDSA P-384 signature r || s over a message by a private key, with the random value given. -/
opaque sign384 : BitVec 384 → List Byte → BitVec 256 → BitVec 768

/-- The public key of a P-384 private key. -/
opaque public384 : BitVec 384 → BitVec 768

/-- AES-256 of one block. -/
opaque aes256 : BitVec 256 → BitVec 128 → BitVec 128

/-- The device secret in OTP, and what the KEY island finds in its place in RMA, where the fuse closes it (R412). -/
opaque deviceSecret : BitVec 256
opaque closedSecret : BitVec 256

/-- The key of the record encryption, derived from the device secret, and the initial counter block that a position and a SEQ form (R408). -/
opaque nvKey : BitVec 256 → BitVec 256
opaque nvCounter : Nat → Nat → BitVec 128

/-- The verification of a return token's signature against the key whose hash is in OTP (R419). -/
opaque tokenOk : List Byte → List Byte → Bool

/-- The device secret and the device identity certificate are present in OTP (R418). -/
opaque otpReady : Bool

/-- The certificates, length and bytes (R412): the device identity's, which OTP holds; the alias's, of its public key, the measurement, the
identity key that signs it and the random value of the signature; the production CA's, which the image with the body digest given carries. -/
opaque idCertLen : BitVec 11
opaque idCertByte : Nat → Byte
opaque aliasCertLen : BitVec 768 → List Byte → BitVec 384 → BitVec 256 → BitVec 11
opaque aliasCertByte : BitVec 768 → List Byte → BitVec 384 → BitVec 256 → Nat → Byte
opaque caCertLen : BitVec 384 → BitVec 11
opaque caCertByte : BitVec 384 → Nat → Byte

/-- How long a life-cycle transition that starts at a TL time takes, in counter units modulo 60 ms (R420). -/
opaque fuseTime : Nat → BitVec 96

/-- The gPTP clock identity of the device (IEEE 802.1AS), which the spec does not give. -/
opaque clockIdentity : BitVec 64

/-- The Max_Read_Request_Size (0 to 5: 128 to 4,096 bytes) of PF1 and the VFs, programmed in configuration space (R370). -/
opaque readSize : Nat → Nat

/-- How long a flush that starts at a TL time runs, in counter units modulo 100 µs (R193). -/
opaque flushTime : Nat → BitVec 96

/-- The place of a hardware slot in its slice's memories: memory, address and bit (R437). -/
opaque slotPlace : Nat → BitVec 12 × BitVec 20 × BitVec 7

/-- The memory is a SRAM of COACH (R436): the spec gives no instance numbers. -/
opaque coachSram : Nat → Bool

/-- The array and the slot in which the route lookup of a destination (family, address) that meets bad parity meets it (R206, R437). -/
opaque routeSlot : Bool → Nat → Nat × Nat

/-- The image that the P0 boot buffer spells in the Maljor format, which the spec does not give (R100): what the checks of R95 find in it. -/
opaque maljor : List (Nat × Word) → Option ImageFacts

/-- The free value drawn with the counter `State.freeIx`: random bits of the generator, backoff times, undefined values. -/
opaque freeValue : Nat → BitVec 256

end Sys2Proof.Config
end

