-- ==== Sys2Proof/Machine/Keys.lean ====
section
/-! DEFINITION. The key store of chapter 13: use checks, slot writes and commands, the derivation tree, the nonvolatile store,
attestation, the random bit generator and life-cycle transitions. -/

namespace Sys2Proof.Machine

def pgKeyCtrl : Nat := 0x1A0
def pgKeySlot : Nat := 0x1A1
def pgNvm : Nat := 0x1A2
def pgAttest : Nat := 0x1A3
def pgDrbg : Nat := 0x1A4
def pgLife : Nat := 0x1A5

/-! ### Slots and their use -/

/-- A slot with no key, of generation `g`. -/
def KeySlot.empty (g : Nat) : KeySlot :=
  { usage := 0, persist := false, cascade := false, world := false, lcDev := false, lcProd := false, derived := false
    orphaned := false, depth := 0, masters := 0, gen := g, parent := 0, parentGen := 0, origin := none, key := 0, salt := 0 }

def State.keySlot (s : State) (n : Nat) : KeySlot := (mget s.key.slots n).getD (KeySlot.empty 0)

def State.setKeySlot (s : State) (n : Nat) (k : KeySlot) : State :=
  { s with key := { s.key with slots := if k = KeySlot.empty 0 then mdel s.key.slots n else mset s.key.slots n k } }

/-- The next generation, 16 bits, wrapping. -/
def KeySlot.nextGen (k : KeySlot) : Nat := (k.gen + 1) % 2 ^ 16

/-- The slot is usable in the present life-cycle state. -/
def State.lifeAllows (s : State) (k : KeySlot) : Bool :=
  match s.mode.life with
  | .dev => k.lcDev
  | .prod => k.lcProd
  | _ => false

/-- The check of a use of slot `n` by master `m` for an operation that takes the usages `us` (R404); 0 where it passes. -/
def State.keyCheck (s : State) (n m : Nat) (us : List Nat) : Nat :=
  let k := s.keySlot n
  if s.mode.trust == .retrn then Code.KEY_UNUSABLE
  else if k.usage == 0 then Code.KEY_EMPTY
  else if !us.contains k.usage then Code.KEY_USAGE
  else if !bit k.masters m then Code.KEY_MASTER
  else if !s.lifeAllows k then Code.KEY_LIFECYCLE
  else if k.orphaned then Code.ORPHANED
  else 0

/-- Count a refused use (R404). -/
def State.useRefused (s : State) : State := (s.count pgKeyCtrl R.KEY_USE_REFUSED).raise pgKeyCtrl 2

/-! ### The nonvolatile store -/

def State.nvRec (s : State) (bank pos : Nat) : Option NvRec := mget s.key.nvm (bank * 256 + pos)

/-- Bytes 0 to 75 of a record, which its digest covers (R408). -/
def NvRec.covered (r : NvRec) : List Byte :=
  beBytes r.magic.toNat 4 ++ beBytes r.position 2 ++ beBytes r.kind 1 ++ [0] ++ beBytes r.seq 4 ++ r.payload

/-- MAGIC and COMMIT of a record. -/
def nvMagic : BitVec 32 := 0x56584B31
def nvCommitted : BitVec 32 := 0xA5C33C5A

/-- A record is started at its position, and it is good (R411). -/
def NvRec.started (r : NvRec) (pos : Nat) : Bool := r.magic == nvMagic && r.position == pos
def NvRec.good (r : NvRec) (pos : Nat) : Bool := r.started pos && r.commit == nvCommitted && r.digest == Config.sha384 r.covered

/-- A good copy of a position. -/
def State.goodRec (s : State) (bank pos : Nat) : Option NvRec := (s.nvRec bank pos).filter fun r => r.good pos

/-- Two copies agree in bytes 0 to 123. -/
def NvRec.agrees (a b : NvRec) : Bool := a.covered == b.covered && a.digest == b.digest

/-- The bank of the winning copy of a position (R411): the good one of higher SEQ; bank A where both are the same; none in a conflict. -/
def State.winner (s : State) (pos : Nat) : Option Nat :=
  match s.goodRec 0 pos, s.goodRec 1 pos with
  | some a, some b => if b.seq < a.seq then some 0 else if a.seq < b.seq then some 1 else if a.agrees b then some 0 else none
  | some _, none => some 0
  | none, some _ => some 1
  | none, none => none

/-! ### What a record holds (R408, R441) -/

/-- The device secret as the KEY island has it: from power-on reset in RMA the fuse closes it (R412). -/
def State.secret (s : State) : BitVec 256 := if s.mode.life == .rma then Config.closedSecret else Config.deviceSecret

/-- AES-256 in CTR mode over the bytes of a record's key and salt: encryption and decryption are the same (R408). -/
def nvCipher (secret : BitVec 256) (pos seq : Nat) (l : List Byte) : List Byte :=
  l.zipIdx.map fun e =>
    let block := Config.aes256 (Config.nvKey secret) (Config.nvCounter pos seq + BitVec.ofNat 128 (e.2 / 16))
    e.1 ^^^ BitVec.ofNat 8 (block.toNat / 2 ^ (8 * (15 - e.2 % 16)))

/-- ATTR DATA0 of a slot but for IN_USE (R401). -/
def KeySlot.attr (k : KeySlot) : Nat :=
  k.usage + b2n k.persist * 2 ^ 4 + b2n k.cascade * 2 ^ 5 + b2n k.world * 2 ^ 6 + b2n k.lcDev * 2 ^ 8
    + b2n k.lcProd * 2 ^ 9 + (if k.derived && k.cascade then k.parent else 0) * 2 ^ 16 + b2n k.derived * 2 ^ 24
    + b2n k.orphaned * 2 ^ 25 + k.depth % 16 * 2 ^ 27

/-- The payload of a KEY record: ATTR DATA0, DATA1 with MASTERS and GEN, DATA2 with PARENT_GEN, then key and salt encrypted (DEDUCED,
log 205). -/
def KeySlot.payload (k : KeySlot) (secret : BitVec 256) (pos seq : Nat) : List Byte :=
  beBytes k.attr 4 ++ beBytes (k.masters + k.gen * 2 ^ 16) 4 ++ beBytes k.parentGen 4
    ++ nvCipher secret pos seq (beBytes k.key.toNat 32 ++ beBytes k.salt.toNat 12)

/-- The slot that a KEY record holds. A slot derived with CASCADE = 0 is detached: the record names no parent for it. -/
def slotOfPayload (secret : BitVec 256) (pos seq : Nat) (l : List Byte) : KeySlot :=
  let a := beAt l 0 4
  let b := beAt l 4 4
  let clear := nvCipher secret pos seq ((l.drop 12).take 44)
  let casc := bit a 24 && bit a 5
  { usage := bits a 3 0, persist := bit a 4, cascade := bit a 5, world := bit a 6, lcDev := bit a 8, lcProd := bit a 9
    derived := bit a 24, orphaned := bit a 25, depth := bits a 30 27, masters := b % 2 ^ 16, gen := b / 2 ^ 16
    parent := if casc then bits a 23 16 else 0, parentGen := beAt l 8 4, origin := if casc then some (bits a 23 16) else none
    key := BitVec.ofNat 256 (beAt clear 0 32), salt := BitVec.ofNat 96 (beAt clear 32 12) }

/-- The payload of an object, before it is filled with zeros to 64 bytes. Unused entries hold the index 0xFFFF, the unit code 0, and MEM
0xFFFF; the QUARANTINE record holds cause and REPORTED in its first two bytes (DESIGN CHOICE, log 205). -/
def NvObj.payload (o : NvObj) (secret : BitVec 256) (pos seq : Nat) : List Byte :=
  match o with
  | .gone => []
  | .key k => k.payload secret pos seq
  | .ceilings l => ((l ++ List.replicate 6 (0xFFFF, 0)).take 6).flatMap fun (e : Nat × Nat) => beBytes e.1 2 ++ beBytes e.2 8
  | .quarantine q => [BitVec.ofNat 8 q.cause, BitVec.ofNat 8 (b2n q.reported)]
  | .scratch l => (l.take 16).flatMap fun e => beBytes e.1 2 ++ beBytes e.2 2
  | .repairs l => ((l ++ List.replicate 8 (0xFFFF, 0, 0)).take 8).flatMap fun (e : Nat × Nat × Nat) => beBytes e.1 2 ++ beBytes e.2.1 3 ++ beBytes e.2.2 1 ++ [0, 0]

/-- KIND of an object's record. -/
def NvObj.kind (o : NvObj) : Nat :=
  match o with
  | .gone => 0xFE
  | .key _ => 1
  | .ceilings _ => 2
  | _ => 3

/-- The record of an object at a position, with a SEQ and its COMMIT word (R408). -/
def NvRec.make (secret : BitVec 256) (pos seq : Nat) (o : NvObj) (commit : BitVec 32) : NvRec :=
  let r : NvRec := { magic := nvMagic, position := pos, kind := o.kind, seq := seq, payload := padTo (o.payload secret pos seq) 64
                     digest := 0, commit := commit }
  { r with digest := Config.sha384 r.covered }

/-- The first `n` entries of `k` bytes each of a payload. -/
def entriesOf (l : List Byte) (n k : Nat) : List (List Byte) := (List.range n).map fun i => (l.drop (k * i)).take k

/-- The object that a record holds, by KIND and position. -/
def NvRec.object (r : NvRec) (secret : BitVec 256) : NvObj :=
  let l := r.payload
  if r.kind == 0xFE then .gone
  else if r.kind == 1 then .key (slotOfPayload secret r.position r.seq l)
  else if r.kind == 2 then
    .ceilings (((entriesOf l 6 10).map fun e => (beAt e 0 2, beAt e 2 8)).reverse.dropWhile (fun e => e.1 == 0xFFFF)).reverse
  else if r.position == 0 then .quarantine { cause := beAt l 0 1, reported := beAt l 1 1 != 0 }
  else if r.position < 9 then .scratch (((entriesOf l 16 4).map fun e => (beAt e 0 2, beAt e 2 2)).filter fun e => e.1 != 0)
  else .repairs (((entriesOf l 8 8).map fun e => (beAt e 0 2, beAt e 2 3, beAt e 5 1)).filter fun e => e.1 != 0xFFFF)

/-- The bank a write of a position goes to, and the SEQ it takes (R409). -/
def State.nvTarget (s : State) (pos : Nat) : Nat × Nat :=
  match s.winner pos with
  | some b => (1 - b, ((s.nvRec b pos).map (·.seq)).getD 0 + 1)
  | none => (0, 1)

def NvObj.isCeiling : NvObj → Bool
  | .ceilings _ => true
  | _ => false

/-- Queue a record write: behind the one in progress; ceiling records go before waiting key records (R409). -/
def State.nvQueue (s : State) (w : NvWrite) : State :=
  let q := s.key.writes
  let q1 := match q with
    | [] => [w]
    | h :: t =>
      if w.obj.isCeiling then h :: (t.takeWhile (fun x => x.obj.isCeiling) ++ w :: t.dropWhile (fun x => x.obj.isCeiling))
      else q ++ [w]
  { s with key := { s.key with writes := q1 } }

/-! ### Repair records (R437, R441) -/

/-- The position of repair record `i` of 33 in the store (R441). -/
def repairPos (i : Nat) : Nat := if i < 7 then 9 + i else 95 + i

def Repair.code (r : Repair) : Nat × Nat × Nat := (r.mem, r.addr, r.bit + 128 * b2n r.column)

/-- Queue the repair records that hold the entries from `k` on. -/
def State.journalRepairs (s : State) (k : Nat) : State :=
  ((List.range 33).filter fun i => k / 8 ≤ i && 8 * i < s.test.soft.length).foldl (fun t i =>
    t.nvQueue { pos := repairPos i, obj := .repairs (((t.test.soft.drop (8 * i)).take 8).map Repair.code), job := .none }) s

/-- A soft repair, unless the fuses or the records hold it. Beyond 264 there is no record for it, and it holds until the next boot (R441). -/
def State.keepRepair (s : State) (r : Repair) : State :=
  if s.test.soft.contains r || s.test.fuses.contains r then s
  else ({ s with test := { s.test with soft := s.test.soft ++ [r] } }).journalRepairs s.test.soft.length

/-- Enter a repair record for the next boot, unless the store is full (R437). -/
def State.repairAtBoot (s : State) (r : Repair) : State := if s.test.soft.length ≥ 264 then s else s.keepRepair r

/-! ### Orphans (R407) -/

/-- Change the slot contents that wait for their records. -/
def State.mapWaiting (s : State) (f : KeySlot → KeySlot) : State :=
  { s with key := { s.key with writes := s.key.writes.map fun w =>
      match w.obj with
      | .key k => { w with obj := .key (f k) }
      | _ => w } }

/-- The slots derived from slot `n` that carry CASCADE = 1. -/
def State.cascaded (s : State) (n : Nat) : List Nat :=
  (s.key.slots.filter fun e => e.2.derived && e.2.cascade && e.2.origin == some n && !e.2.orphaned).map (·.1)

/-- The slots derived from slot `n`, whatever their CASCADE. -/
def State.offspring (s : State) (n : Nat) : List Nat :=
  (s.key.slots.filter fun e => e.2.derived && e.2.origin == some n && !e.2.orphaned).map (·.1)

/-- Orphan the slots of a list and every slot derived in turn from them, the ones that wait for their records among them; the depth of a tree is
at most 4 (R406). -/
def State.orphan (s : State) (fuel : Nat) (l : List Nat) : State :=
  match fuel with
  | 0 => s
  | fuel + 1 =>
    if l.isEmpty then s
    else
      let s1 := l.foldl (fun t n => t.setKeySlot n { t.keySlot n with orphaned := true }) s
      let s2 := s1.mapWaiting fun k => if k.derived && k.origin.any l.contains then { k with orphaned := true } else k
      s2.orphan fuel (l.flatMap s2.offspring)

/-- A slot that does not fall with its parent in slot `n` no longer comes from it: it was derived from what that slot held before. -/
def KeySlot.detach (k : KeySlot) (n : Nat) : KeySlot := if k.origin == some n && !k.orphaned then { k with origin := none } else k

/-- The slots derived from slot `n` that are not orphaned no longer come from it, nor do those that wait for their records. -/
def State.forgetOrigin (s : State) (n : Nat) : State :=
  ({ s with key := { s.key with slots := s.key.slots.map fun (e : Nat × KeySlot) => (e.1, e.2.detach n) } }).mapWaiting (·.detach n)

/-- The slot contents derived from slot `n` with CASCADE = 1 that wait for their records are orphaned. -/
def State.orphanWaiting (s : State) (n : Nat) : State :=
  s.mapWaiting fun k => if k.derived && k.cascade && k.origin == some n then { k with orphaned := true } else k

/-- Give slot `n` new content: its derived slots with CASCADE = 1 are orphaned where it was a DERIVE slot; those with CASCADE = 0 are left
alone for good (R407). -/
def State.replaceSlot (s : State) (n : Nat) (k : KeySlot) : State :=
  let s1 := if (s.keySlot n).usage == 4 then ((s.orphan 5 (s.cascaded n)).orphanWaiting n).forgetOrigin n else s
  s1.setKeySlot n k

/-- IN_USE (R401, R407): an operation that names slot `n` is in progress: a change that waits for its record, a DERIVE from it that waits, or a
signature by the alias key. Every other operation on a slot is over with the command that starts it. -/
def State.slotInUse (s : State) (n : Nat) : Bool :=
  (n == 1 && s.key.attPayload.isSome) || s.key.writes.any fun w =>
    (w.pos == n && (w.job == .port || w.job == .cmd)) || (w.job == .cmd && w.parent == some n)

/-- A slot change goes live at once, or with its journal record where the new or the old content is persistent (R403). -/
def State.commitSlot (s : State) (n : Nat) (k : KeySlot) (job : NvJob) : State :=
  if n ≥ 128 && (k.persist || (s.keySlot n).persist) then
    s.nvQueue { pos := n, obj := if k.usage == 0 then .gone else .key k, job := job, parent := if job == .cmd then k.origin else none }
  else s.replaceSlot n k

/-- Whether such a change waits for its record. -/
def State.slotWaits (s : State) (n : Nat) (k : KeySlot) : Bool := n ≥ 128 && (k.persist || (s.keySlot n).persist)

/-! ### The KEY_SLOT table port -/

/-- The load buffer of M0 or M1. -/
def State.loadBuf (s : State) (m : Nat) : LoadBuf := if m == 0 then s.key.buf0 else s.key.buf1
def State.setLoadBuf (s : State) (m : Nat) (b : LoadBuf) : State :=
  if m == 0 then { s with key := { s.key with buf0 := b } } else { s with key := { s.key with buf1 := b } }

/-- The key bytes 0 to 31, byte 0 in DATA0[31:24], as one number with byte 0 most significant: a CMAC128 key uses the highest 128 bits. -/
def keyOfData (d : Entry) : BitVec 256 :=
  BitVec.ofNat 256 ((List.range 8).foldl (fun a k => a * 2 ^ 32 + (eWord d k).toNat) 0)
def saltOfData (d : Entry) : BitVec 96 :=
  BitVec.ofNat 96 ((List.range 3).foldl (fun a k => a * 2 ^ 32 + (eWord d k).toNat) 0)

/-- The attributes of an ATTR write. -/
def slotOfAttr (attr masters : Nat) (old : KeySlot) (key : BitVec 256) (salt : BitVec 96) : KeySlot :=
  { usage := bits attr 3 0, persist := bit attr 4, cascade := bit attr 5, world := bit attr 6, lcDev := bit attr 8
    lcProd := bit attr 9, derived := false, orphaned := false, depth := 0, masters := masters % 2 ^ 16
    gen := old.nextGen, parent := 0, parentGen := 0, origin := none, key := key, salt := salt }

/-- A WRITE_DIRECT at the KEY_SLOT table port (R401, R402). -/
def State.keyPortWrite (s : State) (m idx : Nat) (d : Entry) : State × Nat :=
  let n := bits idx 7 0
  let part := bits idx 9 8
  if m > 1 then (s, Code.KEY_WRITER)
  else if part == 3 then (s, Code.TBL_BAD_CMD)
  else if n < 4 then (s, Code.KEY_RESERVED_SLOT)
  else
    let b := s.loadBuf m
    match part with
    | 1 => (s.setLoadBuf m { b with key := some (keyOfData d) }, 0)
    | 2 => (s.setLoadBuf m { b with salt := saltOfData d }, 0)
    | _ =>
      let attr := eBits d 31 0
      let usage := bits attr 3 0
      let old := s.keySlot n
      if usage > 4 then (s, Code.KEY_USAGE)
      else if bit attr 4 && n < 128 then (s, Code.KEY_PERSIST_SLOT)
      else if usage == 0 then
        ((s.commitSlot n (KeySlot.empty old.nextGen) .port).setLoadBuf m LoadBuf.empty, 0)
      else
        match b.key with
        | none => (s, Code.KEY_NOT_LOADED)
        | some k => ((s.commitSlot n (slotOfAttr attr (eBits d 47 32) old k b.salt) .port).setLoadBuf m LoadBuf.empty, 0)

/-- READ_LIVE at the KEY_SLOT table port: attributes; key and salt read as zeros (R401). -/
def State.keyPortRead (s : State) (idx : Nat) : Entry :=
  let k := s.keySlot (bits idx 7 0)
  if bits idx 9 8 == 0 then
    let a := k.attr + b2n (s.slotInUse (bits idx 7 0)) * 2 ^ 26
    BitVec.ofNat 256 (a + (k.masters + k.gen * 2 ^ 16) * 2 ^ 32 + k.parentGen * 2 ^ 64)
  else 0

/-! ### KEY_CMD -/

/-- The bytes of the label or the context. -/
def State.keyBytesAt (s : State) (off len : Nat) : List Byte :=
  ((List.range 8).flatMap fun k => beBytes (s.rd pgKeyCtrl (off + 4 * k)).toNat 4).take len

/-- The message of the KDF (R406). -/
def kdfMessage (label ctx : List Byte) (len : Nat) : List Byte :=
  beBytes 1 4 ++ label ++ [0] ++ ctx ++ beBytes len 4

/-- The length in bits of a derived key of a usage. -/
def kdfLen (usage : Nat) : Nat := if usage == 2 then 128 else 256

/-- A derived key: the first L bits of the HMAC, in the high bits of the 256-bit key. -/
def kdfKey (parent : BitVec 256) (label ctx : List Byte) (usage : Nat) : BitVec 256 :=
  let k := (Config.hmac384 parent (kdfMessage label ctx (kdfLen usage))).toNat / 2 ^ 128
  BitVec.ofNat 256 (if usage == 2 then k / 2 ^ 128 * 2 ^ 128 else k)

/-- The code with which DERIVE from slot `p` by master `m` is refused, 0 where it is taken (R401, R406). -/
def State.deriveCode (s : State) (p m attr : Nat) : Nat :=
  let k := s.keySlot p
  let c := s.keyCheck p m [4]
  if p < 4 then Code.KEY_RESERVED_SLOT
  else if c != 0 then c
  else if (bit attr 8 && !k.lcDev) || (bit attr 9 && !k.lcProd) then Code.KEY_LIFECYCLE
  else if bit attr 6 && !k.world then Code.KEY_WORLD
  else if k.depth + 1 > 4 then Code.KDF_DEPTH
  else 0

/-- The end of a KEY_CMD: its code, BUSY and DONE, CMD_DONE. -/
def State.keyCmdDone (s : State) (code : Nat) : State :=
  (((s.setF pgKeyCtrl R.KEY_STAT_BUSY 0).setF pgKeyCtrl R.KEY_STAT_DONE 1).setF pgKeyCtrl R.KEY_STAT_CODE code).raise pgKeyCtrl 0 |>.disown pgKeyCtrl

/-- Start a slot change by KEY_CMD: done at once, or busy until its record is committed. -/
def State.keyCmdCommit (s : State) (n : Nat) (k : KeySlot) : State :=
  let s1 := s.commitSlot n k .cmd
  if s.slotWaits n k then (s1.setF pgKeyCtrl R.KEY_STAT_BUSY 1).setF pgKeyCtrl R.KEY_STAT_DONE 0 else s1.keyCmdDone 0

/-- 256 random bits. -/
def State.random (s : State) : BitVec 256 := Config.freeValue s.freeIx

/-- A request of the generator: it reseeds itself after 2^20, and where the request asks for it (R417). -/
def State.drbgTake (s : State) (reseed : Bool) : State :=
  let n := s.key.requests + 1
  ({ s with key := { s.key with requests := if reseed || n ≥ 2 ^ 20 then 0 else n } }).draw

/-- The generator supplies no bits. -/
def State.drbgDown (s : State) : Bool :=
  s.flag pgDrbg R.DRBG_STAT_FAIL || !s.flag pgDrbg R.DRBG_STAT_READY

/-- A write of KEY_CMD by master `m` (R402, R405, R406). -/
def State.keyCmd (s : State) (m : Nat) (v : Word) : State × Nat :=
  let op := getBits v 2 0
  let n := getBits v 15 8
  let p := getBits v 23 16
  let attr := (s.rd pgKeyCtrl R.KEY_CMD_ATTR.off).toNat
  let masters := s.fld pgKeyCtrl R.KEY_CMD_MASTERS
  let usage := bits attr 3 0
  let old := s.keySlot n
  if m > 1 then (s, Code.KEY_WRITER)
  else if s.flag pgKeyCtrl R.KEY_STAT_BUSY then (s, Code.KEY_BUSY)
  else if op == 0 || op > 3 then (s, 0)
  else if n < 4 then (s, Code.KEY_RESERVED_SLOT)
  else if op == 3 then (s.keyCmdCommit n (KeySlot.empty old.nextGen), 0)
  else if usage == 0 || usage > 4 then (s, Code.KEY_USAGE)
  else if bit attr 4 && n < 128 then (s, Code.KEY_PERSIST_SLOT)
  else if op == 2 then
    if s.drbgDown then (s, Code.DRBG_FAIL)
    else ((s.drbgTake false).keyCmdCommit n (slotOfAttr attr masters old s.random 0), 0)
  else
    let c := s.deriveCode p m attr
    let par := s.keySlot p
    if c != 0 then ((if c == s.keyCheck p m [4] then s.useRefused else s), c)
    else
      let len := s.fld pgKeyCtrl R.KEY_CMD_LEN_LABEL_LEN
      let ctx := s.fld pgKeyCtrl R.KEY_CMD_LEN_CTX_LEN
      let key := kdfKey par.key (s.keyBytesAt 0x060 len) (s.keyBytesAt 0x080 ctx) usage
      let k := slotOfAttr attr masters old key 0
      let casc := bit attr 5
      (s.keyCmdCommit n { k with derived := true, depth := par.depth + 1, origin := some p
                                 parent := if casc then p else 0, parentGen := if casc then par.gen else 0 }, 0)

/-- Wipe an orphaned slot at its idle point, where no operation that names it is in progress (R407). -/
def State.orphanWipe (s : State) (n : Nat) : State :=
  let k := s.keySlot n
  if k.orphaned && !s.slotInUse n then
    let s1 := s.replaceSlot n (KeySlot.empty k.nextGen)
    let s2 := if k.persist then s1.nvQueue { pos := n, obj := .gone, job := .wipe } else s1
    (s2.count pgKeyCtrl R.KEY_WIPES).raise pgKeyCtrl 1
  else s

/-! ### Completion of record writes -/

/-- The table port of KEY_SLOT ends its command. -/
def State.portDone (s : State) (code : Nat) : State :=
  let t := (((s.setF pgKeySlot R.TBL_STAT_BUSY 0).setF pgKeySlot R.TBL_STAT_DONE 1).setF pgKeySlot R.TBL_STAT_CODE code).disown pgKeySlot
  match s.bridge.keyWrite with
  | none => t
  | some (m, e) =>
    let t1 := { t with bridge := { t.bridge with keyWrite := none } }
    if code == 0 then t1
    else
      let t2 := t1.capture pgKeySlot (t1.rd pgKeySlot R.TBL_IDX.off).toNat code (Master.num m) (Master.normal m)
      match Master.fn m with
      | some fn => t2.postedFail fn { e with code := code }
      | none => t2

/-- The content that slot `w.pos` takes with the commit of `w`: GEN counts from the slot's own at that time. -/
def State.slotOf (s : State) (w : NvWrite) : KeySlot :=
  match w.obj with
  | .key k => { k with gen := (s.keySlot w.pos).nextGen }
  | _ => KeySlot.empty (s.keySlot w.pos).nextGen

/-- What a committed object makes live (R403, R409). -/
def State.nvLive (s : State) (w : NvWrite) : State :=
  match w.job with
  | .port => (s.replaceSlot w.pos (s.slotOf w)).portDone 0
  | .cmd => (s.replaceSlot w.pos (s.slotOf w)).keyCmdDone 0
  | _ => s

/-- What a record write stores: a slot that is no longer persistent is stored as deleted. -/
def State.stored (s : State) (w : NvWrite) : NvObj :=
  match w.obj with
  | .key k => if k.persist then .key (s.slotOf w) else .gone
  | o => o

/-- The record write in progress commits (R409). -/
def State.nvCommit (s : State) : State :=
  match s.key.writes with
  | [] => s
  | w :: t =>
    let (bank, seq) := s.nvTarget w.pos
    let made := NvRec.make s.secret w.pos seq (s.stored w) nvCommitted
    ({ s with key := { s.key with writes := t, nvm := mset s.key.nvm (bank * 256 + w.pos) made } }).nvLive w

/-- A program-verify failure of the write in progress (R410): the reserve bank takes the failing bank's place, filled with the
winning copies that the other bank holds (DEDUCED, log entry 178), and the write is repeated; or the command ends with NVM_FAIL. -/
def State.nvVerifyFail (s : State) : State :=
  match s.key.writes with
  | [] => s
  | w :: t =>
    let (bank, _) := s.nvTarget w.pos
    match s.key.reserveBank with
    | none =>
      let other := 1 - bank
      let copies := (List.range 256).filterMap fun p => if s.winner p == some other then (s.nvRec other p).map fun r => (bank * 256 + p, r) else none
      let kept := mkeep s.key.nvm fun k => k / 256 == other
      { s with key := { s.key with reserveBank := some bank, nvm := copies.foldl (fun m e => mset m e.1 e.2) kept } }
    | some _ =>
      let s1 := { s with key := { s.key with writes := t } }
      let s2 := match w.job with
        | .port => s1.portDone Code.NVM_FAIL
        | .cmd => s1.keyCmdDone Code.NVM_FAIL
        | _ => s1
      s2.raise pgNvm 2

/-- A record write cut by the fall of VAON (R72, R409): the record is started and not committed. -/
def State.nvCut (s : State) : State :=
  match s.key.writes with
  | [] => s
  | w :: _ =>
    let (bank, seq) := s.nvTarget w.pos
    { s with key := { s.key with
        writes := []
        nvm := mset s.key.nvm (bank * 256 + w.pos) (NvRec.make s.secret w.pos seq (s.stored w) 0xFFFFFFFF) } }

/-! ### Recovery at boot (R411) -/

/-- What recovery finds at a position: the object to load, an update lost, a conflict. -/
structure Recovered where
  obj : NvObj
  lost : Bool
  conflict : Bool

/-- Each entry of two ceiling lists at the higher of its two values. -/
def higherCeilings (a b : List (Nat × Nat)) : List (Nat × Nat) :=
  let one (e : Nat × Nat) : Nat × Nat := (e.1, max e.2 (((b.find? fun x => x.1 == e.1).map (·.2)).getD 0))
  a.map one ++ b.filter fun e => !(a.map (·.1)).contains e.1

/-- The result of a conflict, by kind. -/
def conflictObj (a b : NvObj) : NvObj :=
  match a, b with
  | .ceilings x, .ceilings y => .ceilings (higherCeilings x y)
  | .quarantine q, _ => .quarantine q
  | _, .quarantine q => .quarantine q
  | .scratch x, .scratch y => .scratch (x ++ y.filter fun e => !x.contains e)
  | .repairs x, .repairs y => .repairs (x ++ y.filter fun e => !x.contains e)
  | .key _, _ => .gone
  | _, .key _ => .gone
  | x, .gone => x
  | .gone, y => y
  | x, _ => x

/-- A record whose stored bytes have changed: its digest no longer fits them (DESIGN CHOICE, log 205: which bytes changed shows nowhere). -/
def NvRec.damaged (r : NvRec) : NvRec := { r with digest := ~~~ Config.sha384 r.covered }

/-- The stored bytes of the records `bad` (bank × 256 + position) have changed. -/
def State.damage (s : State) (bad : List Nat) : State :=
  bad.foldl (fun t k => match mget t.key.nvm k with
    | some r => { t with key := { t.key with nvm := mset t.key.nvm k r.damaged } }
    | none => t) s

/-- The resolution of one position (R411). -/
def State.recoverOne (s : State) (p : Nat) : Recovered :=
  let obj (r : Option NvRec) : NvObj := (r.map fun x => x.object s.secret).getD .gone
  let win := (s.winner p).bind fun x => s.goodRec x p
  let lostIn (x : Nat) : Bool := match s.nvRec x p with
    | some r => r.started p && !r.good p && (match win with | none => true | some w => w.seq < r.seq)
    | none => false
  if win.isNone && (s.goodRec 0 p).isSome && (s.goodRec 1 p).isSome then
    { obj := conflictObj (obj (s.goodRec 0 p)) (obj (s.goodRec 1 p)), lost := false, conflict := true }
  else { obj := obj win, lost := lostIn 0 || lostIn 1, conflict := false }

/-- Raise what recovery of position `p` found. -/
def State.recoverEvents (s : State) (p : Nat) (r : Recovered) : State :=
  let s1 := if r.lost then
      let t := ({ s with key := { s.key with bootLost := true, lostPos := p } }.raise pgNvm 0).faultRecord pgNvm p Code.UPDATE_LOST
      t.captureInternal pgNvm R.NVM_STAT_BUSY.off Code.UPDATE_LOST
    else s
  if r.conflict then
    let t := ({ s1 with key := { s1.key with bootConflict := true, conflictPos := p } }.raise pgNvm 1).faultRecord pgNvm p
      Code.KEYSTORE_CONFLICT
    t.captureInternal pgNvm R.NVM_STAT_BUSY.off Code.KEYSTORE_CONFLICT
  else s1

/-- Load the key slot of position `p`. -/
def State.recoverSlot (s : State) (p : Nat) (o : NvObj) : State :=
  match o with
  | .key k => s.setKeySlot p k
  | _ => if (s.keySlot p).persist then s.setKeySlot p (KeySlot.empty (s.keySlot p).gen) else s

/-- After recovery, a CASCADE slot whose parent is empty or of another generation is orphaned and wiped (R411). -/
def State.recoverOrphans (s : State) : State :=
  (s.key.slots.filter fun e =>
      e.2.derived && e.2.cascade &&
        ((s.keySlot e.2.parent).usage == 0 || (s.keySlot e.2.parent).gen != e.2.parentGen)).foldl
    (fun t e => (t.orphan 5 [e.1]).orphanWipe e.1) s

/-! ### Device keys (R412) -/

/-- The order of the P-384 base point. -/
def orderP384 : Nat := 0xFFFFFFFFFFFFFFFFFFFFFFFFFFFFFFFFFFFFFFFFFFFFFFFFC7634D81F4372DDF581A0DB248B0A77AECEC196ACCC52973

/-- The 448 bits that two iterations of the KDF give: all of the first, and the first 64 bits of the second. -/
def kdf448 (secret : BitVec 256) (label ctx : List Byte) : Nat :=
  let k (i : Nat) : Nat := (Config.hmac384 secret (beBytes i 4 ++ label ++ [0] ++ ctx ++ beBytes 448 4)).toNat
  k 1 * 2 ^ 64 + k 2 / 2 ^ 320

/-- The private key that the extra-random-bits method of FIPS 186-5 makes of them. -/
def deviceKey (secret : BitVec 256) (label ctx : List Byte) : BitVec 384 :=
  BitVec.ofNat 384 (kdf448 secret label ctx % (orderP384 - 1) + 1)

/-- The labels "VX9690-DEVID" and "VX9690-ALIAS". -/
def labelDevid : List Byte := [0x56, 0x58, 0x39, 0x36, 0x39, 0x30, 0x2D, 0x44, 0x45, 0x56, 0x49, 0x44]
def labelAlias : List Byte := [0x56, 0x58, 0x39, 0x36, 0x39, 0x30, 0x2D, 0x41, 0x4C, 0x49, 0x41, 0x53]

/-- The measurement that the alias key and its certificate bind: the SHA-384 of the image body, then SECVER as one byte. -/
def State.measurement (s : State) : List Byte := beBytes s.key.bodyHash.toNat 48 ++ beBytes (s.fld 0 R.DEV_FW_VER_SECVER) 1

/-! ### Life-cycle fuses (R418, R420) -/

/-- LIFECYCLE of DEV_MODE. -/
def LifeCycle.num : LifeCycle → Nat
  | .blank => 0
  | .dev => 1
  | .prod => 2
  | .rma => 3
  | .fin => 4

/-- How many fuses of row `t` are blown. -/
def State.lcBlown (s : State) (t : Nat) : Nat := (mget s.key.lcRows t).getD 0

/-- The state that the fuses encode: the highest row of which at least 12 are blown, at least that of the present state. -/
def State.fuseRow (s : State) : Nat := [1, 2, 3, 4].foldl (fun a t => if 12 ≤ s.lcBlown t then max a t else a) s.mode.life.num

/-- Time `d` passes for the transition under way; at its end all 16 fuses of its row are blown. In TRIM fuse programming waits for FULL
(R61). -/
def State.lcPasses (s : State) (d : Nat) : State :=
  match s.key.lcRun with
  | none => s
  | some (t, left) =>
    if s.mode.power != .full then s
    else if left ≤ d then { s with key := { s.key with lcRun := none, lcRows := mset s.key.lcRows t 16 } }
    else { s with key := { s.key with lcRun := some (t, left - d) } }

/-- The transition under way is cut short: how many fuses of its row are blown is open (DESIGN CHOICE, log 206). -/
def State.lcCut (s : State) : State :=
  match s.key.lcRun with
  | none => s
  | some (t, _) =>
    let old := s.lcBlown t
    let n := old + (Config.freeValue s.freeIx).toNat % (17 - old)
    ({ s with key := { s.key with lcRun := none, lcRows := mset s.key.lcRows t n } }).draw

/-! ### Attestation (R413 to R415) -/

/-- The head of a CBOR data item: major type and argument, in the shortest form. -/
def cborHead (major n : Nat) : List Byte :=
  let b (x : Nat) : Byte := BitVec.ofNat 8 (major * 32 + x)
  if n < 24 then [b n]
  else if n < 2 ^ 8 then b 24 :: beBytes n 1
  else if n < 2 ^ 16 then b 25 :: beBytes n 2
  else if n < 2 ^ 32 then b 26 :: beBytes n 4
  else b 27 :: beBytes n 8

def cborUint (n : Nat) : List Byte := cborHead 0 n
def cborBytes (l : List Byte) : List Byte := cborHead 2 l.length ++ l
def cborArray (l : List (List Byte)) : List Byte := cborHead 4 l.length ++ l.flatten
def cborBool (b : Bool) : List Byte := if b then [0xF5] else [0xF4]

/-- The payload of a statement (the claims of R413). -/
def attPayload (uid part body run secver fwver live digest life trust cause : Nat) (nonce : List Byte) (dom t : Nat)
    (valid : Bool) (mode : Nat) : List Byte :=
  let claim (k : Nat) (v : List Byte) : List Byte := cborUint k ++ v
  cborHead 5 9
    ++ claim 1 (cborBytes (beBytes uid 8))
    ++ claim 2 (cborUint part)
    ++ claim 3 (cborArray [cborBytes (beBytes body 48), cborBytes (beBytes run 48), cborUint secver, cborUint fwver])
    ++ claim 4 (cborArray [cborUint live, cborBytes (beBytes digest 48)])
    ++ claim 5 (cborUint life)
    ++ claim 6 (cborArray [cborUint trust, cborUint cause])
    ++ claim 7 (cborBytes nonce)
    ++ claim 8 (cborArray [cborUint dom, cborUint (timeSec t), cborUint (timeNs t), cborUint (timeFrac t), cborBool valid])
    ++ claim 9 (cborUint mode)

/-- The protected header {1: −35}. -/
def attProtected : List Byte := cborHead 5 1 ++ cborUint 1 ++ cborHead 1 34

/-- The Signature1 structure over a payload, with empty external data. -/
def attToSign (payload : List Byte) : List Byte :=
  cborHead 4 4 ++ cborHead 3 10
    ++ [0x53, 0x69, 0x67, 0x6E, 0x61, 0x74, 0x75, 0x72, 0x65, 0x31]
    ++ cborBytes attProtected ++ cborBytes [] ++ cborBytes payload

/-- The tagged COSE_Sign1 statement. -/
def attStatement (uid : Nat) (payload sig : List Byte) : List Byte :=
  cborHead 6 18 ++ cborHead 4 4 ++ cborBytes attProtected
    ++ (cborHead 5 1 ++ cborUint 4 ++ cborBytes (beBytes uid 8)) ++ cborBytes payload ++ cborBytes sig

/-- The update of the heat digest when a heat goes live (R414). -/
def nextHeatDigest (old : BitVec 384) (tag : Nat) (t : Nat) (records : List Byte) : BitVec 384 :=
  Config.sha384 (beBytes old.toNat 48 ++ beBytes tag 4 ++ beBytes (timeSec t) 6 ++ beBytes (timeNs t) 4
    ++ beBytes (timeFrac t) 2 ++ beBytes (Config.sha384 records).toNat 48)

/-- TBL_IDX of the entry with index `i` of page `p`: the tries count 2^18 per stage and the authentication profiles from 4,096. -/
def portIndex (p i : Nat) : Nat :=
  if p == 0x08C || p == 0x08D then i / 2 ^ 18 * 2 ^ 20 + i % 2 ^ 18 else if p == 0x1B0 then 4096 + i else i

/-- The records of a heat, serialised as R414 gives. -/
def heatRecords (c : Changes) : List Byte :=
  (c.regs.flatMap fun e => beBytes (e.1 / 4096) 2 ++ beBytes (e.1 % 4096) 2 ++ beBytes e.2.toNat 4)
    ++ (c.tbls.flatMap fun r =>
      beBytes r.page 2 ++ [0, 0] ++ beBytes (portIndex r.page r.idx) 4 ++ beBytes (if r.del then 4 else 3) 1 ++ List.replicate 7 0
        ++ (List.range 8).flatMap fun k => beBytes (eWord r.data k).toNat 4)

end Sys2Proof.Machine
end

