-- ==== Sys2Proof/Machine/Macsec.lean ====
section
/-! DEFINITION. The SecY of a port (chapter 05, R160 to R162, R404, R416): validation of a received frame and protection of a
transmitted one. The layout of SecTAG and IV is that of IEEE 802.1AE-2018, which the chapter cites (PRESUMED, log entry 33). -/

namespace Sys2Proof.Machine

/-- The page of MAC port `n`; its MACsec table page and the index of its entries. -/
def macPage (n : Nat) : Nat := 0x040 + n
def secPage (n : Nat) : Nat := 0x1A8 + n / 4
def scIndex (n sc : Nat) : Nat := n % 4 * 2 ^ 9 + sc * 4
def rxSaIndex (n sc an : Nat) : Nat := n % 4 * 2 ^ 9 + 2 ^ 7 + sc * 4 + an
def txSaIndex (n an : Nat) : Nat := n % 4 * 2 ^ 9 + 2 ^ 8 + an

/-- An SA entry: its slot is the first of the pair, and it has no epochs (R160). -/
def State.saEntry (s : State) (n idx : Nat) : Entry := (s.slot (secPage n) (2 * idx)).data
def State.setSaEntry (s : State) (n idx : Nat) (e : Entry) : State :=
  s.setSlot (secPage n) (2 * idx) { v := true, e := false, b := true, rsv := false, data := e }

/-- Fields of an SA entry. -/
def saNextPn (e : Entry) : Nat := eBits e 63 0
def saSlot (e : Entry) : Nat := eBits e 71 64
def saInUse (e : Entry) : Bool := eBit e 72
def saSsci (e : Entry) : Nat := eBits e 127 96
def saWithPn (e : Entry) (pn : Nat) : Entry := eSet e 63 0 pn

/-- Count in MACsec counter `k` of port `n` (the table under R163). -/
def State.secCount (s : State) (n k : Nat) : State := s.count (macPage n) (R.MACSEC_CNT k)

/-- The EtherType of a frame without looking behind tags, and whether R161 step 1 lets it pass unprotected. -/
def etherType (l : List Byte) : Nat := beAt l 12 2
def State.uncontrolled (s : State) (n : Nat) (l : List Byte) : Bool :=
  etherType l == 0x888E || (etherType l == 0x88F7 && s.flag (macPage n) R.MACSEC_CTRL_BYPASS_PTP)

/-- MACsec is on at the port, in either direction (R60). -/
def State.secTx (s : State) (n : Nat) : Bool := s.flag (macPage n) R.MACSEC_CTRL_TX_PROTECT
def State.secRx (s : State) (n : Nat) : Bool := s.fld (macPage n) R.MACSEC_CTRL_VALIDATE != 0

/-- The reason with which MACsec at the port drops all its traffic: RETURN (R60), or an engine lost (R440); 0 for none. -/
def State.secLost (s : State) (n : Nat) : Nat :=
  if s.secTx n || s.secRx n then
    if s.mode.trust == .retrn then Code.KEY_UNUSABLE
    else if s.eth.engineLost.contains n then Code.MACSEC_ENGINE_LOST
    else 0
  else 0

/-- The SecTAG of a received frame: its fields and the length of the tag. -/
structure SecTag where
  es : Bool
  sc : Bool
  scb : Bool
  e : Bool
  c : Bool
  an : Nat
  sl : Nat
  pn : Nat
  sci : Nat
  len : Nat
  version : Bool
  deriving DecidableEq, Repr

def parseSecTag (l : List Byte) : SecTag :=
  let t := byteAt l 14
  let sc := bit t 5
  { es := bit t 6, sc := sc, scb := bit t 4, e := bit t 3, c := bit t 2, an := t % 4, sl := byteAt l 15, pn := beAt l 16 4
    sci := if sc then beAt l 20 8 else 0, len := if sc then 16 else 8, version := bit t 7 }

/-- A SecTAG that breaks the rules of 802.1AE. -/
def SecTag.bad (t : SecTag) (xpn : Bool) (total : Nat) : Bool :=
  t.version || (t.sc && (t.es || t.scb)) || bits t.sl 7 6 != 0 || t.sl ≥ 48 || (t.pn == 0 && !xpn)
    || total < 12 + t.len + 16

/-- The full packet number under extended numbering, from the `lowest` acceptable one: its upper half, or that plus 1 where bit 31 is set in the
lowest and clear in the frame's (802.1AE; PRESUMED, log entry 33). -/
def fullPn (xpn : Bool) (lowest low : Nat) : Nat :=
  if xpn then (lowest / 2 ^ 32 + b2n (lowest.testBit 31 && !low.testBit 31)) * 2 ^ 32 + low
  else low

/-- The packet number after `pn`; without extended numbering it has 32 bits (DESIGN CHOICE, log entry 185). -/
def pnAfter (xpn : Bool) (pn : Nat) : Nat := if xpn then pn + 1 else (pn + 1) % 2 ^ 32

/-- The initialisation vector. -/
def secIv (xpn : Bool) (sci ssci pn : Nat) (salt : BitVec 96) : BitVec 96 :=
  if xpn then BitVec.ofNat 96 (ssci % 2 ^ 32 * 2 ^ 64 + pn % 2 ^ 64) ^^^ salt
  else BitVec.ofNat 96 (sci % 2 ^ 64 * 2 ^ 32 + pn % 2 ^ 32)

/-- The confidentiality offset in bytes. -/
def confOffset (v : Nat) : Nat := match v with
  | 1 => 30
  | 2 => 50
  | _ => 0

/-- Add the keystream to bytes. -/
def keystream (key : BitVec 256) (iv : BitVec 96) (l : List Byte) : List Byte :=
  l.mapIdx fun k b => b ^^^ Config.gcmByte key iv k

/-- The receive SC of an SCI: the lowest enabled one that carries it. -/
def State.findSc (s : State) (n : Nat) (x : Bool) (sci : Nat) : Option Nat :=
  (List.range 32).find? fun k =>
    match s.pairGet (secPage n) (scIndex n k) x with
    | some e => eBit e 64 && eBits e 63 0 == sci
    | none => false

/-- What validation answers: the state after counting, and the frame passed, or nothing. -/
abbrev Validated := State × Option (List Byte)

/-- A frame dropped by the SecY with a reason. -/
def State.secDrop (s : State) (code : Nat) : Validated := (s.drop code, none)

/-- Steps 4 to 7 of R161 on a frame whose SC is `sc`. -/
def State.validateSa (s : State) (n : Nat) (strict : Bool) (sc sci : Nat) (t : SecTag) (l : List Byte) : Validated :=
  let p := macPage n
  let xpn := s.flag p R.MACSEC_CTRL_XPN
  let idx := rxSaIndex n sc t.an
  let sa := s.saEntry n idx
  let use := if saInUse sa then s.keyCheck (saSlot sa) 6 [1] else 0
  let s1 := if use != 0 then s.useRefused else s
  if !saInUse sa || use != 0 then
    if strict then (s1.secCount n 16).secDrop Code.MACSEC_NO_SA
    else ((s1.secCount n 17).secCount n 15, some l)
  else
    let next := saNextPn sa
    let win0 := (s.rd p R.MACSEC_WINDOW.off).toNat
    let win := if xpn then min win0 (2 ^ 30) else win0
    let pn := fullPn xpn (next - win) t.pn
    if s.flag p R.MACSEC_CTRL_REPLAY_PROTECT && pn < next - win then (s1.secCount n 13).secDrop Code.MACSEC_LATE
    else
      let slot := s.keySlot (saSlot sa)
      let iv := secIv xpn sci (saSsci sa) pn slot.salt
      let hdr := 12 + t.len
      let body := (l.drop hdr).take (l.length - hdr - 16)
      let clear := if t.e then min (confOffset (s.fld p R.MACSEC_CTRL_CONF_OFFSET)) body.length else body.length
      let aad := l.take hdr ++ body.take clear
      let ok := Config.gcmTag slot.key iv aad (body.drop clear) = BitVec.ofNat 128 (beNat (l.drop (l.length - 16)))
      if ok then
        let plain := body.take clear ++ keystream slot.key iv (body.drop clear)
        let s2 := if pn ≥ next then s1.setSaEntry n idx (saWithPn sa (pnAfter xpn pn))
          else if pn + win ≥ next then s1.secCount n 14
          else s1
        (s2.secCount n 10, some (l.take 12 ++ plain))
      else if !strict && !t.e then (s1.secCount n 11, some l)
      else (s1.secCount n 12).secDrop Code.MACSEC_INVALID

/-- Validation of a received frame (R161), the frame from its destination address to the byte before its FCS, in epoch `x`. -/
def State.validateFrame (s : State) (n : Nat) (x : Bool) (l : List Byte) : Validated :=
  let p := macPage n
  let mode := s.fld p R.MACSEC_CTRL_VALIDATE
  let lost := s.secLost n
  if lost != 0 then s.secDrop lost
  else if mode == 0 || s.uncontrolled n l then (s, some l)
  else if !s.up 15 then s.secDrop Code.SHED_DOMAIN
  else
    let strict := mode == 2
    if etherType l != 0x88E5 then
      if strict then (s.secCount n 6).secDrop Code.MACSEC_NO_TAG else (s.secCount n 5, some l)
    else
      let t := parseSecTag l
      if t.bad (s.flag p R.MACSEC_CTRL_XPN) l.length then (s.secCount n 7, none)
      else
        let sci := if t.sc then t.sci else beAt l 6 6 * 2 ^ 16 + 1
        let found := if !t.sc && !t.es then
            match s.pairGet (secPage n) (scIndex n 0) x with
            | some e => if eBit e 64 then some (0, eBits e 63 0) else none
            | none => none
          else (s.findSc n x sci).map fun k => (k, sci)
        match found with
        | some (k, c) => s.validateSa n strict k c t l
        | none =>
          let s1 := s.secCount n (if t.sc || t.es then 8 else 9)
          if strict then (s1, none) else (s1.secCount n 15, some l)

/-- The PN at which PN_THRESHOLD rises, and the last PN. -/
def pnThreshold (xpn : Bool) : Nat := if xpn then 0xC000000000000000 else 0xC0000000
def lastPn (xpn : Bool) : Nat := if xpn then 2 ^ 64 - 1 else 2 ^ 32 - 1

/-- The last packet number of a transmit SA has been used, or not; the count then goes round to 0 (R162). -/
def State.pnSpent (s : State) (n an : Nat) : Bool := s.eth.pnUsed.contains (n * 4 + an)
def State.setPnSpent (s : State) (n an : Nat) (used : Bool) : State :=
  let l := s.eth.pnUsed.filter (· != n * 4 + an)
  { s with eth := { s.eth with pnUsed := if used then (n * 4 + an) :: l else l } }

/-- The transmit SCI: the port address and TX_PI. -/
def State.txSci (s : State) (n : Nat) : Nat :=
  let p := macPage n
  s.fld p R.MAC_ADDR_HI * 2 ^ 48 + (s.rd p R.MAC_ADDR_LO.off).toNat * 2 ^ 16 + s.fld p R.MACSEC_CTRL_TX_PI

/-- The SecTAG of a transmitted frame with `len` bytes of user data. -/
def State.txTag (s : State) (n an pn len : Nat) : List Byte :=
  let p := macPage n
  let sc := s.flag p R.MACSEC_CTRL_INCLUDE_SCI
  let enc := s.flag p R.MACSEC_CTRL_TX_ENCRYPT
  let tci := b2n (s.flag p R.MACSEC_CTRL_USE_ES) * 64 + b2n sc * 32 + b2n (s.flag p R.MACSEC_CTRL_USE_SCB) * 16
    + b2n enc * 12 + an
  [0x88, 0xE5] ++ beBytes tci 1 ++ beBytes (if len < 48 then len else 0) 1 ++ beBytes pn 4
    ++ (if sc then beBytes (s.txSci n) 8 else [])

/-- What protection answers: the state after counting, with the wire bytes before the FCS, or with the reason of the drop. -/
inductive Protected where
  | ok (st : State) (wire : List Byte)
  | drop (st : State) (code : Nat)

/-- A frame for transmission dropped by the SecY with a reason. -/
def State.txRefuse (s : State) (code : Nat) : Protected := .drop (s.drop code) code

/-- Protection of a frame for transmission (R162): the wire bytes before the FCS, or the reason of its drop. Where several reasons to drop it
hold at once, the SA that is not in use comes first, then the length, the key, the packet numbers (DESIGN CHOICE, log entry 151). -/
def State.protectFrame (s : State) (n : Nat) (l : List Byte) : Protected :=
  let p := macPage n
  let lost := s.secLost n
  if lost != 0 then s.txRefuse lost
  else if !s.secTx n then .ok (s.secCount n 4) l
  else if s.uncontrolled n l then .ok s l
  else if !s.up 15 then s.txRefuse Code.SHED_DOMAIN
  else
    let an := s.fld p R.MACSEC_TXAN
    let xpn := s.flag p R.MACSEC_CTRL_XPN
    let idx := txSaIndex n an
    let sa := s.saEntry n idx
    let use := s.keyCheck (saSlot sa) 6 [1]
    let pn := saNextPn sa
    let tag := s.txTag n an (pn % 2 ^ 32) (l.length - 12)
    let max0 := s.fld p R.MAC_CFG_MAXLEN
    let max := min 10240 (if max0 < 64 then 64 else max0)
    if !saInUse sa then s.txRefuse Code.MACSEC_NO_SA
    else if l.length + tag.length + 16 + 4 > max then (s.secCount n 2).txRefuse Code.MACSEC_TOO_LONG
    else if use != 0 then s.useRefused.txRefuse use
    else if s.pnSpent n an || pn > lastPn xpn then ((s.secCount n 3).raise p 7).txRefuse Code.MACSEC_PN_EXHAUSTED
    else
      let slot := s.keySlot (saSlot sa)
      let iv := secIv xpn (s.txSci n) (saSsci sa) pn slot.salt
      let enc := s.flag p R.MACSEC_CTRL_TX_ENCRYPT
      let body := l.drop 12
      let clear := if enc then min (confOffset (s.fld p R.MACSEC_CTRL_CONF_OFFSET)) body.length else body.length
      let ct := keystream slot.key iv (body.drop clear)
      let hdr := l.take 12 ++ tag
      let icv := beBytes (Config.gcmTag slot.key iv (hdr ++ body.take clear) ct).toNat 16
      let next := if pn == lastPn xpn then 0 else pn + 1
      let s1 := (s.setSaEntry n idx (saWithPn sa next)).setPnSpent n an (pn == lastPn xpn)
      let s2 := if pn + 1 == pnThreshold xpn then s1.raise p 6 else s1
      let s3 := (s2.secCount n 0)
      .ok (if enc then s3.secCount n 1 else s3) (hdr ++ body.take clear ++ ct ++ icv)

end Sys2Proof.Machine
end

