-- ==== Sys2Proof/Machine/Egress.lean ====
section
/-! DEFINITION. The packet buffer and the egress islands (chapter 07, steps 7 to 11 of R214): admission, lanes, watermarks,
shapers and pacers, hurdle lists and the guard band, the choice of a lane and its transmission. -/

namespace Sys2Proof.Machine

def lanePage (n : Nat) : Nat := 0x0C8 + n
def pgBuf : Nat := 0x0C4
def pgPacer : Nat := 0x0C5

/-! ### The packet buffer (R226) -/

/-- Cells of 128 bytes for a length. -/
def cellsOf (len : Nat) : Nat := ceilDiv len 128

/-- A lane that holds nothing. -/
def Lane.empty : Lane := { q := [], lv := { tok := 0, cr := 0, last := 0 }, deficit := 0 }

def laneKey (n i : Nat) : Nat := n * 8 + i
def State.lane (s : State) (n i : Nat) : Lane := (mget s.fwd.lanes (laneKey n i)).getD Lane.empty

/-- Put a lane; the deficit of one that is empty is 0 (R233). -/
def State.setLane (s : State) (n i : Nat) (l : Lane) : State :=
  { s with fwd := { s.fwd with lanes := mset s.fwd.lanes (laneKey n i) { l with deficit := if l.q.isEmpty then 0 else l.deficit } } }

def EgressPort.idle : EgressPort :=
  { express := none, preempt := none, suspended := false, ptrE := 0, ptrP := 0
    hurdle := { swap := 0, s0 := 0, cycle := 0, running := false, entry := 0, hold := false }, free := 0 }

def State.eport (s : State) (n : Nat) : EgressPort := (mget s.fwd.ports n).getD EgressPort.idle
def State.setPort (s : State) (n : Nat) (p : EgressPort) : State :=
  { s with fwd := { s.fwd with ports := mset s.fwd.ports n p } }

/-- The cells of a packet. -/
def State.packetCells (s : State) (k : Nat) : Nat := ((mget s.fwd.packets k).map (·.cells)).getD 0

/-- The copies that lane `i` of port `n` still counts: those waiting, and the one its MAC is sending. -/
def State.laneCopies (s : State) (n i : Nat) : List Copy :=
  let p := s.eport n
  let sending (x : Option Sending) : List Copy := match x with
    | some t => if t.lane == i then [t.copy] else []
    | none => []
  (s.lane n i).q ++ sending p.express ++ sending p.preempt

/-- Cells held by a lane. -/
def State.laneCells (s : State) (n i : Nat) : Nat := ((s.laneCopies n i).map fun c => s.packetCells c.packet).sum

/-- FREE of BUF_STAT. -/
def State.freeCells (s : State) : Nat := 131072 - (s.fwd.packets.map fun e => e.2.cells).sum

/-- What a lane adds to the reserve. -/
def State.laneReserve (s : State) (n i : Nat) : Nat := s.fld (lanePage n) (R.LANE_BUF_GUAR_CELLS i) - s.laneCells n i

/-- RES of R226. -/
def State.reserveCells (s : State) : Nat :=
  ((List.range 28).map fun n => ((List.range 8).map fun i => s.laneReserve n i).sum).sum

/-- Settle ABOVE of a lane, with what a crossing raises (R230). -/
def State.noteLevel (s : State) (n i : Nat) : State :=
  let p := lanePage n
  let above := s.laneCells n i > s.fld p (R.LANE_WM_WM_CELLS i)
  if above && !s.flag p (R.LANE_WM_ABOVE i) then
    (((s.setB p (R.LANE_WM_ABOVE i) true).setB p (R.LANE_WM_WM_HIT i) true).countSat p (R.LANE_XING_WM_CROSSINGS i)).raise p 3
  else s.setB p (R.LANE_WM_ABOVE i) above

/-- One copy of a packet is gone. -/
def State.unhold (s : State) (k : Nat) : State :=
  match mget s.fwd.packets k with
  | none => s
  | some p =>
    let m := if p.copies ≤ 1 then mdel s.fwd.packets k else mset s.fwd.packets k { p with copies := p.copies - 1 }
    { s with fwd := { s.fwd with packets := m } }

/-! ### What becomes of a transmit frame's copies (R387) -/

def ringKey (fn r : Nat) : Nat := fn * 32 + r
def State.ring (s : State) (fn r : Nat) : Ring := (mget s.rings (ringKey fn r)).getD Ring.empty
def State.setRing (s : State) (fn r : Nat) (x : Ring) : State := { s with rings := mset s.rings (ringKey fn r) x }

/-- Change the waiting frame of a transmit reference. -/
def State.updWait (s : State) (t : TxRef) (f : TxWait → TxWait) : State :=
  let r := s.ring t.fn t.ring
  s.setRing t.fn t.ring { r with waits := r.waits.map fun w => if w.serial == t.serial then f w else w }

/-- A frame with a stamp request is decided once the lowest port that holds a copy has sent it, or every copy was dropped; one that no port holds
and that nothing dropped waits until its stamp is lost (R387). -/
def TxWait.settle (w : TxWait) : TxWait :=
  { w with known := w.known || (w.granted && (w.ports.isEmpty && w.status != 0 || (match w.stamp with
      | some (p, _) => w.ports.all fun q => p < q
      | none => false))) }

/-- A copy of a transmit frame was dropped at port `n` with `code`. -/
def State.txDropped (s : State) (t : Option TxRef) (n code : Nat) : State :=
  match t with
  | none => s
  | some r => if r.ts then
      s.updWait r fun w => ({ w with ports := w.ports.filter (· != n)
                                     status := if w.status == 0 then code else w.status }).settle
    else s

/-- A copy of a transmit frame left port `n` with a stamp. -/
def State.txSent (s : State) (t : Option TxRef) (n : Nat) (x : Stamps) : State :=
  match t with
  | none => s
  | some r => if r.ts then
      s.updWait r fun w => ({ w with
        ports := w.ports.filter (· != n)
        stamp := match w.stamp with
          | some (p, y) => if p < n then some (p, y) else some (n, x)
          | none => some (n, x) }).settle
    else s

/-! ### What holds a lane; its gate -/

/-- OVH as a signed number. -/
def State.laneOvh (s : State) (n i : Nat) : Int := signed (s.fld (lanePage n) (R.LANE_CTRL_OVH i)) 8

/-- The page of T1S PHY `i`, that of port E24 + `i`. -/
def t1sPage (i : Nat) : Nat := 0x078 + i

/-- Lane `i` of port `n` is held by PAUSE or PFC (R154), or its T1S port uses PLCA and waits for it (R159). -/
def State.laneHeld (s : State) (n i : Nat) : Bool :=
  let p := t1sPage (n - 24)
  s.flag (macPage n) R.MAC_STAT_PAUSED || bit (s.fld (macPage n) R.PFC_STAT_HELD) i || (n ≥ 24 && s.mode.rest != .awake)
    || (n ≥ 24 && s.flag p R.T1S_PLCA_CFG_PLCA_EN && !s.flag p R.T1S_STAT_PLCA_ACTIVE && !s.flag p R.T1S_PLCA_CFG_FALLBACK)

/-- Entry `j` of a port's live hurdle list. -/
def State.hlEntry (s : State) (n j : Nat) : Entry := (s.pairGet (lanePage n) j s.heat.liveE).getD 0
def State.hlInterval (s : State) (n j : Nat) : Nat := eBits (s.hlEntry n j) 29 0
def State.hlStates (s : State) (n j : Nat) : Nat := eBits (s.hlEntry n j) 39 32
def State.hlOp (s : State) (n j : Nat) : Nat := eBits (s.hlEntry n j) 41 40
def State.hlEn (s : State) (n : Nat) : Bool := s.flag (lanePage n) R.HL_CFG_EN
def State.hlLen (s : State) (n : Nat) : Nat := s.fld (lanePage n) R.HL_CFG_LENGTH
def State.hlCycle (s : State) (n : Nat) : Nat := s.fld (lanePage n) R.HL_CYCLE
def State.hlDomain (s : State) (n : Nat) : Nat := s.fld (lanePage n) R.HL_CFG_DOMAIN
def State.hlBase (s : State) (n : Nat) : Nat :=
  let p := lanePage n
  ((s.rd p R.HL_BASE_SEC_LO.off).toNat + s.fld p R.HL_BASE_SEC_HI * 2 ^ 32) * 1000000000 + (s.rd p R.HL_BASE_NS.off).toNat

/-- The gate states in force at a port. -/
def State.gateStates (s : State) (n : Nat) : Nat :=
  if !s.hlEn n then 255
  else
    let h := (s.eport n).hurdle
    if h.running then s.hlStates n h.entry else s.fld (lanePage n) R.HL_CFG_INIT_STATES

def State.gateOpen (s : State) (n i : Nat) : Bool := bit (s.gateStates n) i

/-! ### Time on the line -/

/-- Fmin of R149. -/
def State.fmin (s : State) (n : Nat) : Nat := 64 * (1 + s.fld (macPage n) R.MM_CFG_ADD_FRAG)

/-- HA of R241 in nanoseconds. -/
def State.holdAdvance (s : State) (n : Nat) : Nat := ceilDiv ((s.fmin n + 79) * s.byteTime n) 10

def State.txActive (s : State) (n : Nat) : Bool := s.flag (macPage n) R.MM_STAT_TX_ACTIVE

/-- Lane `i` is in the preemptable class (R233). -/
def State.preemptable (s : State) (n i : Nat) : Bool :=
  s.flag (macPage n) R.MM_CFG_EN && bit (s.fld (macPage n) R.MM_CFG_PREEMPTABLE) i

/-- MAXLEN as it acts. -/
def State.maxLen (s : State) (n : Nat) : Nat :=
  let m := s.fld (macPage n) R.MAC_CFG_MAXLEN
  min 10240 (if m < 64 then 64 else m)

/-- The bytes that MACsec adds to a frame at port `n`. -/
def State.secExpansion (s : State) (n : Nat) (l : List Byte) : Nat :=
  if s.secTx n && !s.uncontrolled n l then (if s.flag (macPage n) R.MACSEC_CTRL_INCLUDE_SCI then 32 else 24) else 0

/-- The kept length of a copy, and whether the egress MAC treats it as oversize (R145). -/
def Copy.kept (c : Copy) : Nat := c.bytes.length + (if c.oversize then 0 else 4)
def State.overlong (s : State) (n : Nat) (c : Copy) : Bool := c.oversize || Copy.kept c > s.maxLen n

/-- The bytes of a copy that go out before a check sequence: of an oversize one, all but the last four of the lower of its kept length and
the egress MAXLEN (R145, R146). -/
def State.sendable (s : State) (n : Nat) (c : Copy) : List Byte :=
  if s.overlong n c then c.bytes.take (min (Copy.kept c) (s.maxLen n) - 4) else c.bytes

/-- The length of a copy as sent, destination address through FCS (R232). -/
def State.sentLen (s : State) (n : Nat) (c : Copy) : Nat :=
  let b := s.sendable n c
  b.length + s.secExpansion n b + 4

/-! ### The guard band (R240, R242) -/

/-- The duration of entry `j`. -/
def State.hlDuration (s : State) (n j : Nat) : Nat :=
  if j + 1 ≥ s.hlLen n then s.hlCycle n - entryStart (s.hlInterval n) (s.hlLen n - 1) else s.hlInterval n j

/-- The end of the open run of lane `i` that continues past `e`, the end of entry `j`; none where it never ends. -/
def State.runEnd (s : State) (n i fuel j e : Nat) : Option Nat :=
  match fuel with
  | 0 => none
  | fuel + 1 =>
    let k := if j + 1 ≥ s.hlLen n then 0 else j + 1
    if bit (s.hlStates n k) i then s.runEnd n i fuel k (e + s.hlDuration n k) else some e

/-- The close time of lane `i`, in nanoseconds of DOMAIN; none where it stays open. -/
def State.closeTime (s : State) (n i : Nat) : Option Nat :=
  let h := (s.eport n).hurdle
  if !s.hlEn n then none
  else if h.running then
    s.runEnd n i (s.hlLen n) h.entry (h.cycle + entryStart (s.hlInterval n) h.entry + s.hlDuration n h.entry)
  else if bit (s.hlStates n 0) i then s.runEnd n i (s.hlLen n) 0 (h.s0 + s.hlDuration n 0)
  else some h.s0

/-- For how long, in tenths of a nanosecond, the guard band has barred a frame of `len` bytes from starting (R240); 0 where it may start now. -/
def State.guardLate (s : State) (n i len : Nat) : Nat :=
  match s.closeTime n i with
  | none => 0
  | some c =>
    let t := s.clock (s.hlDomain n) * 10 / nsUnit
    let b := s.byteTime n
    let whole := t + (8 + len) * b - c * 10
    if s.txActive n && s.preemptable n i && len ≥ s.fmin n + 60 then
      min whole (t + (8 + s.fmin n) * b + s.holdAdvance n * 10 - c * 10)
    else whole

/-- A frame of `len` bytes may start now under the guard band. -/
def State.guardOk (s : State) (n i len : Nat) : Bool := s.guardLate n i len == 0

/-- The TL time at which the closure of its gate acts as a hold on a preemptable frame of `len` bytes on lane `i` that started at TL time `since`:
C − HA, for a frame that does not fit before C as a whole (R240; log entry 152). -/
def State.gateAsk (s : State) (n i len since : Nat) : Option Nat :=
  match s.closeTime n i with
  | none => none
  | some c =>
    let t := s.clock (s.hlDomain n) * 10 / nsUnit
    let done := t + (8 + len) * s.byteTime n - (s.time.tl - since) * 10 / nsUnit
    if !s.txActive n || done ≤ c * 10 then none
    else some (s.time.tl + (c * 10 - s.holdAdvance n * 10 - t) * nsUnit / 10)

/-- The longest open run of lane `i` in the list, in nanoseconds; none where it never closes (R242). -/
def State.longestRun (s : State) (n i : Nat) : Option Nat :=
  if !s.hlEn n || (List.range (s.hlLen n)).all (fun j => bit (s.hlStates n j) i) then none
  else
    some ((List.range (s.hlLen n)).foldl (fun a j =>
      if bit (s.hlStates n j) i then
        max a (((s.runEnd n i (s.hlLen n) j (s.hlDuration n j))).getD 0)
      else a) 0)

/-- A frame of `len` bytes can never leave lane `i` (R242). -/
def State.tooLong (s : State) (n i len : Nat) : Bool :=
  match s.longestRun n i with
  | none => false
  | some r =>
    let b := s.byteTime n
    let kept := s.txActive n && s.preemptable n i && (8 + s.fmin n) * b + s.holdAdvance n * 10 ≤ r * 10
    (8 + len) * b > r * 10 && !kept

/-! ### Advance and charge (R232) -/

/-- The lane's copy is on the line, or suspended. -/
def State.laneSends (s : State) (n i : Nat) : Bool :=
  let p := s.eport n
  let on (x : Option Sending) : Bool := match x with
    | some t => t.lane == i
    | none => false
  on p.express || on p.preempt

/-- Advance of R232 to `now`. `busy`: the lane waits, transmits or is suspended, but for the last `late` nanoseconds; `empty`: it holds nothing. A
lane that holds a frame back only for credit or tokens waits (DEDUCED, log entry 36). -/
def advance (lv : Levels) (rate burst idle hi now : Nat) (busy empty : Bool) (late : Nat) : Levels :=
  let dt : Int := (spanNs now lv.last : Nat)
  let grown := lv.cr + (idle : Int) * ((spanNs now lv.last - late : Nat) : Int)
  { tok := min (lv.tok + (rate : Int) * dt) ((burst * byteU : Nat) : Int)
    cr := if busy then min grown ((hi * byteU : Nat) : Int) else if empty then min grown 0 else lv.cr
    last := now }

/-- Advance lane `i` of port `n` to the present. A head that the guard band bars no longer waits. -/
def State.advanceLane (s : State) (n i : Nat) : State :=
  let p := lanePage n
  let l := s.lane n i
  let sends := s.laneSends n i
  let late := match l.q with
    | c :: _ => if sends then 0 else ceilDiv (s.guardLate n i (s.sentLen n c)) 10
    | [] => 0
  let busy := sends || (!l.q.isEmpty && s.gateOpen n i && !s.laneHeld n i)
  let lv := advance l.lv (s.fld p (R.PACER_RATE i)) (s.fld p (R.PACER_BURST i)) (s.fld p (R.CBS_IDLE i))
    (s.fld p (R.CBS_HICREDIT i)) s.tlNs busy (l.q.isEmpty && !sends) late
  s.setLane n i { l with lv := lv }

/-- Advance every lane of a port, before what holds them changes. -/
def State.advancePort (s : State) (n : Nat) : State := (List.range 8).foldl (fun t i => t.advanceLane n i) s

/-- The lanes of a port after a restore: tokens and credit are 0 (R244). -/
def State.zeroLanes (s : State) (n : Nat) : State :=
  (List.range 8).foldl (fun t i => t.setLane n i { t.lane n i with lv := { tok := 0, cr := 0, last := t.tlNs } }) s

/-- Charge a lane at selection. -/
def State.chargeLane (s : State) (n i len : Nat) : State :=
  let l := s.lane n i
  let c : Int := ((len : Int) + s.laneOvh n i) * (byteU : Nat)
  s.setLane n i { l with lv := { l.lv with tok := l.lv.tok - c, cr := l.lv.cr - c } }

/-! ### Admission (R226, R227) -/

/-- Put a copy at the end of a lane. -/
def State.enqueue (s : State) (n i : Nat) (c : Copy) : State :=
  let s1 := s.advanceLane n i
  let l := s1.lane n i
  (s1.setLane n i { l with q := l.q ++ [c] }).noteLevel n i

/-- Drop the copies of a list that would take their lane above MAX_CELLS; what is left. -/
def State.laneLimits (s : State) (need : Nat) (l : List (Nat × Nat × Copy)) : State × List (Nat × Nat × Copy) :=
  l.foldl (fun a e =>
    let (t, kept) := a
    if t.laneCells e.1 e.2.1 + need > t.fld (lanePage e.1) (R.LANE_BUF_MAX_CELLS e.2.1) then
      (((t.count (lanePage e.1) (R.DROP_LANE_FULL e.2.1)).drop Code.LANE_FULL).txDropped e.2.2.tx e.1 Code.LANE_FULL, kept)
    else (t, kept ++ [e])) (s, [])

/-- The reserve after the lanes of a list have taken `need` cells each. -/
def State.reserveAfter (s : State) (need : Nat) (l : List (Nat × Nat × Copy)) : Nat :=
  s.reserveCells - (l.map fun e => min need (s.laneReserve e.1 e.2.1)).sum

/-- What admission answers: the state, the packet (none where every copy was dropped), the code of the drop (0 none). -/
structure Admitted where
  st : State
  packet : Option Nat
  code : Nat

/-- Packet `k` holds `n` cells from now on, and every lane's count of it follows (R227). -/
def State.correctCells (s : State) (k n : Nat) (l : List (Nat × Nat × Copy)) : State :=
  match mget s.fwd.packets k with
  | some p =>
    l.foldl (fun t e => t.noteLevel e.1 e.2.1) { s with fwd := { s.fwd with packets := mset s.fwd.packets k { p with cells := n } } }
  | none => s

/-- Admit a frame to lanes (R226): with `need` cells at the grant, corrected to the `hold` cells that it keeps (R227). `alone`: these copies
are all that the frame has. -/
def State.bufferAdmit (s : State) (need hold src prio : Nat) (alone : Bool) (l : List (Nat × Nat × Copy)) : Admitted :=
  let (s1, q) := s.laneLimits need l
  if q.isEmpty then ⟨s1, none, if l.isEmpty then 0 else Code.LANE_FULL⟩
  else if s1.freeCells - need < s1.reserveAfter need q || s1.freeCells < need then
    let s2 := q.foldl (fun t e => (t.count (lanePage e.1) (R.DROP_BUFFER_FULL e.2.1)).txDropped e.2.2.tx e.1 Code.BUFFER_FULL) s1
    let all := alone && q.length == l.length
    ⟨(if all then s2.count pgBuf R.BUFFER_FULL_CNT else s2).drop Code.BUFFER_FULL, none, Code.BUFFER_FULL⟩
  else
    let k := s1.fwd.nextPacket
    let pk : Packet := { cells := need, src := src, prio := prio, copies := q.length }
    let s2 := { s1 with fwd := { s1.fwd with packets := mset s1.fwd.packets k pk, nextPacket := k + 1 } }
    ⟨(q.foldl (fun t e => t.enqueue e.1 e.2.1 { e.2.2 with packet := k }) s2).correctCells k hold q, some k, 0⟩

/-- The lane of a priority at port `n` in epoch `x` (R225). -/
def State.laneFor (s : State) (x : Bool) (n prio : Nat) : Nat :=
  bits (s.rdAt x pgCls (R.PRIO_MAP n).off).toNat (3 * prio + 2) (3 * prio)

/-! ### Flow pacers (R229) -/

def fpRate (e : Entry) : Nat := eBits e 23 0
def fpBurst (e : Entry) : Nat := eBits e 55 32
def fpOvh (e : Entry) : Int := signed (eBits e 63 56) 8
def fpPolicy (e : Entry) : Nat := eBits e 65 64
def fpEn (e : Entry) : Bool := eBit e 66
def fpMax (e : Entry) : Nat := eBits e 83 68

def State.pacerQ (s : State) (k : Nat) : List Paced := (mget s.fwd.pacers k).getD []
def State.setPacerQ (s : State) (k : Nat) (l : List Paced) : State :=
  { s with fwd := { s.fwd with pacers := if l.isEmpty then mdel s.fwd.pacers k else mset s.fwd.pacers k l } }
def State.pacerLevels (s : State) (k : Nat) : Levels := (mget s.fwd.pacerLv k).getD { tok := 0, cr := 0, last := 0 }

/-- Bring a pacer's tokens to the present. -/
def State.advancePacer (s : State) (k : Nat) (e : Entry) : State :=
  let lv := advance (s.pacerLevels k) (fpRate e) (fpBurst e) 0 0 s.tlNs false false 0
  { s with fwd := { s.fwd with pacerLv := mset s.fwd.pacerLv k lv } }

/-- Put a frame behind its pacer, or drop it with FLOW_FULL. -/
def State.pace (s : State) (k : Nat) (e : Entry) (x : Paced) : State × Nat :=
  let held := ((s.pacerQ k).map (·.cells)).sum
  if held + x.cells > fpMax e then
    let n := (((mget s.fwd.pacerDrops k).getD 0) + 1) % 2 ^ 32
    (({ s with fwd := { s.fwd with pacerDrops := mset s.fwd.pacerDrops k n } }).drop Code.FLOW_FULL, Code.FLOW_FULL)
  else (s.setPacerQ k (s.pacerQ k ++ [x]), 0)

/-! ### Dropping and choosing (R231, R233) -/

/-- The head copy of a lane is dropped with a reason. -/
def State.dropHead (s : State) (n i code : Nat) : State :=
  let l := s.lane n i
  match l.q with
  | [] => s
  | c :: t => ((((s.setLane n i { l with q := t }).unhold c.packet).drop code).txDropped c.tx n code).noteLevel n i

/-- Drop the heads that can never leave, lane by lane. -/
def State.dropTooLong (s : State) (n fuel : Nat) : State :=
  match fuel with
  | 0 => s
  | fuel + 1 =>
    match (List.range 8).find? fun i =>
        match (s.lane n i).q with
        | c :: _ => s.tooLong n i (s.sentLen n c)
        | [] => false with
    | some i =>
      (((s.dropHead n i Code.GATE_TOO_LONG).count (lanePage n) (R.DROP_TOO_LONG i)).raise (lanePage n) 4).dropTooLong n fuel
    | none => s

/-- The head of lane `i` is eligible (R231). -/
def State.eligible (s : State) (n i : Nat) : Bool :=
  let p := lanePage n
  match (s.lane n i).q with
  | [] => false
  | c :: _ =>
    !s.laneHeld n i && s.gateOpen n i && s.guardOk n i (s.sentLen n c)
      && (!s.flag p (R.LANE_CTRL_CBS_EN i) || (s.lane n i).lv.cr ≥ 0)
      && (!s.flag p (R.LANE_CTRL_PACER_EN i) || (s.lane n i).lv.tok ≥ 0)

/-- The bytes a frame costs in deficit round robin. -/
def State.drrCost (s : State) (n i : Nat) : Int :=
  match (s.lane n i).q with
  | [] => 0
  | c :: _ => (s.sentLen n c : Int) + s.laneOvh n i

/-- The first member of a list of lanes at or after `p`, wrapping. -/
def fromPtr (l : List Nat) (p : Nat) : Nat := ((l.find? (· ≥ p)).or l.head?).getD 0

/-- Deficit round robin among the eligible members `l` (R233): the lane, the new pointer and the state with its deficits. -/
def State.drr (s : State) (n fuel ptr : Nat) (l : List Nat) : State × Nat × Nat :=
  match fuel with
  | 0 => (s, fromPtr l ptr, ptr)
  | fuel + 1 =>
    let i := fromPtr l ptr
    let x := s.lane n i
    let cost := s.drrCost n i
    if x.deficit ≥ cost then (s.setLane n i { x with deficit := x.deficit - cost }, i, ptr)
    else
      (s.setLane n i { x with deficit := x.deficit + s.fld (lanePage n) (R.LANE_CTRL_WEIGHT i) * 64 }).drr n fuel ((i + 1) % 8) l

/-- The position of a lane in its class (R233): its own number, or that of the group's highest member. -/
def State.position (s : State) (n : Nat) (cls : List Nat) (i : Nat) : Nat :=
  if s.flag (lanePage n) (R.LANE_CTRL_WRR i) then
    (cls.filter fun j => s.flag (lanePage n) (R.LANE_CTRL_WRR j)).foldl max 0
  else i

/-- The winner among the eligible lanes of a class, with the state after the choice. -/
def State.winnerLane (s : State) (n : Nat) (pre : Bool) : State × Option Nat :=
  let cls := (List.range 8).filter fun i => s.preemptable n i == pre
  let el := cls.filter fun i => s.eligible n i
  match el with
  | [] => (s, none)
  | h :: t =>
    let best := t.foldl (fun a i => if s.position n cls i ≥ s.position n cls a then i else a) h
    if s.flag (lanePage n) (R.LANE_CTRL_WRR best) then
      let group := el.filter fun i => s.flag (lanePage n) (R.LANE_CTRL_WRR i)
      let p := s.eport n
      let (s1, i, ptr) := s.drr n 4096 (if pre then p.ptrP else p.ptrE) group
      let p1 := s1.eport n
      (s1.setPort n (if pre then { p1 with ptrP := ptr } else { p1 with ptrE := ptr }), some i)
    else (s, some best)

/-! ### Transmission -/

/-- The earlier of two times that may be absent. -/
def sooner (a b : Option Nat) : Option Nat :=
  match a, b with
  | some x, some y => some (min x y)
  | some x, none => some x
  | none, y => y

/-- The bytes of the present fragment that the MAC is asked to end: the first byte boundary at or after the request, a hold, or the closure of its
gate, at which R149 allows it; none where nothing asks or no boundary is left. -/
def State.splitAt (s : State) (n : Nat) (x : Sending) : Option Nat :=
  match sooner x.ask (sooner x.hold x.close) with
  | none => none
  | some t =>
    let k := max (ceilDiv ((t - x.since) * 10) (s.byteTime n * nsUnit) - 8) (s.fmin n - 4)
    if s.txActive n && k + 64 ≤ x.wire.length + 4 - x.sent then some k else none

/-- Where the preemptable frame on the line has reached its split, it is suspended; its mCRC and the gap follow (R141, R149). -/
def State.settleLine (s : State) (n : Nat) : State :=
  let p := s.eport n
  match p.preempt with
  | none => s
  | some x =>
    match (if p.suspended then none else s.splitAt n x) with
    | none => s
    | some k =>
      let e := x.since + s.bytesT n (8 + k)
      if s.time.tl < e then s
      else s.setPort n { p with
        suspended := true, free := e + s.bytesT n 16
        preempt := some { x with sent := x.sent + k, ask := none, hold := none, close := none } }

/-- An express frame or the MAC's own PAUSE asks the MAC to preempt the preemptable frame on the line, under R149. -/
def State.preemptNow (s : State) (n : Nat) : State :=
  let p := s.eport n
  match p.preempt with
  | none => s
  | some x =>
    if p.suspended then s
    else (s.setPort n { p with preempt := some { x with ask := sooner x.ask (some s.time.tl) } }).settleLine n

/-- A hold or a pause asks the MAC to preempt the preemptable frame on the line, under R149, for as long as it lasts. -/
def State.holdNow (s : State) (n : Nat) : State :=
  let p := s.eport n
  match p.preempt with
  | none => s
  | some x =>
    if p.suspended then s
    else (s.setPort n { p with preempt := some { x with hold := sooner x.hold (some s.time.tl) } }).settleLine n

/-- A hold request is in force at the MAC. -/
def State.held (s : State) (n : Nat) : Bool := s.flag (macPage n) R.MM_STAT_HOLD

/-- A pause of the port, or of what holds its lane `i`, runs. -/
def State.pauseRuns (s : State) (n i : Nat) : Bool := s.running (.pause (16 * n + 8)) || s.running (.pause (16 * n + i))

/-- A hold or a pause has ended: where neither is left, what it asked of the MAC and has not got is withdrawn (R154). What an express frame asked
for stands. -/
def State.unask (s : State) (n : Nat) : State :=
  let t := s.settleLine n
  let p := t.eport n
  match p.preempt with
  | some x => if t.held n || t.pauseRuns n x.lane then t else t.setPort n { p with preempt := some { x with hold := none } }
  | none => t

/-- The line carries nothing: no frame, no fragment with its mCRC. -/
def State.lineIdle (s : State) (n : Nat) : Bool :=
  let p := s.eport n
  p.express.isNone && (p.preempt.isNone || (p.suspended && p.free ≤ s.time.tl + s.bytesT n 12))

/-- NODE_COUNT as it acts: 0 and 1 as 2, above 8 as 8. -/
def State.t1sNodes (s : State) (i : Nat) : Nat :=
  let v := s.fld (t1sPage i) R.T1S_PLCA_CFG_NODE_COUNT
  if v ≤ 1 then 2 else min v 8

/-- `k` bit times of 10BASE-T1S. -/
def bitTimes (k : Nat) : Nat := usT k / 10

/-- The first TL time of the own opportunity in cycle `c` of T1S PHY `i`; none where it has passed (log entry 153). -/
def State.plcaOwn (s : State) (i : Nat) (c : Plca) : Option Nat :=
  let p := t1sPage i
  let me := s.fld p R.T1S_PLCA_CFG_NODE_ID
  if c.id ≤ me then some (c.since + bitTimes ((me - c.id) * s.fld p R.T1S_PLCA_CFG_TO_TIMER)) else none

/-- Port `n` may start a frame in the present PLCA cycle (R157): the first of its opportunity, which passes to the next node after TO_TIMER
without one, or a further one of the burst (DESIGN CHOICE, log entry 153). -/
def State.plcaMay (s : State) (n : Nat) : Bool :=
  let p := t1sPage (n - 24)
  n < 24 || !s.flag p R.T1S_STAT_PLCA_ACTIVE || match mget s.eth.plca (n - 24) with
    | none => true
    | some c =>
      if c.sent == 0 then match s.plcaOwn (n - 24) c with
        | some t => Nat.ble t s.time.tl && Nat.blt s.time.tl (t + bitTimes (s.fld p R.T1S_PLCA_CFG_TO_TIMER))
        | none => false
      else c.id == s.fld p R.T1S_PLCA_CFG_NODE_ID + 1 && c.sent ≤ s.fld p R.T1S_PLCA_CFG_BURST_CNT && s.time.tl ≤ c.last + bitTimes (s.fld p R.T1S_PLCA_CFG2_BURST_TMR)

/-- The next frame may start: the line carries nothing, the gap of 12 bytes is over (R141), and on a PLCA segment the port has its
opportunity. -/
def State.lineFree (s : State) (n : Nat) : Bool :=
  s.lineIdle n && (s.eport n).free ≤ s.time.tl && s.plcaMay n

/-- The line is taken for `k` bytes, their preamble and the gap from now on. -/
def State.takeLine (s : State) (n k : Nat) : State :=
  let p := s.eport n
  s.setPort n { p with free := s.time.tl + s.bytesT n (8 + k + 12) }

/-- What an egress MAC makes of a copy before transmission (R145): nothing (dropped), or the bytes, and whether the FCS is inverted
and the frame counted as marked. A copy whose transmission began before its end was checked is not dropped: one that ended bad or reaches a
MAXLEN ends there with an inverted FCS (R25, R146). -/
inductive Outgoing where
  | dropped (code : Nat)
  | plain (l : List Byte) (inverted : Bool)
  | marked (l : List Byte)

/-- A transmission that starts now is one that began before its frame ended at the ingress port: the copy is cut through, and nothing has kept it
waiting past that end (log entry 38). -/
def State.begun (s : State) (c : Copy) : Bool := c.early && s.time.tl ≤ c.ended

def State.outgoing (s : State) (n : Nat) (c : Copy) : Outgoing :=
  if c.bad && !s.begun c then .dropped Code.MAC_FCS
  else if s.overlong n c && !s.begun c then
    if s.flag (macPage n) R.MAC_CFG_PASS_MARKED && !s.secTx n then .marked (s.sendable n c) else .dropped Code.MAC_OVERSIZE
  else .plain (s.sendable n c) (c.bad || s.overlong n c)

/-- A frame of port `n` starts: one more in its PLCA opportunity. -/
def State.noteBurst (s : State) (n : Nat) : State :=
  match (if n < 24 then none else mget s.eth.plca (n - 24)) with
  | some c => { s with eth := { s.eth with plca := mset s.eth.plca (n - 24) { c with sent := c.sent + 1 } } }
  | none => s

/-- Start sending bytes from lane `i`. The stamp's instant is that of the first bit after the SFD, 8 byte times on (R164). -/
def State.startSending (s : State) (n i : Nat) (pre : Bool) (c : Copy) (wire : List Byte) (inv : Bool) : State :=
  let want := c.ptp.isSome || (match c.tx with
    | some t => t.ts
    | none => false)
  let x : Sending := { lane := i, copy := { c with early := s.begun c }, wire := wire, inverted := inv, sent := 0, since := s.time.tl, frags := 0
                       stamp := if want then some ((s.txStamp n).later (s.bytesT n 8)) else none
                       ask := none, hold := none, close := if pre then s.gateAsk n i (wire.length + 4) s.time.tl else none }
  let p := s.eport n
  let s1 := s.setPort n (if pre then { p with preempt := some x, suspended := false } else { p with express := some x })
  let s2 := (s1.setB (macPage n) R.MAC_STAT_TX_BUSY true).noteBurst n
  if n ≥ 24 && !s.flag (t1sPage (n - 24)) R.T1S_STAT_PLCA_ACTIVE then s2.setB (t1sPage (n - 24)) R.T1S_STAT_CSMA true else s2

/-- A copy of packet `k` is dropped for a bad FCS: its frame counts once at the port it entered by (R142). -/
def State.noteFcs (s : State) (k : Nat) : State :=
  match mget s.fwd.packets k with
  | some p =>
    if p.fcs || p.src ≥ 28 then s
    else ({ s with fwd := { s.fwd with packets := mset s.fwd.packets k { p with fcs := true } } }).count (macPage p.src) R.RX_FCS_ERR
  | none => s

/-- A copy is a Sync of a domain that is invalid, which is not sent (R319). -/
def State.syncHeld (s : State) (c : Copy) : Bool :=
  match c.ptp with
  | some (3, tag) => !s.domainValid (tag / 2 ^ 16)
  | _ => false

/-- Select lane `i`: charge it and start its head, or drop it (R139, R145, R162, R232; DESIGN CHOICE between R146 and R162, log entry 187); a Sync
of an invalid domain leaves its lane unsent (R319). -/
def State.selectLane (s : State) (n i : Nat) (pre : Bool) : State :=
  let l := s.lane n i
  match l.q with
  | [] => s
  | c :: t =>
    let m := macPage n
    let dropIt (u : State) (code : Nat) : State := (((u.unhold c.packet).drop code).txDropped c.tx n code).noteLevel n i
    if s.syncHeld c then ((s.unhold c.packet).setLane n i { l with q := t }).noteLevel n i
    else
    let s1 := (s.chargeLane n i (s.sentLen n c))
    let s2 := s1.setLane n i { s1.lane n i with q := t }
    if !s.flag m R.MAC_STAT_LINK then (dropIt s2 Code.PORT_DOWN).count m R.TX_LINK_DOWN_DROP
    else
      match s.outgoing n c with
      | .dropped code =>
        if code == Code.MAC_OVERSIZE then (dropIt s2 code).count m R.TX_OVERSIZE_DROP
        else dropIt (if c.fcs then s2.noteFcs c.packet else s2) code
      | .marked b => (s2.startSending n i pre c b true).count m R.TX_MARKED
      | .plain b inv =>
        match s2.protectFrame n b with
        | .ok s3 w => s3.startSending n i pre c w inv
        | .drop s3 code => ((s3.unhold c.packet).txDropped c.tx n code).noteLevel n i

/-- Resume the suspended preemptable frame. -/
def State.resume (s : State) (n : Nat) : State :=
  let p := s.eport n
  match p.preempt with
  | some x =>
    (s.setPort n { p with
      suspended := false
      preempt := some { x with since := s.time.tl, frags := x.frags + 1, ask := none, hold := none
                               close := s.gateAsk n x.lane (x.wire.length + 4 - x.sent) s.time.tl } }).count (macPage n) R.TX_MM_FRAG
  | none => s

/-- The priorities held by a received PFC, from their running timers. -/
def State.pfcHeld (s : State) (n : Nat) : Nat :=
  (List.range 8).foldl (fun a p => if s.running (.pause (16 * n + p)) then a + 2 ^ p else a) 0

/-- With the line idle, the pauses whose timers run are in force, and no others (R154). -/
def State.settlePause (s : State) (n : Nat) : State :=
  let m := macPage n
  let paused := s.running (.pause (16 * n + 8))
  let held := s.pfcHeld n
  if !s.lineIdle n || (paused == s.flag m R.MAC_STAT_PAUSED && held == s.fld m R.PFC_STAT_HELD) then s
  else
    let grows := (paused && !s.flag m R.MAC_STAT_PAUSED) || held ||| s.fld m R.PFC_STAT_HELD != s.fld m R.PFC_STAT_HELD
    let s1 := ((s.advancePort n).setB m R.MAC_STAT_PAUSED paused).setF m R.PFC_STAT_HELD held
    if grows then s1.raise m 3 else s1

/-- The suspended frame may continue: nothing holds it, and its rest fits before its gate closes (R150, R240). -/
def State.mayResume (s : State) (n : Nat) (x : Sending) : Bool :=
  !s.held n && !s.laneHeld n x.lane && s.gateOpen n x.lane && s.guardOk n x.lane (x.wire.length + 4 - x.sent)

/-- One choice of the egress island at port `n` (R233, R149, R150). An express winner that finds a preemptable frame on the line asks the MAC to
preempt it. -/
def State.selectPort (s : State) (n : Nat) : State :=
  let s1 := (((s.settleLine n).settlePause n).dropTooLong n 64).advancePort n
  if (s1.eport n).express.isSome then s1
  else
    match s1.winnerLane n false with
    | (s2, some i) => if s2.lineFree n then s2.selectLane n i false else s1.preemptNow n
    | (_, none) =>
      if !s1.lineFree n then s1
      else match (s1.eport n).preempt with
        | some x => if s1.mayResume n x then s1.resume n else s1
        | none =>
          if s1.held n then s1
          else match s1.winnerLane n true with
            | (s3, some i) => s3.selectLane n i true
            | (_, none) => s1

/-- The transmission now on the line. -/
def State.onLine (s : State) (n : Nat) : Option (Bool × Sending) :=
  let p := s.eport n
  match p.express, p.preempt with
  | some x, _ => some (false, x)
  | none, some x => if p.suspended then none else some (true, x)
  | none, none => none

/-- A frame of port `n` ended at TL time `e`: the next one of its burst starts within BURST_TMR of it, and the opportunity passes to the next node
(R157). -/
def State.endBurst (s : State) (n e : Nat) : State :=
  match (if n < 24 then none else mget s.eth.plca (n - 24)) with
  | some c =>
    let d : Plca := { c with since := e, id := s.fld (t1sPage (n - 24)) R.T1S_PLCA_CFG_NODE_ID + 1, last := e }
    { s with eth := { s.eth with plca := mset s.eth.plca (n - 24) d } }
  | none => s

/-- Take a transmission off the line; its copy is released. -/
def State.clearLine (s : State) (n : Nat) (pre : Bool) (x : Sending) : State :=
  let p := s.eport n
  let s1 := s.advanceLane n x.lane
  let e := min s.time.tl (x.since + s.bytesT n (8 + (x.wire.length + 4 - x.sent)))
  let free := if pre && p.suspended then p.free else e + s.bytesT n 12
  let s2 := (s1.setPort n (if pre then { p with preempt := none, suspended := false, free := free }
    else { p with express := none, free := free })).endBurst n e
  let s3 := (s2.unhold x.copy.packet).noteLevel n x.lane
  let s4 := if (s3.eport n).express.isSome || (s3.eport n).preempt.isSome then s3
    else s3.setB (macPage n) R.MAC_STAT_TX_BUSY false
  if n ≥ 24 then s4.setB (t1sPage (n - 24)) R.T1S_STAT_CSMA false else s4

/-- Bytes leave port `n`; in MAC loopback nothing is sent on the line. -/
def State.lineOut (s : State) (n : Nat) (l : List Byte) : State :=
  if s.flag (macPage n) R.MAC_CFG_LOOPBACK then s else s.emit (.ethFrame n l)

/-- The wire bytes of a transmission with its FCS. -/
def Sending.full (x : Sending) : List Byte := x.wire ++ (if x.inverted then fcsInverted x.wire else fcsOf x.wire)

/-- The last byte of a transmission is sent (R164, R25). -/
def State.finishSending (s : State) (n : Nat) (pre : Bool) (x : Sending) : State :=
  let m := macPage n
  let s1 := (s.clearLine n pre x).count (lanePage n) (R.LANE_TX_FRAMES x.lane)
  let s2 := if x.inverted then
      let t := s1.lineOut n x.full
      if x.copy.early then (t.count m R.STOMPED).raise m 5 else t
    else
      ((s1.lineOut n x.full).countWide m R.TX_OCTETS.off (x.wire.length + 4)).countWide m
        R.MAC_TX_FRAMES.off 1
  match x.stamp with
  | some st =>
    let s3 := s2.txSent x.copy.tx n st
    match x.copy.ptp with
    | some (kind, tag) => { s3 with time := { s3.time with egress := mset s3.time.egress (n * 4 + kind) (tag, st) } }
    | none => s3
  | none => s2

/-- A transmission is ended before its last byte (R139, R469): nothing valid is delivered. -/
def State.abortSending (s : State) (n : Nat) (pre : Bool) (x : Sending) (code : Nat) : State :=
  (((s.clearLine n pre x).txDropped x.copy.tx n code)).drop code

/-- The transmission on the line has had time for its last byte. -/
def State.lineDue (s : State) (n : Nat) (x : Sending) : Bool :=
  x.since + s.bytesT n (8 + (x.wire.length + 4 - x.sent)) ≤ s.time.tl

/-- An uncorrectable buffer error in packet `k` (R472): dropped at every lane that has not begun to send it, and ended with an
inverted FCS where it is on the line; a FAULT record (R468). -/
def State.bufferError (s : State) (k : Nat) : State :=
  let mark (x : Option Sending) : Option Sending := x.map fun t =>
    if t.copy.packet == k then { t with inverted := true, copy := { t.copy with bad := true } } else t
  let markPort (e : Nat × EgressPort) : Nat × EgressPort :=
    (e.1, { e.2 with express := mark e.2.express, preempt := mark e.2.preempt })
  let s1 := { s with fwd := { s.fwd with ports := s.fwd.ports.map markPort } }
  let hit := s1.fwd.lanes.flatMap fun e => (e.2.q.filter fun c => c.packet == k).map fun c => (e.1, c)
  let clean (e : Nat × Lane) : Nat × Lane :=
    let q := e.2.q.filter fun c => c.packet != k
    (e.1, { e.2 with q := q, deficit := if q.isEmpty then 0 else e.2.deficit })
  let s2 := { s1 with fwd := { s1.fwd with lanes := s1.fwd.lanes.map clean } }
  let s3 := hit.foldl (fun t e => (((t.unhold k).drop Code.PKTBUF_ECC).txDropped e.2.tx (e.1 / 8) Code.PKTBUF_ECC).noteLevel
    (e.1 / 8) (e.1 % 8)) s2
  s3.faultRecord pgBuf 0 Code.PKTBUF_ECC

/-- A corrected error of the packet buffer: a second one in the location within 24 h of TL enters it as a repair record (R437, R472). -/
def State.bufferCorrected (s : State) (memory address bit : Nat) : State :=
  let here (e : Repair × Nat) : Bool := e.1.mem == memory && e.1.addr == address
  let r : Repair := { mem := memory, addr := address, bit := bit, column := false }
  let s1 := { s with test := { s.test with corrected := (r, s.time.tl) :: s.test.corrected.filter fun e => !here e } }
  if s.test.corrected.any fun e => here e && s.time.tl ≤ e.2 + msT 86400000 then s1.repairAtBoot r else s1

/-- The number of memory `k` of the packet buffer, in PD8 (log entry 180). -/
def bufferMemory (k : Nat) : Nat := 8 * 4096 + k

/-! ### Hurdle lists (R237 to R241) -/

/-- The hold that the list has in force at entry `j`: that of the last of the `fuel` entries up to it with an OP other than SET. In the
first cycle these end at entry 0, before which no hold is in force (R238). -/
def State.hlHoldAt (s : State) (n fuel j : Nat) : Bool :=
  match fuel with
  | 0 => false
  | fuel + 1 =>
    match s.hlOp n j with
    | 1 => true
    | 2 => false
    | _ => s.hlHoldAt n fuel (if j == 0 then s.hlLen n - 1 else j - 1)

/-- The hold state of the entry in force at a port; none before the first cycle. -/
def State.listHold (s : State) (n : Nat) : Bool :=
  let h := (s.eport n).hurdle
  h.running && s.hlHoldAt n (if h.cycle == h.s0 then h.entry + 1 else s.hlLen n) h.entry

/-- Put HOLD of a port's list and its MAC. -/
def State.putHold (s : State) (n : Nat) (on : Bool) : State :=
  let p := s.eport n
  let s1 := (s.setPort n { p with hurdle := { p.hurdle with hold := on } }).setB (lanePage n) R.HL_STAT_HOLD on
  s1.setB (macPage n) R.MM_STAT_HOLD on

/-- Put HOLD; with a hold that is withdrawn goes what it asked of the MAC. -/
def State.setHold (s : State) (n : Nat) (on : Bool) : State :=
  let t := s.putHold n on
  if on || !s.held n then t else t.unask n

/-- A port's list and its hold are stopped (R244). -/
def State.stopList (s : State) (n : Nat) : State :=
  ((((s.putHold n false).setB (lanePage n) R.HL_STAT_RUNNING false).setF (lanePage n) R.HL_STAT_ENTRY 0).setB (lanePage n)
    R.HL_STAT_TIME_INVALID false)

/-- Take a hold request: the preemptable frame in progress is preempted under R149 (R150). -/
def State.takeHold (s : State) (n : Nat) : State :=
  if (s.eport n).hurdle.hold then s else ((s.setHold n true).count (macPage n) R.TX_MM_HOLD).holdNow n

/-- The instant at which the closure of its gate acts as a hold on the preemptable frame on the line, fixed anew under the list and the time in
force (R240, R243): at once where its gate is closed. A hold that has come already keeps its instant. -/
def State.closeLine (s : State) (n : Nat) : State :=
  let p := s.eport n
  match p.preempt with
  | some x =>
    if p.suspended then s
    else
      let w := if s.gateOpen n x.lane then s.gateAsk n x.lane (x.wire.length + 4 - x.sent) x.since else some s.time.tl
      let v := match x.close, w with
        | some a, some b => if b ≤ s.time.tl then some (min a b) else some b
        | _, b => b
      (s.setPort n { p with preempt := some { x with close := v } }).settleLine n
  | none => s

/-- TIME_INVALID of a port's list follows its DOMAIN; its rise raises an interrupt (R239). -/
def State.noteInvalid (s : State) (n : Nat) : State :=
  let pg := lanePage n
  if s.domainValid (s.hlDomain n) then s.setB pg R.HL_STAT_TIME_INVALID false
  else if s.flag pg R.HL_STAT_TIME_INVALID then s
  else (s.setB pg R.HL_STAT_TIME_INVALID true).raise pg 2

/-- Restart a port's list at a swap or restore (R238): INIT_STATES until S_0, no hold, ALIGNED on a false start. -/
def State.restartList (s : State) (n : Nat) : State :=
  let d := s.hlDomain n
  let a := s.nowNs d
  let b := s.hlBase n
  let p := s.eport n
  let s1 := (s.advancePort n).setPort n { p with hurdle :=
    { swap := a, s0 := alignStart a b (s.hlCycle n), cycle := 0, running := false, entry := 0, hold := false } }
  let s2 := ((s1.setHold n false).setB (lanePage n) R.HL_STAT_RUNNING false).setF (lanePage n) R.HL_STAT_ENTRY 0
  let s3 := (if s.hlEn n && b < a then s2.raise (lanePage n) 1 else s2).closeLine n
  if s.hlEn n && s.hlLen n != 0 then s3.noteInvalid n else s3

/-- The next start, from entry `j` at `at_` on and no later than `lim`, of an entry that begins a hold. -/
def State.holdStart (s : State) (n lim fuel j at_ : Nat) : Option Nat :=
  match fuel with
  | 0 => none
  | fuel + 1 =>
    if lim < at_ then none
    else if s.hlOp n j == 1 then some at_
    else s.holdStart n lim fuel (if j + 1 ≥ s.hlLen n then 0 else j + 1) (at_ + s.hlDuration n j)

/-- The start of the next entry within HA that begins a hold (R241). -/
def State.nextHoldStart (s : State) (n : Nat) : Option Nat :=
  let h := (s.eport n).hurdle
  let lim := s.nowNs (s.hlDomain n) + s.holdAdvance n
  if h.running then
    let last := h.entry + 1 ≥ s.hlLen n
    s.holdStart n lim (s.hlLen n) (if last then 0 else h.entry + 1)
      (h.cycle + entryStart (s.hlInterval n) h.entry + s.hlDuration n h.entry)
  else s.holdStart n lim (s.hlLen n) 0 h.s0

/-- Bring a port's list to the entry that contains its domain's time (R237, R239). A hold that was issued ahead of its entry, HA or less away,
stands through the entries before it that release none (R241). -/
def State.advanceList (s : State) (n : Nat) : State :=
  let pg := lanePage n
  let h := (s.eport n).hurdle
  let t := s.nowNs (s.hlDomain n)
  if !s.hlEn n || s.hlLen n == 0 || !s.up (portDomain n) then s
  else if !s.domainValid (s.hlDomain n) then s.noteInvalid n
  else
    let s0 := s.noteInvalid n
    if t < h.s0 then
      if h.running then
        let s1 := s0.advancePort n
        let p := s1.eport n
        ((s1.setPort n { p with hurdle := { p.hurdle with running := false } }).setB pg R.HL_STAT_RUNNING false).setHold n false
      else s0
    else
      let (c, j) := locate (s.hlInterval n) (s.hlLen n) h.s0 (s.hlCycle n) t
      if h.running && h.entry == j && h.cycle == c then s0
      else
        let s1 := s0.advancePort n
        let p := s1.eport n
        let s2 := s1.setPort n { p with hurdle := { p.hurdle with running := true, entry := j, cycle := c } }
        let s3 := (s2.setF pg R.HL_STAT_ENTRY j).setB pg R.HL_STAT_RUNNING true
        let cycles := if h.running then (c - h.cycle) / max 1 (s.hlCycle n) else 1 + (c - h.s0) / max 1 (s.hlCycle n)
        let s4 := s3.countN pg R.HL_CYCLES cycles
        let s5 := if h.running then s4 else s4.raise pg 0
        let early := h.hold && s.hlOp n j != 2 && (s5.nextHoldStart n).isSome
        (if s5.listHold n || early then s5.takeHold n else s5.setHold n false).closeLine n

/-- A port's list takes the entry that contains the new time of its domain, with its hold state, at once (R239): a hold that was issued ahead of
its entry goes with the old time. -/
def State.stepList (s : State) (n : Nat) : State :=
  let t := s.advanceList n
  if !t.hlEn n || t.hlLen n == 0 || !t.up (portDomain n) || !t.domainValid (t.hlDomain n) then t
  else (if t.listHold n then t.takeHold n else t.setHold n false).closeLine n

/-- Issue the hold of the next entry where its time has come. -/
def State.issueHold (s : State) (n : Nat) : State :=
  if !s.hlEn n || s.hlLen n == 0 || !s.up (portDomain n) || !s.domainValid (s.hlDomain n) then s
  else if (s.nextHoldStart n).isSome then s.takeHold n
  else s

/-! ### Shaper changes through heats (R234) -/

/-- Apply a CHG_POLICY to levels. -/
def policyLevels (policy burst hi : Nat) (lv : Levels) : Levels :=
  match policy with
  | 0 => { lv with tok := 0, cr := 0 }
  | 2 => { lv with tok := ((burst * byteU : Nat) : Int), cr := ((hi * byteU : Nat) : Int) }
  | _ => lv

/-- Apply the live CHG_POLICY of a lane whose shaper a heat changed; its state was advanced under the old values. -/
def State.applyPolicy (s : State) (n i : Nat) : State :=
  let p := lanePage n
  let l := s.lane n i
  let lv := policyLevels (s.fld p (R.LANE_CTRL_CHG_POLICY i)) (s.fld p (R.PACER_BURST i)) (s.fld p (R.CBS_HICREDIT i)) l.lv
  s.setLane n i { l with lv := lv }

end Sys2Proof.Machine
end

