-- ==== Sys2Proof/Machine/Learn.lean ====
section
/-! DEFINITION. The insertion and learning engine of a slice: learned entries, the learn queue (R186 to R191), aging (R194,
R195), flushes (R193), the purge at settle (R185), direct writes through the role pages, and the copy of a planned substitution
(R209). -/

namespace Sys2Proof.Machine

def pgFwd : Nat := 0x080
def pgPort : Nat := 0x081
def pgVlan : Nat := 0x088
def pgGroup : Nat := 0x08A
def pgNh : Nat := 0x08B

/-- The page of a role (0 A, 1 B), and of a slice. -/
def rolePage (r : Nat) : Nat := 0x090 + r
def slicePage (i : Nat) : Nat := 0x098 + i

/-- The slice that serves a role (3 none). -/
def State.roleSlice (s : State) (r : Nat) : Nat :=
  if r == 0 then s.fld pgFwd R.FWD_ROLE_STAT_A_SLICE else s.fld pgFwd R.FWD_ROLE_STAT_B_SLICE

/-- The slice that looks up the frames of a role: its own, or the folding one (R170, R210); 3 where none does. -/
def State.servingSlice (s : State) (r : Nat) : Nat :=
  match s.fld pgFwd R.FWD_ROLE_STAT_FOLD with
  | 1 => s.roleSlice 0
  | 2 => s.roleSlice 1
  | _ => s.roleSlice r

/-- The role of an ingress source under epoch `x` (R169): 0 A, 1 B. A learned entry with PORT 29 or 30, which only a direct write makes, belongs to the
role that RELAY_B gives (DESIGN CHOICE, log entry 194). -/
def State.roleOf (s : State) (x : Bool) (src : Nat) : Nat :=
  if src < 28 then b2n (bit (s.fldAt x pgFwd R.FWD_ROLE_MAP_PORT_B) src)
  else if src == 28 then s.fldAt x pgFwd R.FWD_ROLE_MAP_H0_B
  else s.fldAt x pgFwd R.FWD_ROLE_MAP_RELAY_B

/-! ### L2 entries -/

def l2Port (e : Entry) : Nat := eBits e 68 64
def l2Qual (e : Entry) : Nat := eBits e 76 69
def l2Static (e : Entry) : Bool := eBit e 77
def l2Pinned (e : Entry) : Bool := eBit e 78
def l2Diag (e : Entry) : Bool := eBit e 79
def l2Allow (e : Entry) : Bool := eBit e 80
def l2DaDrop (e : Entry) : Bool := eBit e 81
def l2MirrorEn (e : Entry) : Bool := eBit e 82
def l2MirrorSess (e : Entry) : Nat := eBits e 85 83
def l2Flap (e : Entry) : Nat := eBits e 89 86
def l2Ts (e : Entry) : Nat := eBits e 111 96
def l2Fwin (e : Entry) : Nat := eBits e 119 112
def l2Vid (e : Entry) : Nat := eBits e 59 48

/-- A learned entry. -/
def learnedEntry (vid mac port ts fwin : Nat) : Entry :=
  eSet (eSet (eSet (eSet 0 59 0 (l2Key vid mac)) 68 64 port) 111 96 ts) 119 112 fwin

/-- A value of which 0 acts as 1. -/
def orOne (n : Nat) : Nat := if n == 0 then 1 else n

/-- The current aging tick (R194) and flap window (R190). -/
def State.ageNow (s : State) : Nat := s.time.tl / msT (orOne (s.fld pgFwd R.FWD_AGE_CFG_AGE_TICK)) % 65536
def State.flapWindow (s : State) : Nat := s.time.tl / msT (100 * orOne (s.fld pgFwd R.FWD_LEARN_CFG_FLAP_WINDOW)) % 256

/-- The number of the flap limit. -/
def State.flapLimit (s : State) : Nat := orOne (s.fld pgFwd R.FWD_LEARN_CFG_FLAP_LIMIT)

/-- Where the time of an entry's last learn or move is kept: the lookup time of the request that made it (R187, and the example after
R193, which counts a learn from its frame's lookup). -/
def learnKey (slice vid mac : Nat) : Nat := slice * 2 ^ 60 + l2Key vid mac

def State.lastLearn (s : State) (slice vid mac : Nat) : Option Nat := mget s.fwd.learned (learnKey slice vid mac)

/-- The slices in which a change of slice `i` is made: both, while it is copied (R209). -/
def State.copySlices (s : State) (i : Nat) : List Nat :=
  match s.fwd.copying with
  | some (_, a, b) => if i == a then [a, b] else [i]
  | none => [i]

/-- The entry records the time of a learn or move. -/
def State.noteLearn (s : State) (slice vid mac t : Nat) : State :=
  { s with fwd := { s.fwd with learned :=
      (s.copySlices slice).foldl (fun m i => mset m (learnKey i vid mac) t) s.fwd.learned } }

/-- HOLD in counter units. -/
def State.holdTime (s : State) : Nat := usT (s.fld pgFwd R.FWD_LEARN_CFG_HOLD)

/-- The time `t` lies within HOLD after the entry's last learn or move. -/
def State.withinHold (s : State) (slice vid mac t : Nat) : Bool :=
  match s.lastLearn slice vid mac with
  | some l => t < l + s.holdTime
  | none => false

/-- Delete the slots of slice `i` that hold a learned entry satisfying `q`; the number deleted. Where the hardware holds such an entry in a static
slot of the shadow (R207), it is emptied and the shadow stays. -/
def State.purgeSlice (s : State) (i : Nat) (q : Entry → Bool) : State × Nat :=
  let tid := 0x200 + i
  let gone := s.slots.filter fun e => e.1 / 2 ^ 24 == tid && e.2.v && !l2Static e.2.data && q e.2.data
  let odd := s.fwd.strays.filter fun e => e.1 / 2 ^ 40 == i && e.1 % 2 ^ 40 / 2 ^ 24 == tid && e.2.any fun d => !l2Static d && q d
  let t := gone.foldl (fun t e => { t with slots := mdel t.slots e.1 }) s
  ({ t with fwd := { t.fwd with strays := odd.foldl (fun m e => mset m e.1 none) t.fwd.strays } }, gone.length + odd.length)

/-- The learned entry of key `k` in slice `i` is deleted, in both slices during a copy: its slot had bad parity (R206). -/
def State.dropLearned (s : State) (i k : Nat) : State :=
  (s.copySlices i).foldl (fun t j => (t.purgeSlice j fun e => keyOf pgL2 e == k).1) s

/-- Insert a learned entry into slice `i` (R180); `false` where the slice is full. -/
def State.insertLearned (s : State) (i : Nat) (e : Entry) : State × Bool :=
  let tid := 0x200 + i
  match s.insertion pgL2 tid { v := true, e := s.heat.liveE, b := true, rsv := false, data := e } false with
  | some pl => (s.applyWrites tid pl.writes, true)
  | none => (s, false)

/-- Put new data into the slot of slice `i` whose hardware holds key `k`; the shadow of a static slot stays (R207). -/
def State.updateL2 (s : State) (i k : Nat) (f : Entry → Entry) : State :=
  match (s.asSlice i).findKey pgL2 i k s.heat.liveE with
  | some n =>
    match mget s.fwd.strays (i * 2 ^ 40 + slotKey (0x200 + i) n) with
    | some (some d) => s.setStray i (0x200 + i) n (f d)
    | _ =>
      let t := s.slot (0x200 + i) n
      s.setSlot (0x200 + i) n { t with data := f t.data }
  | none => s

/-- A request that finds a learned entry of another port, not pinned, below the flap limit: the move (R189). -/
def State.moveLearned (s : State) (r : LearnReq) (flap : Nat) : State :=
  let p := rolePage r.role
  let k := l2Key r.vid r.mac.toNat
  let s1 := s.count p R.LEARN_MOVE
  let s2 := if s.withinHold r.slice r.vid r.mac.toNat r.time then s1.count p R.DEAD_HEAT else s1
  let win := s.flapWindow
  let ts := s.ageNow
  let upd (e : Entry) : Entry := eSet (eSet (eSet (eSet e 68 64 r.port) 89 86 (flap + 1)) 119 112 win) 111 96 ts
  ((s.copySlices r.slice).foldl (fun t i => t.updateL2 i k upd) s2).noteLearn r.slice r.vid r.mac.toNat r.time

/-- Serve a learn request against the table as it stands in the hardware of the slice (R184, R189 to R191, R207). -/
def State.serveLearn (s : State) (r : LearnReq) : State :=
  let p := rolePage r.role
  let mac := r.mac.toNat
  let k := l2Key r.vid mac
  let h := s.asSlice r.slice
  let any := ((List.range 4).map (s.place pgL2 k)).find? fun i =>
    (h.slot (0x200 + r.slice) i).v && keyOf pgL2 (h.slot (0x200 + r.slice) i).data == k
  let pending := s.loadedChanges.any fun c => c.tbls.any fun t => t.page == pgL2 && t.key == k
  if pending then s
  else
    match any with
    | none =>
      let e := learnedEntry r.vid mac r.port s.ageNow s.flapWindow
      let (s1, ok) := s.insertLearned r.slice e
      if ok then
        let s2 := ((s.copySlices r.slice).filter (· != r.slice)).foldl (fun t i => (t.insertLearned i e).1) s1
        (s2.count p R.LEARN_NEW).noteLearn r.slice r.vid mac r.time
      else (s.count p R.LEARN_FULL).raise p 1
    | some i =>
      let sl := h.slot (0x200 + r.slice) i
      let e := sl.data
      if l2Static e || !sl.b then s
      else if l2Port e == r.port then
        (s.copySlices r.slice).foldl (fun t j => t.updateL2 j k fun d => eSet d 111 96 s.ageNow) s
      else if l2Pinned e then s.countSat p R.FLAPS_PINNED_MOVE
      else
        let flap := if l2Fwin e == s.flapWindow then l2Flap e else 0
        if flap < s.flapLimit then s.moveLearned r flap
        else
          let s1 := (s.copySlices r.slice).foldl (fun t j => t.updateL2 j k fun d => eSet d 78 78 1) s
          ((s1.countSat p R.FLAPS_MAC_FLAP).raise p 0).captureInternal p R.FLAPS_MAC_FLAP.off Code.MAC_FLAP

/-- A lookup meets the learned entry of its source address on its own port: TS follows (R191, R194; log entry 156), but not of an entry that
a loaded heat deletes (R184). -/
def State.refresh (s : State) (i k : Nat) : State :=
  let now := s.ageNow
  let h := s.asSlice i
  let stays := (h.findKey pgL2 i k s.heat.liveE).any fun n => (h.slot (0x200 + i) n).b
  if stays then (s.copySlices i).foldl (fun t j => t.updateL2 j k fun d => if l2Ts d == now then d else eSet d 111 96 now) s else s

/-- Queue a learn request (R187, R188). -/
def State.queueLearn (s : State) (r : LearnReq) : State :=
  let same := match (s.asSlice r.slice).getKey pgL2 r.slice (l2Key r.vid r.mac.toNat) s.heat.liveE with
    | some e => !l2Static e && l2Port e == r.port
    | none => false
  if same && s.withinHold r.slice r.vid r.mac.toNat r.time then s
  else if (s.fwd.learnQ.filter fun x => x.slice == r.slice).length ≥ 64 then s.count (rolePage r.role) R.LEARN_Q_FULL
  else { s with fwd := { s.fwd with learnQ := s.fwd.learnQ ++ [r] } }

/-- One aging sweep of slice `i` for role page `p` (R195). -/
def State.ageSlice (s : State) (i p : Nat) : State :=
  let limit := s.fld pgFwd R.FWD_AGE_CFG_AGE_LIMIT
  if limit == 0 then s
  else
    let now := s.ageNow
    let q (e : Entry) : Bool := Nat.ble limit ((now + 65536 - l2Ts e) % 65536)
    let (s1, n) := s.purgeSlice i q
    (((s.copySlices i).filter (· != i)).foldl (fun t j => (t.purgeSlice j q).1) s1).countN p R.AGED n

/-- A flush of role `r` is running. -/
def State.flushRuns (s : State) (r : Nat) : Bool := (mget s.fwd.flushes r).any fun t => s.time.tl < t

/-- A flush of role `r` in slice `i` (R193), and FLUSH_DONE. Its command shows what it does at once; how long it runs, up to 100 µs, is a free value
(DESIGN CHOICE, log entry 155). -/
def State.flush (s : State) (r i : Nat) (byPort : Option Nat) (byVid : Option Nat) : State :=
  let q (e : Entry) : Bool :=
    (match byPort with | some p => l2Port e == p | none => true)
      && (match byVid with | some v => l2Vid e == v | none => true)
  let s1 := if i < 3 then (s.copySlices i).foldl (fun t j => (t.purgeSlice j q).1) s else s
  let until_ := s.time.tl + (Config.flushTime s.time.tl).toNat % (usT 100 + 1)
  ({ s1 with fwd := { s1.fwd with flushes := mset s1.fwd.flushes r until_ } }).raise (rolePage r) 2

/-- The flush that a link fall on port `n` starts (R193). -/
def State.flushOnDown (s : State) (n : Nat) : State :=
  if s.flag pgPort (R.FWD_PORT_FLUSH_ON_DOWN n) then
    let r := s.roleOf s.heat.liveE n
    s.flush r (s.servingSlice r) (some n) none
  else s

/-- The purge of a slice at settle (R185): VIDs without a valid entry, and ports no longer members. -/
def State.purgeSettled (s : State) (i : Nat) : State :=
  (s.purgeSlice i fun e =>
    match (s.asSlice i).pairGet pgVlan (l2Vid e) s.heat.liveE with
    | some v => !bit (eBits v 29 0) (l2Port e)
    | none => true).1

/-- WRITE_DIRECT of a learned entry through a role page: insert, update or delete (the text after R192). An entry that it inserts carries the
present tick as TS and the present window as FWIN and none of the static flags of DATA2, and counts as learned now (DESIGN CHOICE, log entry
194). -/
def State.writeLearned (s : State) (r : Nat) (d : Entry) : State × Nat :=
  let i := s.servingSlice r
  let k := keyOf pgL2 d
  match (s.asSlice i).getKey pgL2 i k s.heat.liveE with
  | some e =>
    if l2Static e then (s, Code.L2_KEY_STATIC)
    else if eBit d 127 then
      ((s.copySlices i).foldl (fun t j => t.updateL2 j k fun x =>
        eSet (eSet (eSet (eSet x 68 64 (l2Port d)) 76 69 (l2Qual d)) 78 78 (b2n (l2Pinned d))) 89 86 (l2Flap d)) s, 0)
    else (s.dropLearned i k, 0)
  | none =>
    if eBit d 127 then
      let base := learnedEntry (l2Vid d) (eBits d 47 0) (l2Port d) s.ageNow s.flapWindow
      let e := eSet (eSet (eSet base 76 69 (l2Qual d)) 78 78 (b2n (l2Pinned d))) 89 86 (l2Flap d)
      let (s1, ok) := s.insertLearned i e
      if ok then
        let s2 := ((s.copySlices i).filter (· != i)).foldl (fun t j => (t.insertLearned j e).1) s1
        (s2.noteLearn i (l2Vid d) (eBits d 47 0) s.time.tl, 0)
      else ((s.count (rolePage r) R.LEARN_FULL).raise (rolePage r) 1, 0)
    else (s, 0)

/-- Copy the learned entries of slice `a`, with the times they record, into slice `b` (R209). -/
def State.copyLearned (s : State) (a b : Nat) : State :=
  let src := (s.asSlice a).slots.filter fun e => e.1 / 2 ^ 24 == 0x200 + a && e.2.v && e.2.b && !l2Static e.2.data
  let times := (s.fwd.learned.filter fun e => e.1 / 2 ^ 60 == a).foldl (fun m e => mset m (b * 2 ^ 60 + e.1 % 2 ^ 60) e.2)
    (mkeep s.fwd.learned fun k => k / 2 ^ 60 != b)
  src.foldl (fun t e => (t.insertLearned b e.2.data).1) { s with fwd := { s.fwd with learned := times } }

end Sys2Proof.Machine
end

