-- ==== Sys2Proof/Machine/Lookup.lean ====
section
/-! DEFINITION. The slice (chapter 06): the forwarding decision of a frame (R174, R196 to R205), mirror copies (R208), the copies
for the host and the logger (R384), and steps 5 to 8 of R214. -/

namespace Sys2Proof.Machine

/-- Which reads of the lookup met bad parity (R206). -/
structure BadParity where
  vlan : Bool
  da : Bool
  sa : Bool
  group : Bool
  route : Bool
  hopVlan : Bool := false

/-- Fields of a VLAN entry. -/
def vMember (e : Entry) : Nat := eBits e 29 0
def vUntag (e : Entry) : Nat := eBits e 61 32
def vLearn (e : Entry) : Bool := eBit e 64
def vL3 (e : Entry) : Bool := eBit e 65
def vFlood (e : Entry) : Bool := eBit e 66
def vDiag (e : Entry) : Bool := eBit e 67
def vAllow (e : Entry) : Bool := eBit e 68
def vMirrorEn (e : Entry) : Bool := eBit e 69
def vMirrorSess (e : Entry) : Nat := eBits e 72 70
def vHostq (e : Entry) : Nat := eBits e 80 73

/-- Fields of a next-hop entry. -/
def nhPort (e : Entry) : Nat := eBits e 4 0
def nhVid (e : Entry) : Nat := eBits e 16 5
def nhUntag (e : Entry) : Bool := eBit e 17
def nhDiag (e : Entry) : Bool := eBit e 18
def nhAllow (e : Entry) : Bool := eBit e 19
def nhMirrorEn (e : Entry) : Bool := eBit e 20
def nhMirrorSess (e : Entry) : Nat := eBits e 23 21
def nhHostq (e : Entry) : Nat := eBits e 31 24
def nhMac (e : Entry) : Nat := eBits e 79 32
def nhNull (e : Entry) : Bool := eBit e 80

/-- A forwarding decision (R199): a drop code (0 none), the destinations as a MEMBER mask, the H0 queue, the untag mask, the VID, the
route taken (next hop entry), the mirror sessions named by the entries, the flags DIAG (of any entry used) and ALLOW (of all of
them), flooded; a learn wish (R186), and a refresh of the source's learned entry. -/
structure Decision where
  code : Nat
  dests : Nat
  hostq : Nat
  untag : Nat
  vid : Nat
  hop : Option Entry
  sess : List Nat
  diag : Bool
  allow : Bool
  flooded : Bool
  learn : Bool
  refresh : Bool
  deriving DecidableEq, Repr

/-- A frame that is dropped with `code` (0: none yet) and goes nowhere. -/
def Decision.drop (code vid : Nat) : Decision :=
  { code := code, dests := 0, hostq := 0, untag := 0, vid := vid, hop := none, sess := [], diag := false, allow := false
    flooded := false, learn := false, refresh := false }

/-! ### The trie (R201) -/

/-- A trie entry: child, next hop, leaf. -/
def tChild (e : Entry) : Nat := eBits e 13 0
def tNh (e : Entry) : Nat := eBits e 25 14
def tLeaf (e : Entry) : Bool := eBit e 26

/-- The slot pair number of a stage and index. -/
def trieIndex (stage idx : Nat) : Nat := stage * 2 ^ 18 + idx

/-- The walk of R201 from stage `k`. `w` bits of address per stage after the first, `last` the last stage, `da` the address as a
number whose bit `w * (last − k)` starts stage `k`'s bits. -/
def State.trieWalk (s : State) (x : Bool) (p w last top da fuel k idx : Nat) (best : Option Nat) : Option Nat :=
  match fuel with
  | 0 => best
  | fuel + 1 =>
    match s.pairGet p (trieIndex k idx) x with
    | none => best
    | some e =>
      let b := if tLeaf e then some (tNh e) else best
      if k == last || tChild e == 0 then b
      else
        let lo := top - 16 - w * (k + 1)
        s.trieWalk x p w last top da fuel (k + 1) (tChild e * 2 ^ w + bits da (lo + w - 1) lo) b

/-- The longest prefix match of an address. -/
def State.trieLookup (s : State) (x : Bool) (v6 : Bool) (da : Nat) : Option Nat :=
  if v6 then s.trieWalk x 0x08D 8 6 128 da 7 0 (bits da 127 112) none
  else s.trieWalk x 0x08C 4 4 32 da 5 0 (bits da 31 16) none

/-- The next hop of a destination address (R200): exact, trie, default of the family. -/
def State.route (s : State) (x : Bool) (v6 : Bool) (da : Nat) : Option Nat :=
  let key := if v6 then da else da * 2 ^ 96
  let exact := (s.getKey pgHost s.readSlice key x).map fun e => eBits e 139 128
  let dflt := if v6 then
      (if s.flagAt x pgFwd R.FWD_DEF_NH_EN6 then some (s.fldAt x pgFwd R.FWD_DEF_NH_NH6) else none)
    else (if s.flagAt x pgFwd R.FWD_DEF_NH_EN4 then some (s.fldAt x pgFwd R.FWD_DEF_NH_NH4) else none)
  (exact.or (s.trieLookup x v6 da)).or dflt

/-- The router's address. -/
def State.routerMac (s : State) (x : Bool) : Nat :=
  s.fldAt x pgFwd R.FWD_ROUTER_MAC_HI * 2 ^ 32 + (s.rdAt x pgFwd R.FWD_ROUTER_MAC_LO.off).toNat

/-- A multicast IP destination. -/
def ipMulticast (v6 : Bool) (da : Nat) : Bool := if v6 then bits da 127 120 == 255 else bits da 31 28 == 14

/-! ### Modes (R197) -/

/-- The code with which flags DIAG and ALLOW of an entry stop a frame, 0 for none. -/
def State.modeCode (s : State) (diag allow : Bool) : Nat :=
  if diag && s.mode.service != .diagnose then Code.DIAG_ONLY
  else if s.mode.trust == .quarantine && !(allow || (diag && s.mode.service == .diagnose)) then Code.QUARANTINE_BLOCKED
  else 0

/-! ### The decision -/

/-- The next hop's entry of a routed frame. -/
def State.hopOf (s : State) (x : Bool) (h : IpHead) : Option Entry := (s.route x h.v6 h.dst).bind fun n => s.pairGet pgNh n x

/-- A routed frame (R200, R205). A result whose next-hop entry is empty drops with ROUTE_MISS, as where there is no result (DESIGN CHOICE, log
entry 157: R200 names no code for it). Of several reasons to drop it, ROUTE_MISS and NULL_ROUTE come before TTL_EXPIRED, and that before the codes
of R197 and VLAN_EGRESS (DESIGN CHOICE, log entry 193). `v`: the entry of the VLAN it came in. -/
def State.decideRoute (s : State) (f : Frame) (h : IpHead) (v : Entry) (vid : Nat) (bad : BadParity) (sess : List Nat) : Decision :=
  let drop (c : Nat) : Decision := Decision.drop c vid
  if h.bad then drop Code.IP_HEADER
  else if bad.route then drop Code.LOOKUP_PARITY
  else
    match s.route f.epoch h.v6 h.dst with
    | none => drop Code.ROUTE_MISS
    | some n =>
      match s.pairGet pgNh n f.epoch with
      | none => drop Code.ROUTE_MISS
      | some e =>
        let m := s.modeCode (nhDiag e) (nhAllow e)
        if nhNull e then drop Code.NULL_ROUTE
        else if h.ttl ≤ 1 then drop Code.TTL_EXPIRED
        else if m != 0 then drop m
        else if bad.hopVlan then drop Code.VLAN_UNKNOWN
        else
          match s.pairGet pgVlan (nhVid e) f.epoch with
          | none => drop Code.VLAN_EGRESS
          | some out =>
            if !bit (vMember out) (nhPort e) then drop Code.VLAN_EGRESS
            else { drop 0 with
                   dests := 2 ^ nhPort e, hostq := nhHostq e, untag := if nhUntag e then 2 ^ nhPort e else 0
                   vid := nhVid e, hop := some e, diag := vDiag v || nhDiag e, allow := vAllow v && nhAllow e
                   sess := if nhMirrorEn e then sess ++ [nhMirrorSess e] else sess }

/-- The members of a destination set other than the ingress port, as a mask. The relay engine, source 29, is no member of a VLAN. -/
def without (mask port : Nat) : Nat := if port < 29 && bit mask port then mask - 2 ^ port else mask

/-- A bridged frame (R196): `hit` the DA entry. A broadcast goes to every member also where its address has an entry, whose DA_DROP, flags
and mirror apply. Of several reasons to drop a unicast frame DA_DROP comes first, then the codes of R197, SAME_PORT and VLAN_EGRESS (DESIGN CHOICE,
log entry 193). A multicast hit goes to those of its entry's ports that are members, without a drop (DEDUCED, log entry 158: steps
3 and 4 name unicast hits only). A copy for H0 that a group names takes the VLAN's HOSTQ (DESIGN CHOICE, log entry 159: QUAL holds
the group's index). -/
def State.decideBridge (s : State) (f : Frame) (p : Parsed) (v : Entry) (vid : Nat) (hit : Option Entry) (badGroup : Bool)
    (sess : List Nat) : Decision :=
  let drop (c : Nat) : Decision := Decision.drop c vid
  let base : Decision := { drop 0 with untag := vUntag v, sess := sess, diag := vDiag v, allow := vAllow v }
  let flood (d : Decision) : Decision := { d with dests := without (vMember v) f.src, hostq := vHostq v, flooded := true }
  match hit with
  | some e =>
    let m := if l2Static e then s.modeCode (l2Diag e) (l2Allow e) else 0
    let d : Decision := { base with
      sess := if l2MirrorEn e then sess ++ [l2MirrorSess e] else sess
      diag := vDiag v || (l2Static e && l2Diag e), allow := vAllow v && (!l2Static e || l2Allow e) }
    if l2DaDrop e then drop Code.DA_DROP
    else if m != 0 then drop m
    else if isBroadcast p.da then flood d
    else if l2Port e == 30 then
      let g := if badGroup then 0 else ((s.pairGet pgGroup (l2Qual e) f.epoch).map fun x => eBits x 29 0).getD 0
      { d with dests := without (Nat.land g (vMember v)) f.src, hostq := vHostq v }
    else if isGroup p.da then { d with dests := without (Nat.land (2 ^ l2Port e) (vMember v)) f.src, hostq := l2Qual e }
    else if f.src < 29 && l2Port e == f.src then drop Code.SAME_PORT
    else if !bit (vMember v) (l2Port e) then drop Code.VLAN_EGRESS
    else { d with dests := 2 ^ l2Port e, hostq := l2Qual e }
  | none => if isGroup p.da || vFlood v then flood base else drop Code.UNKNOWN_UC

/-- The decision on a frame (R174, R186, R196, R197, R200). -/
def State.decide (s : State) (f : Frame) (p : Parsed) (slice : Nat) (bad : BadParity) : Decision :=
  let x := f.epoch
  let vid := s.frameVid f p
  let port (g : Nat → Fld) : Bool := f.src < 28 && s.flagAt x pgPort (g f.src)
  let tagged := match vidTag (port R.FWD_PORT_INNER_VID) p with
    | some t => t.vid != 0
    | none => false
  let vlan := if vid == 4095 || bad.vlan then none else s.pairGet pgVlan vid x
  match vlan with
  | none => Decision.drop Code.VLAN_UNKNOWN vid
  | some v =>
    let saHit := if bad.sa then none else s.getKey pgL2 slice (l2Key vid p.sa) x
    let moved := match saHit with
      | some e => !l2Static e && l2Port e != f.src
      | none => true
    let mayLearn := f.src < 28 && !isGroup p.sa && port R.FWD_PORT_LEARN_EN && vLearn v
    let staticElsewhere := match saHit with
      | some e => l2Static e && l2Port e != f.src
      | none => false
    let m := s.modeCode (vDiag v) (vAllow v)
    let sess := if vMirrorEn v then [vMirrorSess v] else []
    let result :=
      if f.src < 28 && !bit (vMember v) f.src then Decision.drop Code.VLAN_INGRESS vid
      else if (tagged && port R.FWD_PORT_DROP_TAGGED) || (!tagged && port R.FWD_PORT_DROP_UNTAGGED) then Decision.drop Code.FRAME_TYPE vid
      else if port R.FWD_PORT_SA_STATIC_DROP && staticElsewhere then Decision.drop Code.SA_STATIC vid
      else if m != 0 then Decision.drop m vid
      else
        let bridged := s.decideBridge f p v vid (if bad.da then none else s.getKey pgL2 slice (l2Key vid p.da) x) bad.group sess
        match p.ip with
        | some h => if vL3 v && p.da == s.routerMac x && !ipMulticast h.v6 h.dst then s.decideRoute f h v vid bad sess else bridged
        | none => bridged
    { result with learn := mayLearn && moved, refresh := mayLearn && saHit.any fun e => !l2Static e && l2Port e == f.src }

/-- The drop counter of the role page for a code. -/
def dropCounter (code : Nat) : Option Fld :=
  if code == Code.VLAN_UNKNOWN then some R.DROP_VLAN_UNKNOWN
  else if code == Code.VLAN_EGRESS then some R.DROP_VLAN_EGRESS
  else if code == Code.UNKNOWN_UC then some R.DROP_UNKNOWN_UC
  else if code == Code.SAME_PORT then some R.DROP_SAME_PORT
  else if code == Code.SA_STATIC then some R.DROP_SA_STATIC
  else if code == Code.DA_DROP then some R.DROP_DA_DROP
  else if code == Code.ROUTE_MISS then some R.DROP_ROUTE_MISS
  else if code == Code.NULL_ROUTE then some R.DROP_NULL_ROUTE
  else if code == Code.TTL_EXPIRED then some R.DROP_TTL_EXPIRED
  else if code == Code.IP_HEADER then some R.DROP_IP_HEADER
  else if code == Code.LOOKUP_PARITY then some R.DROP_LOOKUP_PARITY
  else none

/-- Count a frame dropped at the lookup on its role's page. -/
def State.countLookupDrop (s : State) (r code : Nat) : State :=
  let p := rolePage r
  let s1 := s.drop code
  if code == Code.VLAN_INGRESS then s1.countSat p R.DROP_VLAN_TYPE_INGRESS
  else if code == Code.FRAME_TYPE then s1.countSat p R.DROP_VLAN_TYPE_FRAME_TYPE
  else match dropCounter code with
    | some c => s1.count p c
    | none => s1

/-! ### Copies -/

/-- The bytes of a frame as port `n` sends them (R198, R205). -/
def State.egressBytes (s : State) (f : Frame) (p : Parsed) (d : Decision) (n : Nat) : List Byte :=
  let x := f.epoch
  let l0 := if f.markDei then markTags p f.bytes else f.bytes
  let l1 := match d.hop, p.ip with
    | some h, some ip => readdress (nhMac h) (s.routerMac x) (hopDown ip l0)
    | _, _ => l0
  let g := s.givingTag f p
  let l2 := match d.hop, g with
    | some _, some t => putBytes l1 t.off (tagBytes t.tpid t.pcp d.vid (t.dei || f.markDei))
    | _, _ => l1
  if d.hop.isSome && bit d.untag n then untagAll p l2
  else retag (bit d.untag n) g (s.fldAt x pgPort R.FWD_TPID_C_TPID) f.pcp d.vid f.markDei l2

/-- A frame may be sent from port `n` before its end was checked (R24). -/
def State.cutThrough (s : State) (f : Frame) (n : Nat) : Bool :=
  f.src < 28 && !f.frag && s.flagAt f.epoch (macPage f.src) R.MAC_CFG_CUT_THROUGH && !s.secRx f.src
    && s.byteTime n ≥ s.byteTime f.src

/-- A copy for port `n`. -/
def copyOf (f : Frame) (bytes : List Byte) (ct : Bool) : Copy :=
  { packet := 0, bytes := bytes, oversize := f.oversize, early := f.early && ct, bad := f.bad && ct, tx := f.tx
    ended := f.ended, ptp := none, fcs := f.bad && ct && f.fcs }

/-- The sessions of a frame's mirror copies, each once (R208). -/
def State.mirrorSessions (s : State) (f : Frame) (d : Decision) : List Nat :=
  let x := f.epoch
  (List.range 8).filter fun k =>
    (d.sess.contains k
      || (if f.src < 28 then bit (s.fldAt x 0x082 (R.MIR_IN_PORTS k)) f.src
          else f.src == 28 && s.flagAt x 0x082 (R.MIR_IN_H0 k))
      || Nat.land (s.fldAt x 0x082 (R.MIR_EG k)) d.dests != 0)
    && s.fldAt x 0x082 (R.MIR_CFG_DEST k) < 30

/-- The bytes `l` of a frame, cut to TRUNC of session `k`. -/
def State.mirrorBytes (s : State) (f : Frame) (k : Nat) (l : List Byte) : List Byte :=
  let t := s.fldAt f.epoch 0x082 (R.MIR_CFG_TRUNC k)
  if t == 0 then l else l.take (if t < 64 then 64 else t)

/-! ### Copies for receive rings (R384) -/

/-- Cells that the queue of a receive ring holds. -/
def Ring.held (r : Ring) : Nat := (r.queue.map (·.cells)).sum

/-- The page of a function's rings. -/
def fnPage (fn : Nat) : Nat := 0x028 + fn

/-- The function and ring of an H0 queue number. -/
def hostqFn (q : Nat) : Nat := bits q 7 4
def hostqRing (q : Nat) : Nat := bits q 3 0

/-- Count a drop at a receive ring. -/
def State.ringDrop (s : State) (fn r code : Nat) : State := ((s.count (fnPage fn) (R.RING_DROP r)).drop code)

/-- What becomes of a copy toward a receive ring: the state and a drop code (0: queued). -/
def State.toRing (s : State) (fn r : Nat) (x : RxItem) (newCells : Nat) : State × Nat :=
  if fn > 10 || (fn == 10 && r > 7) || !s.on 4 then (s.drop Code.RING_DISABLED, Code.RING_DISABLED)
  else if !s.fnOn fn then (s.ringDrop fn r Code.RING_DISABLED, Code.RING_DISABLED)
  else if !s.flag (fnPage fn) (R.RING_CFG_EN r) || s.flag (fnPage fn) (R.RING_STAT_STOPPED r) then
    (s.ringDrop fn r Code.RING_DISABLED, Code.RING_DISABLED)
  else
    let q := s.ring fn r
    if q.held + x.cells > s.fld (fnPage fn) (R.RING_LIMIT r) || s.freeCells < s.reserveCells + newCells then
      (s.ringDrop fn r Code.HOSTQ_FULL, Code.HOSTQ_FULL)
    else (s.setRing fn r { q with queue := q.queue ++ [x] }, 0)

/-- A frame copy for a ring. -/
def State.rxItem (s : State) (f : Frame) (bytes : List Byte) (vid : Nat) (mirror : Option Nat) : RxItem :=
  let keep := f.src < 28 && !f.oversize && s.flagAt f.epoch (macPage f.src) R.MAC_CFG_HOST_FCS
  let cells := cellsOf f.len
  { packet := none, cells := cells, bytes := if keep then bytes ++ fcsOf bytes else bytes, oversize := f.oversize
    mirror := mirror, fcsKept := keep, src := f.src, prio := f.prio, vid := vid, stamp := f.stamp, pdu := none, deadline := none }

/-- Hold one more copy of a packet, storing it first where it is not yet. -/
def State.holdPacket (s : State) (k : Option Nat) (cells src prio : Nat) : State × Nat :=
  match k with
  | some n =>
    match mget s.fwd.packets n with
    | some p => ({ s with fwd := { s.fwd with packets := mset s.fwd.packets n { p with copies := p.copies + 1 } } }, n)
    | none => (s, n)
  | none =>
    let n := s.fwd.nextPacket
    let pk : Packet := { cells := cells, src := src, prio := prio, copies := 1 }
    ({ s with fwd := { s.fwd with packets := mset s.fwd.packets n pk, nextPacket := n + 1 } }, n)

/-- Send a frame copy to a ring; the state, the packet that now holds the frame, the code. -/
def State.frameToRing (s : State) (k : Option Nat) (fn r : Nat) (x : RxItem) : State × Option Nat × Nat :=
  let (_, code) := s.toRing fn r x (if k.isSome then 0 else x.cells)
  if code != 0 then ((s.toRing fn r x (if k.isSome then 0 else x.cells)).1, k, code)
  else
    let (s1, n) := s.holdPacket k x.cells x.src x.prio
    ((s1.toRing fn r { x with packet := some n } 0).1, some n, 0)

/-- A mirror copy of session `k` (R208): the frame as received, cut to TRUNC, for a lane or for an H0 queue or P1 ring `k`. -/
def State.mirrorOf (s : State) (f : Frame) (vid k : Nat) : MirrorTo :=
  let x := f.epoch
  let dest := s.fldAt x 0x082 (R.MIR_CFG_DEST k)
  if dest < 28 then
    .lane dest (s.laneFor x dest f.prio) (copyOf { f with tx := none } (s.mirrorBytes f k f.bytes) false)
  else
    let hq := s.fldAt x 0x082 (R.MIR_CFG_HOSTQ k)
    let it := s.rxItem f f.bytes vid (some k)
    let b := s.mirrorBytes f k it.bytes
    .ring (if dest == 28 then hostqFn hq else 10) (if dest == 28 then hostqRing hq else k)
      { it with bytes := b, fcsKept := it.fcsKept && b.length == it.bytes.length }

/-- Queue one mirror copy of a frame of `cells` cells; it counts in MIR_DROP where it finds no room, and one for a ring drops with the ring's code
(R208, R384; DEDUCED, log entry 202). The state and the packet that holds the frame. -/
def State.mirrorCopy (s : State) (b : Paced) (pkt : Option Nat) (m : Nat × MirrorTo) : State × Option Nat :=
  let fail (t : State) : State := (t.count 0x082 (R.MIR_DROP m.1)).drop Code.MIRROR_DROP
  match m.2 with
  | .lane n i c =>
    if !s.up (portDomain n) || s.laneCells n i + b.cells > s.fld (lanePage n) (R.LANE_BUF_MAX_CELLS i)
        || (pkt.isNone && s.freeCells < s.reserveAfter b.cells [(n, i, c)] + b.cells) then (fail s, pkt)
    else
      let (s1, q) := s.holdPacket pkt b.cells b.src b.prio
      (s1.enqueue n i { c with packet := q }, some q)
  | .ring fn r x =>
    let (s1, q, code) := s.frameToRing pkt fn r x
    if code != 0 then (s1.count 0x082 (R.MIR_DROP m.1), pkt) else (s1, q)

/-! ### Steps 5 to 8 -/

/-- The outcome of a transmit frame before or at admission is known (R387): its ports, or its status. -/
def State.txAdmitted (s : State) (t : Option TxRef) (code : Nat) (ports : List Nat) : State :=
  match t with
  | none => s
  | some r => s.updWait r fun w =>
      if r.ts && code == 0 then ({ w with ports := ports, granted := true }).settle
      else { w with status := if w.status == 0 then code else w.status, known := true }

/-- The enabled receive stream whose stream_id a frame carries (R302): its number and KEEP_ETH. -/
def State.acfStream (s : State) (x : Bool) (p : Parsed) : Option (Nat × Bool) :=
  match p.stream with
  | none => none
  | some id => (List.range 64).findSome? fun k =>
      match s.pairGet 0x157 k x with
      | some e => if eBit e 0 && eBit e 1 && eBits e 95 32 == id then some (k, eBit e 4) else none
      | none => none

/-- A port of the destination set whose domain is off is left out, counted with SHED_DOMAIN (R46), which the descriptor of a transmit frame
learns (R387). -/
def State.poweredPorts (s : State) (mask : Nat) (tx : Option TxRef) : State × List Nat :=
  (List.range 28).foldl (fun a n =>
    if bit mask n then
      if a.1.up (portDomain n) then (a.1, a.2 ++ [n]) else ((a.1.drop Code.SHED_DOMAIN).txDropped tx n Code.SHED_DOMAIN, a.2)
    else a) (s, [])

/-- Step 8: the copies of a frame are queued, `need` cells at the grant (R226, R227); every copy refers to the same cells (R33). -/
def State.admitBundle (s : State) (b : Paced) (need : Nat) : State :=
  let a := s.bufferAdmit need b.cells b.src b.prio b.alone b.copies
  let held (n : Nat) : Bool := a.packet.isSome
    && (a.st.fwd.lanes.any fun e => e.1 / 8 == n && e.2.q.any fun c => some c.packet == a.packet)
  let s1 := a.st.txAdmitted b.tx a.code ((b.copies.map (·.1)).filter held)
  let toHost (t : State × Option Nat) (e : Nat × Nat × RxItem) : State × Option Nat :=
    let (u, k, _) := t.1.frameToRing t.2 e.1 e.2.1 e.2.2
    (u, k)
  (b.mirrors.foldl (fun t m => t.1.mirrorCopy b t.2 m) (b.rings.foldl toHost (s1, a.packet))).1

/-- Step 7: a frame whose filter names a flow pacer enters its FIFO, is dropped whole, or passes straight on, as
it does where the live heat has switched the pacer off (R229). -/
def State.paceBundle (s : State) (f : Frame) (b : Paced) : State :=
  let need := if f.early && b.copies.any (fun e => e.2.2.early) then cellsOf (s.maxLen f.src) else b.cells
  match f.pacer with
  | none => s.admitBundle b need
  | some k =>
    if !s.up 10 then (s.drop Code.SHED_DOMAIN).txAdmitted f.tx Code.SHED_DOMAIN []
    else
      match (s.pairGet pgPacer k f.epoch).filter fpEn with
      | some e =>
        if ((s.pairGet pgPacer k s.heat.liveE).filter fpEn).isNone then s.admitBundle b need
        else
        let (s1, code) := s.pace k e b
        if code != 0 then s1.txAdmitted f.tx code [] else s1
      | none => s.admitBundle b need

/-- The copies of a frame for the host and the logger: function, ring, item. -/
def State.hostCopies (s : State) (f : Frame) (p : Parsed) (d : Decision) : List (Nat × Nat × RxItem) :=
  let item (n : Nat) : RxItem := s.rxItem f (s.egressBytes f p d n) (s.frameVid f p) none
  (if bit d.dests 28 then [(hostqFn d.hostq, hostqRing d.hostq, item 28)] else [])
    ++ (if bit d.dests 29 then [(10, 0, item 29)] else [])

/-- The frame's result in effect (R199, R208, R225, R226): its copies, paced or queued. Of a frame found bad after its grant only the copies
that cut through remain; the drop of the others for a bad FCS counts once (R142). `sess`: the sessions that mirror it (R208). -/
def State.deliver (s : State) (f : Frame) (p : Parsed) (d : Decision) (sess : List Nat) : State :=
  let (s1, ports) := s.poweredPorts d.dests f.tx
  let one (n : Nat) : Nat × Nat × Copy := (n, s.laneFor f.epoch n f.prio, copyOf f (s.egressBytes f p d n) (s.cutThrough f n))
  let usable := ports.filter fun n => !f.bad || s.cutThrough f n
  let rings := if f.bad then [] else s.hostCopies f p d
  let mirrors := if f.bad then [] else sess.map fun k => (k, s.mirrorOf f (s.frameVid f p) k)
  let bare := f.bad && (usable.length < ports.length || !(s.hostCopies f p d).isEmpty || !sess.isEmpty)
  let s2 := if bare then (if f.fcs then s1.count (macPage f.src) R.RX_FCS_ERR else s1).drop Code.MAC_FCS else s1
  let shed := ports.isEmpty && (List.range 28).any (bit d.dests)
  if usable.isEmpty && rings.isEmpty && mirrors.isEmpty then s2.txAdmitted f.tx (if shed then Code.SHED_DOMAIN else 0) []
  else
    s2.paceBundle f
      { cells := cellsOf f.len, len := f.len, src := f.src, prio := f.prio
        copies := (usable.map one).map fun e => (e.1, e.2.1, { e.2.2 with fcs := e.2.2.fcs && !bare })
        rings := rings, mirrors := mirrors
        alone := rings.isEmpty && mirrors.isEmpty && (List.range 28).all (fun n => !bit d.dests n || usable.contains n), tx := f.tx }

/-- The place in the memories of slice `i` of the hardware slot `key`, which the spec leaves open: a free value of the configuration. -/
def slotPlace (i key : Nat) : Repair :=
  let x := Config.slotPlace key
  { mem := (5 + i) * 4096 + x.1.toNat, addr := x.2.1.toNat, bit := x.2.2.toNat, column := false }

/-- The shadow compare rewrites slot `n` of array `tid` of slice `i`, found with bad parity, from the shadow (R206); a slot that it has
rewritten so before enters a repair record (R437). -/
def State.rewriteSlot (s : State) (i tid n : Nat) : State :=
  let key := i * 2 ^ 40 + slotKey tid n
  let t := (s.dropStray i tid n).count (slicePage i) R.SHADOW_REPAIR
  if s.test.rewritten.contains key then t.repairAtBoot (slotPlace i key)
  else { t with test := { t.test with rewritten := t.test.rewritten ++ [key] } }

/-- Slot `k` of array `tid` was found bad by a lookup of slice `i`: the shadow compare rewrites a static one at once (R206). -/
def State.repairSlot (s : State) (i tid : Nat) (k : Option Nat) : State :=
  match k with
  | some n => s.rewriteSlot i tid n
  | none => s

/-- An L2 slot was found bad: a static one is rewritten, a learned one deleted. -/
def State.badL2 (s : State) (i k : Nat) (x : Bool) : State :=
  if (s.getKey pgL2 i k x).any l2Static then s.repairSlot i (0x200 + i) (s.findKey pgL2 i k x) else s.dropLearned i k

/-- What the reads with bad parity of one lookup leave (R206): one count of PARITY_MISS (log entry 133), and the slots rewritten or deleted. Of
the reads of a route lookup one slot was bad; which one, the walk being the hardware's, is a value of the configuration (log entry 180). -/
def State.badReads (s : State) (i : Nat) (f : Frame) (vid : Nat) (p : Parsed) (bad : BadParity) : State :=
  if !(bad.vlan || bad.da || bad.sa || bad.group || bad.route || bad.hopVlan) then s
  else
    let x := f.epoch
    let s1 := (s.count (slicePage i) R.PARITY_MISS).raise (slicePage i) 0
    let s2 := if bad.vlan then s1.repairSlot i pgVlan (s1.pairSlot pgVlan vid x) else s1
    let group := ((s2.getKey pgL2 i (l2Key vid p.da) x).filter fun e => l2Port e == 30).bind fun e => s2.pairSlot pgGroup (l2Qual e) x
    let s3 := if bad.group then s2.repairSlot i pgGroup group else s2
    let s4 := if bad.da then s3.badL2 i (l2Key vid p.da) x else s3
    let s5 := if bad.sa then s4.badL2 i (l2Key vid p.sa) x else s4
    let s6 := match p.ip with
      | some h =>
        if bad.route then
          let w := Config.routeSlot h.v6 h.dst
          s5.rewriteSlot i w.1 w.2
        else if bad.hopVlan then (match s5.hopOf x h with
          | some e => s5.repairSlot i pgVlan (s5.pairSlot pgVlan (nhVid e) x)
          | none => s5)
        else s5
      | none => s5
    s6

/-- The lookup of a frame (steps 5 to 8 of R214). -/
def State.lookupFrame (s : State) (f : Frame) (bad : BadParity) : State :=
  let p := s.parse f
  let r := s.roleOf f.epoch f.src
  let i := s.servingSlice r
  let stale := f.epoch != s.heat.liveE && s.time.tl > f.stamp.tl + usT 100
  if stale then (s.drop Code.EPOCH_STALE).txAdmitted f.tx Code.EPOCH_STALE []
  else if i ≥ 3 || !s.up (5 + i) then
    let code := if i < 3 then Code.SHED_DOMAIN else Code.SLICE_LOST
    (s.drop code).txAdmitted f.tx code []
  else
    let d := (s.asSlice i).decide f p i bad
    let vid := s.frameVid f p
    let s0 := s.countWide (rolePage r) R.LOOKUPS.off 1
    let s1 := s0.badReads i f vid p bad
    let s2 := if d.learn then
        s1.queueLearn { slice := i, role := r, vid := vid, mac := BitVec.ofNat 48 p.sa, port := f.src, time := s.time.tl,
                         epoch := f.epoch }
      else if d.refresh then s1.refresh i (l2Key vid p.sa)
      else s1
    if d.code != 0 then (s2.countLookupDrop r d.code).txAdmitted f.tx d.code []
    else
      let s3 := if d.flooded then s2.count (rolePage r) R.FLOODED else s2
      match s3.acfStream f.epoch p with
      | some (k, keep) =>
        let s4 := { s3 with fwd := { s3.fwd with acfIn := s3.fwd.acfIn ++ [(k, f)] } }
        s4.deliver f p (if keep then d else { d with dests := 0 }) (s3.mirrorSessions f d)
      | none => s3.deliver f p d (s3.mirrorSessions f d)

end Sys2Proof.Machine
end

