-- ==== Sys2Proof/Machine/Mac.lean ====
section
/-! DEFINITION. The Ethernet MACs (chapter 05): reception, reassembly, link, PAUSE and PFC, verification, PLCA, MDIO. -/

namespace Sys2Proof.Machine

/-- Port `n` is powered and clocked: its MAC from PLL0, its lane from PLL3 or PLL4 (R87). -/
def State.portRuns (s : State) (n : Nat) : Bool :=
  s.up (portDomain n) && s.clocked 0 && (n ≥ 24 || s.clocked (if n < 8 then 3 else 4))

/-- The port takes traffic: a live heat enabled it. -/
def State.portEnabled (s : State) (n : Nat) : Bool := s.flag (macPage n) R.PAGE_CTRL_ENABLE

/-- Frames and PDUs are forwarded (R51). -/
def State.running_ (s : State) : Bool := s.mode.service == .run || s.mode.service == .diagnose

/-- Why an arriving frame or PDU is turned away: ingress is closed from a REST request on (R458), and outside RUN and DIAGNOSE nothing is
forwarded (R51); 0 where it is taken. -/
def State.ingressCode (s : State) : Nat :=
  if s.mode.rest != .awake then Code.REST_ENTRY else if s.running_ then 0 else Code.NOT_RUNNING

/-! ### Reception -/

/-- A frame as the MAC hands it on. -/
def frameOf (n : Nat) (bytes : List Byte) (tooLong early bad frag : Bool) (st : Stamps) (x : Bool) (ended : Nat) : Frame :=
  { bytes := bytes, oversize := tooLong, early := early, bad := bad, frag := frag, src := n, stamp := st, epoch := x, vid := 0
    pcp := 0, prio := 0, markDei := false, pacer := none, tx := none, ended := ended }

/-- Count the octets of a good received frame (R142), whatever becomes of it. -/
def State.goodOctets (s : State) (n len : Nat) : State := s.countWide (macPage n) R.RX_OCTETS.off len

/-- Put a frame on its way to CLASSIFY, after the SecY (R141, R161). -/
def State.toClassify (s : State) (n : Nat) (f : Frame) : State :=
  match s.validateFrame n f.epoch f.bytes with
  | (s1, none) => s1
  | (s1, some b) =>
    if !s1.up 8 then s1.drop Code.SHED_DOMAIN
    else
      let m := macPage n
      let s2 := if f.bad then s1 else s1.countWide m R.MAC_RX_FRAMES.off 1
      { s2 with fwd := { s2.fwd with classQ := s2.fwd.classQ ++ [{ f with bytes := b }] } }

/-- The last four bytes of a frame are its check sequence. -/
def fcsGood (l : List Byte) : Bool := leNat (l.drop (l.length - 4)) == crc32 (l.take (l.length - 4))

/-- A frame from destination address through FCS ends at port `n` (R25, R51, R141 to R143). MAC control frames are told apart by the
callers. A truncated frame, whose FCS is not checked, counts as a good one with the octets kept (DESIGN CHOICE, log entry 150). -/
def State.receiveFrame (s : State) (n : Nat) (l : List Byte) (symErr early frag : Bool) (st : Stamps) (x : Bool) : State :=
  let m := macPage n
  let max := s.maxLen n
  let good : Bool := !symErr && Nat.ble 64 l.length && (Nat.blt max l.length || fcsGood l)
  let s0 := if good then s.goodOctets n (min l.length max) else s
  let code := s.ingressCode
  if code != 0 then (if code == Code.NOT_RUNNING then s0.count m R.RX_NOT_RUNNING else s0).drop code
  else if symErr then
    let s1 := s0.count m R.RX_SYMBOL_ERR
    if early then s1.toClassify n (frameOf n l false true true frag st x s.time.tl) else s1
  else if l.length < 64 then (s0.count m R.RX_UNDERSIZE).drop Code.MAC_UNDERSIZE
  else if l.length > max then
    let s1 := (s0.count m R.RX_OVERSIZE).raise m 4
    s1.toClassify n (frameOf n (l.take max) true early false frag st x s.time.tl)
  else if !fcsGood l then
    if early then s0.toClassify n { frameOf n (l.take (l.length - 4)) false true true frag st x s.time.tl with fcs := true }
    else (s0.count m R.RX_FCS_ERR).drop Code.MAC_FCS
  else s0.toClassify n (frameOf n (l.take (l.length - 4)) false early false frag st x s.time.tl)

/-! ### PAUSE and PFC -/

/-- A time in quanta of 512 bit times at port `n`, in counter units (R153). -/
def State.quanta (s : State) (n q : Nat) : Nat := q * 64 * s.byteTime n * nsUnit / 10

/-- A pause ends: of the port (8) or of a priority. What it held is released (R153). -/
def State.endPause (s : State) (n p : Nat) : State :=
  let m := macPage n
  let s1 := (s.advancePort n).stop (.pause (16 * n + p))
  let s2 := if p == 8 then s1.setB m R.MAC_STAT_PAUSED false
    else s1.setF m R.PFC_STAT_HELD (s.fld m R.PFC_STAT_HELD &&& (255 - 2 ^ p))
  s2.unask n

/-- Load the timer of a pause; a time of 0 ends at once the pause in force. -/
def State.loadPause (s : State) (n p q : Nat) : State :=
  if q == 0 then s.endPause n p else s.start (.pause (16 * n + p)) (s.quanta n q)

/-- The port address. -/
def State.portMac (s : State) (n : Nat) : Nat :=
  s.fld (macPage n) R.MAC_ADDR_HI * 2 ^ 32 + (s.rd (macPage n) R.MAC_ADDR_LO.off).toNat

/-- A received PAUSE or PFC frame of `len` bytes (R153, R154). -/
def State.pauseFrame (s : State) (n : Nat) (f : PauseFrame) (len : Nat) : State :=
  let m := macPage n
  if !f.fcsOk then (s.count m R.RX_FCS_ERR).drop Code.MAC_FCS
  else
    let s1 := (s.goodOctets n len).count m (if f.pfc then R.RX_PFC else R.RX_PAUSE)
    if f.da.toNat != 0x0180C2000001 && f.da.toNat != s.portMac n then s1
    else
      let prios := (List.range 8).filter fun p =>
        f.pfc && s.flag m R.FC_CFG_PFC_RX && bit (s.fld m R.FC_CFG_PFC_PRIO) p && bit f.enable.toNat p
      let s2 := if !f.pfc && s.flag m R.FC_CFG_PAUSE_RX then s1.loadPause n 8 ((f.times.headD 0).toNat) else s1
      let s3 := prios.foldl (fun t p => t.loadPause n p (f.times.getD p 0).toNat) s2
      let s4 := match (s3.eport n).preempt with
        | some x => if s3.pauseRuns n x.lane then s3.holdNow n else s3
        | none => s3
      s4.settlePause n

/-- Cells in the buffer that entered through port `n`, of one priority or of all. -/
def State.enteredCells (s : State) (n : Nat) (prio : Option Nat) : Nat :=
  ((s.fwd.packets.filter fun e => e.2.src == n && (match prio with
    | some p => e.2.prio == p
    | none => true)).map fun e => e.2.cells).sum

/-- XON_CELLS as it acts. -/
def State.xonCells (s : State) (n : Nat) : Nat :=
  let off := s.fld (macPage n) R.FC_THRESH_XOFF_CELLS
  let on := s.fld (macPage n) R.FC_THRESH_XON_CELLS
  if on ≥ off then off - 1 else on

/-- The port may send PAUSE (`none`) or PFC of a priority. -/
def State.sendsPause (s : State) (n : Nat) (prio : Option Nat) : Bool :=
  let m := macPage n
  s.running_ && s.portRuns n && s.portEnabled n && s.flag m R.MAC_STAT_LINK && (match prio with
    | none => s.flag m R.FC_CFG_PAUSE_TX
    | some p => s.flag m R.FC_CFG_PFC_TX && bit (s.fld m R.FC_CFG_PFC_PRIO) p)

/-- The number of a pause in the XOFF set: 8 for PAUSE. -/
def pauseIx (prio : Option Nat) : Nat := prio.getD 8

def State.xoffSet (s : State) (n : Nat) : Nat := (mget s.eth.xoff n).getD 0
def State.putXoff (s : State) (n v : Nat) : State :=
  { s with eth := { s.eth with xoff := if v == 0 then mdel s.eth.xoff n else mset s.eth.xoff n v } }

/-- A PAUSE or PFC frame of port `n` with `q` quanta (R155); the line is taken for it. -/
def State.sendPause (s : State) (n : Nat) (prio : Option Nat) (q : Nat) : State :=
  let m := macPage n
  let body := match prio with
    | none => beBytes 1 2 ++ beBytes q 2
    | some p => beBytes 0x0101 2 ++ beBytes (2 ^ p) 2 ++ (List.range 8).flatMap fun i => beBytes (if i == p then q else 0) 2
  let l := padTo (beBytes 0x0180C2000001 6 ++ beBytes (s.portMac n) 6 ++ [0x88, 0x08] ++ body) 60
  let s1 := ((s.lineOut n (l ++ fcsOf l)).countWide m R.TX_OCTETS.off 64).countWide m R.MAC_TX_FRAMES.off 1
  (s1.count m (match prio with
    | none => R.TX_PAUSE
    | some _ => R.TX_PFC)).takeLine n 64

/-- An XOFF or an XON of the port is due. -/
def State.pauseDue (s : State) (n : Nat) (prio : Option Nat) : Bool :=
  let cells := s.enteredCells n prio
  s.sendsPause n prio && if bit (s.xoffSet n) (pauseIx prio) then cells < s.xonCells n
    else s.fld (macPage n) R.FC_THRESH_XOFF_CELLS ≤ cells

/-- Send XOFF, or XON where it stands and the cells are below XON_CELLS. -/
def State.pauseDecision (s : State) (n : Nat) (prio : Option Nat) : State :=
  let m := macPage n
  let k := pauseIx prio
  let t := s.fld m R.FC_CFG_PAUSE_TIME
  let sent (u : State) : State := u.setF m R.PFC_STAT_SENT (u.xoffSet n % 256)
  if !s.pauseDue n prio then s
  else if !bit (s.xoffSet n) k then
    sent ((((s.sendPause n prio t).putXoff n (s.xoffSet n + 2 ^ k))).start (.pauseRepeat (16 * n + k)) (s.quanta n t / 2))
  else sent (((s.sendPause n prio 0).putXoff n (s.xoffSet n - 2 ^ k)).stop (.pauseRepeat (16 * n + k)))

/-- The XOFF is sent again while the cells stay at or above XON_CELLS (R155). -/
def State.repeatPause (s : State) (n : Nat) (prio : Option Nat) : State :=
  let t := s.fld (macPage n) R.FC_CFG_PAUSE_TIME
  (s.sendPause n prio t).start (.pauseRepeat (16 * n + pauseIx prio)) (s.quanta n t / 2)

/-- The PAUSE and PFC frames of a port: for all traffic, and for each priority. -/
def pauseKinds : List (Option Nat) := none :: (List.range 8).map some

/-- An XOFF, its repetition or an XON of the port is due, which the MAC inserts at the next frame boundary, ahead of every lane (R155). -/
def State.pauseWaits (s : State) (n : Nat) : Option (Option Nat) :=
  pauseKinds.find? fun p => s.pauseDue n p || (s.sendsPause n p && s.due (.pauseRepeat (16 * n + pauseIx p)))

/-- Insert that frame where the line is free; on a preemptable frame the MAC is asked for a boundary. -/
def State.insertPause (s : State) (n : Nat) (p : Option Nat) : State :=
  let t := s.settleLine n
  if !t.lineFree n then t.preemptNow n else if t.pauseDue n p then t.pauseDecision n p else t.repeatPause n p

/-! ### Link -/

/-- In-band link and speed apply at the port (R136): AN_EN on an SGMII or USXGMII lane. -/
def State.anApplies (s : State) (n : Nat) : Bool :=
  n < 24 && s.flag (0x060 + n) R.LANE_CFG_AN_EN && (s.laneMode n == 1 || s.laneMode n == 5)

/-- What holds LINK at 0 whatever the lane says (R136, R140, R166). -/
def State.linkBarred (s : State) (n : Nat) : Bool :=
  s.mode.service == .maintain || !s.portRuns n
    || (n < 24 && (s.flag (0x060 + n) R.LANE_PRBS_GEN || s.flag (0x060 + n) R.LANE_PRBS_CHK
      || (s.fld (0x060 + n) R.LANE_PHY_LOOPBACK != 0 && s.fld (0x060 + n) R.LANE_PHY_LOOPBACK != 3)
      || s.fld (0x060 + n) R.LANE_CFG_MODE == 0))
    || (s.anApplies n && s.flag (macPage n) R.MAC_STAT_SPEED_MISMATCH)

/-- The mPackets that wait at port `n`. -/
def State.mPackets (s : State) (n : Nat) : List Bool := (mget s.eth.mPackets n).getD []
def State.setMPackets (s : State) (n : Nat) (l : List Bool) : State :=
  { s with eth := { s.eth with mPackets := if l.isEmpty then mdel s.eth.mPackets n else mset s.eth.mPackets n l } }

/-- The oldest mPacket that waits at port `n` leaves at a frame boundary, and the line is taken for its 64 bytes (R141, R147; log entry 186). -/
def State.sendMPacket (s : State) (n : Nat) : State :=
  match s.mPackets n with
  | [] => s
  | r :: t => if s.lineFree n then ((s.setMPackets n t).emit (.mPacket n r)).takeLine n 64 else s.preemptNow n

/-- A verify (`resp` false) or response mPacket of port `n` leaves as soon as the line is free (R147). -/
def State.putMPacket (s : State) (n : Nat) (resp : Bool) : State :=
  let t := s.settleLine n
  (t.setMPackets n (t.mPackets n ++ [resp])).sendMPacket n

/-- With LINK at 1, verification starts, or preemption is active at once (R147). -/
def State.startMerge (s : State) (n : Nat) : State :=
  let m := macPage n
  if !s.flag m R.MM_CFG_EN then s
  else if s.flag m R.MM_CFG_VERIFY_DIS then (s.setF m R.MM_STAT_VERIFY_STATE 0).setB m R.MM_STAT_TX_ACTIVE true
  else
    let s2 := (s.setF m R.MM_STAT_VERIFY_STATE 2).putMPacket n false
    ({ s2 with eth := { s2.eth with tries := mset s2.eth.tries n 1 } }).start (.mmVerify n)
      (msT (max 1 (min (s.fld m R.MM_CFG_VERIFY_TIME) 128)))

/-- Preemption is not active: verification is off, or waits for LINK. -/
def State.stopMerge (s : State) (n : Nat) : State :=
  let m := macPage n
  ((s.setB m R.MM_STAT_TX_ACTIVE false).setF m R.MM_STAT_VERIFY_STATE
    (if s.flag m R.MM_CFG_EN && !s.flag m R.MM_CFG_VERIFY_DIS then 1 else 0)).stop (.mmVerify n)

/-- A heat changes EN or VERIFY_DIS of a port: where LINK is 1 already, preemption starts anew under the new settings (DEDUCED, log entry
132). `a` is the state before. -/
def State.swapMerge (a s : State) (n : Nat) : State :=
  let m := macPage n
  if a.flag m R.MM_CFG_EN == s.flag m R.MM_CFG_EN && a.flag m R.MM_CFG_VERIFY_DIS == s.flag m R.MM_CFG_VERIFY_DIS then s
  else if s.flag m R.MAC_STAT_LINK then (s.stopMerge n).startMerge n
  else s.stopMerge n

/-- LINK rises (R137, R147). -/
def State.linkUp (s : State) (n : Nat) : State :=
  let m := macPage n
  ((s.setB m R.MAC_STAT_LINK true).raise m 0).startMerge n

/-- End the transmissions of a port, each dropped with a reason. -/
def State.abortPort (s : State) (n code : Nat) (f : Fld) : State :=
  let one (t : State) (pre : Bool) (x : Option Sending) : State := match x with
    | some y => (t.abortSending n pre y code).count (macPage n) f
    | none => t
  let s1 := one s true (s.eport n).preempt
  one s1 false (s1.eport n).express

/-- LINK falls (R137, R139, R147, R193). -/
def State.linkDown (s : State) (n : Nat) : State :=
  let m := macPage n
  let s1 := (s.setB m R.MAC_STAT_LINK false).raise m 0
  let s2 := s1.abortPort n Code.PORT_DOWN R.TX_ABORTED
  let s3 := match mget s2.eth.asm n with
    | some _ => ({ s2 with eth := { s2.eth with asm := mdel s2.eth.asm n } }).count m R.RX_SYMBOL_ERR
    | none => s2
  ((s3.stopMerge n).setMPackets n []).flushOnDown n

/-- LINK takes the value that lane, negotiation and PHY give, where nothing bars it. -/
def State.setLink (s : State) (n : Nat) (up : Bool) : State :=
  let now := s.flag (macPage n) R.MAC_STAT_LINK
  let want := up && !s.linkBarred n
  if want == now then s else if want then s.linkUp n else s.linkDown n

/-- The in-band control word reports speed `v` (R136; 7: none): where it differs from SPEED, LINK is held at 0. -/
def State.noteSpeed (s : State) (n v : Nat) : State :=
  let m := macPage n
  let wrong := v != s.speed n && v != 7
  let t := (s.setF m R.MAC_STAT_RX_SPEED v).setB m R.MAC_STAT_SPEED_MISMATCH wrong
  if wrong then (t.raise m 1).setLink n false else t

/-- The lane starts again from reset, or goes to electrical idle (R138, R166): nothing is recovered or reported, and LINK is 0. -/
def State.restartLane (s : State) (n : Nat) : State :=
  let m := macPage n
  let s1 := if n < 24 then s.wr (0x060 + n) R.LANE_STAT_CDR_LOCK.off 0 else s
  ((s1.setF m R.MAC_STAT_RX_SPEED 7).setB m R.MAC_STAT_SPEED_MISMATCH false).setLink n false

/-! ### Reassembly (R151) -/

/-- The reassembly of port `n` fails. -/
def State.asmFail (s : State) (n : Nat) : State :=
  (({ s with eth := { s.eth with asm := mdel s.eth.asm n } }).count (macPage n) R.RX_MM_ASSY_ERR).drop Code.MM_ASSEMBLY

/-! ### PLCA -/

/-- A BEACON starts a cycle at T1S PHY `i` (R157). -/
def State.newCycle (s : State) (i : Nat) : State :=
  { s with eth := { s.eth with plca := mset s.eth.plca i { since := s.time.tl, id := 0, sent := 0, last := s.time.tl } } }

/-- A frame of `len` bytes of another node ends on the segment of port `n`: it took the opportunity that ran when it began, and the next node's
follows (R157; log entry 153). -/
def State.plcaHeard (s : State) (n len : Nat) : State :=
  match (if n < 24 then none else mget s.eth.plca (n - 24)) with
  | some c =>
    let k := (s.time.tl - s.bytesT n (8 + len) - c.since) / max 1 (bitTimes (s.fld (t1sPage (n - 24)) R.T1S_PLCA_CFG_TO_TIMER))
    { s with eth := { s.eth with plca := mset s.eth.plca (n - 24) { c with since := s.time.tl, id := c.id + k + 1 } } }
  | none => s

/-- PLCA_ACTIVE of T1S PHY `i` takes a value (R158). -/
def State.setPlca (s : State) (i : Nat) (on : Bool) : State :=
  let p := t1sPage i
  if s.flag p R.T1S_STAT_PLCA_ACTIVE == on then s
  else
    let s1 := ((s.advancePort (24 + i)).setB p R.T1S_STAT_PLCA_ACTIVE on).raise (macPage (24 + i)) 8
    if on then s1 else ({ s1 with eth := { s1.eth with plca := mdel s1.eth.plca i } }).count p R.BEACON_LOSS

/-- A heat takes PLCA from a T1S port, or changes whether it is the coordinator: no cycle runs that it knows of (R158). `a` is the state before. -/
def State.swapPlca (a s : State) (i : Nat) : State :=
  let p := t1sPage i
  let coord (t : State) : Bool := t.fld p R.T1S_PLCA_CFG_NODE_ID == 0
  if s.flag p R.T1S_PLCA_CFG_PLCA_EN && coord a == coord s then s else (s.stop (.beacon i)).setPlca i false

/-! ### MDIO (R165) -/

def mdioPage (k : Nat) : Nat := 0x07C + k

/-- A write of MDIO_CMD. -/
def State.mdioCmd (s : State) (k : Nat) (v : Word) : State × Nat :=
  let p := mdioPage k
  if s.flag p R.MDIO_STAT_BUSY then (s, Code.MDIO_BUSY)
  else
    let s1 := (s.setB p R.MDIO_STAT_BUSY true).setB p R.MDIO_STAT_DONE false
    let s2 := { s1 with eth := { s1.eth with mdio := mset s1.eth.mdio k v } }
    (s2.emit (.mdio k (getBits v 1 0) (getBits v 2 2 == 1) (getBits v 7 3) (getBits v 12 8) (getBits v 31 16)), 0)

/-- The MDIO command in progress reads data: Clause 22 OP 0b10, Clause 45 OP 0b11 or 0b10. -/
def mdioReads (v : Word) : Bool :=
  if getBits v 2 2 == 1 then getBits v 1 0 == 3 || getBits v 1 0 == 2 else getBits v 1 0 == 2

/-- The command in progress ends. -/
def State.mdioDone (s : State) (k : Nat) (data : Nat) : State :=
  let p := mdioPage k
  match mget s.eth.mdio k with
  | none => s
  | some v =>
    let s1 := { s with eth := { s.eth with mdio := mdel s.eth.mdio k } }
    let s2 := (s1.setB p R.MDIO_STAT_BUSY false).setB p R.MDIO_STAT_DONE true
    (if mdioReads v then s2.setF p R.MDIO_STAT_DATA data else s2).raise p 0

/-- The frames by which slot `i` is read: Clause 22, or an address frame and a read frame of Clause 45. -/
def State.mdioPollFrames (s : State) (k i : Nat) : State :=
  let p := mdioPage k
  let phy := s.fld p (R.MDIO_POLL_ADDR_PHYAD i)
  let dev := s.fld p (R.MDIO_POLL_ADDR_DEVAD i)
  if s.flag p (R.MDIO_POLL_ADDR_C45 i) then
    (s.emit (.mdio k 0 true phy dev (s.fld p (R.MDIO_POLL_ADDR_REGAD i)))).emit (.mdio k 3 true phy dev 0)
  else s.emit (.mdio k 2 false phy dev 0)

/-- One poll of the enabled slots in order, with the values read. -/
def State.mdioPoll (s : State) (k : Nat) (vals : List (BitVec 16)) : State :=
  let p := mdioPage k
  (List.range 8).foldl (fun u i =>
    if u.flag p (R.MDIO_POLL_ADDR_EN i) then
      let t := u.mdioPollFrames k i
      let v := (vals.getD i 0).toNat
      let mask := t.fld p (R.MDIO_POLL_VAL_MASK i)
      let old := t.fld p (R.MDIO_POLL_VAL_LAST i)
      let t1 := t.setF p (R.MDIO_POLL_VAL_LAST i) v
      if v &&& mask != old &&& mask then t1.raise p (8 + i) else t1
    else u) s

end Sys2Proof.Machine
end

