-- ==== Sys2Proof/Machine/Can.lean ====
section
/-! DEFINITION. The CAN controllers (chapter 08): frames in error, ranking, the marshalling queue and its transmit buffers,
cancellation and transmit events, error confinement, reception into mailboxes and the shadow. -/

namespace Sys2Proof.Machine

/-! ### Channels -/

def canPage (c : Nat) : Nat := 0x100 + c

/-- The store of channel `c`, and putting it with TXQ_LEVEL and TX_ON_LINE. A queue-owned frame in a buffer keeps its entry and
its granules (DEDUCED from R262, R264 and R266, log entry 40). -/
def State.chan (s : State) (c : Nat) : CanChan := (mget s.can c).getD CanChan.empty

/-- Granules of 64 bytes a frame takes (R262). -/
def CanHeld.granules (h : CanHeld) : Nat := max 1 (ceilDiv h.frame.data.length 64)

def State.canCtl (s : State) (c : Nat) (f : Fld) : Bool := s.flag (canPage c) f

/-- Buffer `b` is host-owned. -/
def State.hostOwned (s : State) (c b : Nat) : Bool := bit (s.fld (canPage c) R.CAN_CTRL_TXB_HOST) b

/-- The frames that hold entries of the queue: those queued and those in queue-owned buffers (SRC = 1). -/
def State.entries (s : State) (c : Nat) : List CanHeld :=
  let k := s.chan c
  k.queue ++ (k.bufs.filter fun e => s.flag (canPage c) (R.TXB_CTRL_SRC e.1)).map (·.2)

def State.freeGranules (s : State) (c : Nat) : Nat := 256 - ((s.entries c).map (·.granules)).sum

def State.setChan (s : State) (c : Nat) (k : CanChan) : State :=
  let s1 := { s with can := mset s.can c k }
  let s2 := s1.setF (canPage c) R.TXQ_LEVEL_FRAMES k.queue.length
  (s2.setF (canPage c) R.TXQ_LEVEL_FREE (s1.freeGranules c)).setB (canPage c) R.CAN_STAT_TX_ON_LINE k.locked.isSome

/-- A unit serves the channel and is powered and clocked (R276, R283). -/
def State.canServed (s : State) (c : Nat) : Bool :=
  let p := canPage c
  s.up (pageDomain p) && s.clocked 1
    && (s.fld p R.RESERVE_MAP_SERVING == 0 || (s.fld p R.RESERVE_MAP_SERVING < 3 && s.up 13))

/-- The controller takes part in the bus, or integrates (R258, R283). -/
def State.canOn (s : State) (c : Nat) : Bool :=
  s.canServed c && s.flag (canPage c) R.PAGE_CTRL_ENABLE && s.mode.service != .maintain

/-- A setting of the protocol core as it is in force: the old value until the switch of R248. -/
def State.canTiming (s : State) (c : Nat) (f : Fld) : Nat :=
  getBits ((mget (s.chan c).timing f.off).getD (s.rd (canPage c) f.off)) f.hi f.lo

/-! ### Frames -/

/-- The bits, recessive true, that rank a frame (R261): those it sends from the first identifier bit through IDE (for an extended
identifier through RTR, DEDUCED, log entry 41), then FDF, then XLF. -/
def CanFrame.rank (f : CanFrame) : List Bool :=
  let rtr := f.rtr && f.fmt == 0
  let idBits (hi n : Nat) : List Bool := (List.range n).map fun k => bit f.id (hi - k)
  let head := if f.ide && f.fmt != 2 then idBits 28 11 ++ [true, true] ++ idBits 17 18 ++ [rtr]
    else idBits 10 11 ++ [rtr, false]
  head ++ [f.fmt != 0, f.fmt == 2]

/-- `a` ranks above `b`: dominant at the first bit where they differ. -/
def outranks (a b : List Bool) : Bool :=
  match a, b with
  | x :: t, y :: u => if x == y then outranks t u else y
  | _, _ => false

/-- The next payload length with a CAN FD length code. -/
def fdLength (n : Nat) : Nat :=
  ([0, 1, 2, 3, 4, 5, 6, 7, 8, 12, 16, 20, 24, 32, 48, 64].find? (n ≤ ·)).getD 64

/-- A frame in error on channel `c` (R251). FMT = 3, which TXB_INFO and TXQ_INFO do not define, makes one too (DESIGN CHOICE, log entry 196). -/
def State.canBad (s : State) (c : Nat) (f : CanFrame) : Bool :=
  let n := f.data.length
  match f.fmt with
  | 0 => n > 8
  | 1 => !s.canCtl c R.CAN_CTRL_FD_EN || n > 64 || f.rtr
  | 2 => !s.canCtl c R.CAN_CTRL_XL_EN || n == 0 || n > 2048 || f.rtr
  | _ => true

/-- The frame as the channel sends it: an FD payload padded to a coded length with PAD (R251). -/
def State.canPadded (s : State) (c : Nat) (f : CanFrame) : CanFrame :=
  if f.fmt == 1 then
    let pad := BitVec.ofNat 8 (s.fld (canPage c) R.CAN_MISC_CFG_PAD)
    { f with data := f.data ++ List.replicate (fdLength f.data.length - f.data.length) pad }
  else f

/-- Bytes that the spec leaves open, one for each of the next `n` free values. -/
def State.freeBytes (s : State) (n : Nat) : List Byte :=
  (List.range n).map fun k => BitVec.ofNat 8 (Config.freeValue (s.freeIx + k)).toNat

/-- The frame that the registers of a window spell: offsets of TXB_ID or TXQ_ID (R259, R266). A base identifier is that of bits 10 to 0. A
LEN above 64 has bytes that the window does not hold (DESIGN CHOICE, log entry 42). -/
def State.canWindow (s : State) (c off : Nat) : CanFrame :=
  let p := canPage c
  let id := (s.rd p off).toNat
  let info := (s.rd p (off + 4)).toNat
  let words := (List.range 16).flatMap fun k => leBytes (s.rd p (off + (if off == 0x100 then 16 else 12) + 4 * k)).toNat 4
  let len := bits info 11 5
  let ide := bit id 29 && bits info 1 0 != 2
  { fmt := bits info 1 0, ide := ide, id := if ide then bits id 28 0 else bits id 10 0, brs := bit info 2, rtr := bit info 3, esi := false
    sec := bit info 4, sdt := bits info 23 16, vcid := bits info 31 24, af := (s.rd p (off + 8)).toNat
    data := words.take len ++ s.freeBytes (len - 64) }

/-! ### Transmit buffers -/

/-- Put TXB_CTRL of buffer `b`. -/
def State.putTxb (s : State) (c b : Nat) (req cancel locked : Bool) (outcome : Nat) (late src : Bool) (handle : Nat) : State :=
  s.wr (canPage c) (R.TXB_CTRL_REQ b).off
    (BitVec.ofNat 32 (b2n req + b2n cancel * 2 + b2n locked * 4 + outcome * 16 + b2n late * 64 + b2n src * 128 + handle * 2 ^ 16))

/-- A queue-owned buffer takes a frame and shows it in its registers. LEN of a payload over 64 bytes reads 64 (DESIGN CHOICE,
log entry 42). -/
def State.fillTxb (s : State) (c b : Nat) (h : CanHeld) : State :=
  let p := canPage c
  let off := 0x204 + 0x50 * b
  let f := h.frame
  let s1 := s.putTxb c b true false false 0 false true h.handle
  let s2 := s1.wr p off (BitVec.ofNat 32 (f.id + b2n f.ide * 2 ^ 29))
  let s3 := s2.wr p (off + 4) (BitVec.ofNat 32 (f.fmt + b2n f.brs * 4 + b2n f.rtr * 8 + b2n f.sec * 16
    + (min f.data.length 64) * 32 + f.sdt * 2 ^ 16 + f.vcid * 2 ^ 24))
  let s4 := s3.wr p (off + 8) (BitVec.ofNat 32 f.af)
  let d := padTo (f.data.take 64) 64
  let s5 := (List.range 16).foldl (fun t k => t.wr p (off + 12 + 4 * k) (BitVec.ofNat 32 (leNat ((d.drop (4 * k)).take 4)))) s4
  let k := s5.chan c
  s5.setChan c { k with bufs := mset k.bufs b h }

/-- Insert into a queue: after every frame that ranks at least as high (R262). -/
def insertRanked (l : List CanHeld) (h : CanHeld) : List CanHeld :=
  match l with
  | [] => [h]
  | x :: t => if outranks h.frame.rank x.frame.rank then h :: x :: t else x :: insertRanked t h

/-- Insert a frame that returns from a buffer: before the frames of its rank, which entered after it. -/
def insertBack (l : List CanHeld) (h : CanHeld) : List CanHeld :=
  match l with
  | [] => [h]
  | x :: t => if outranks x.frame.rank h.frame.rank then x :: insertBack t h else h :: x :: t

/-- The lowest-ranked frame among the unlocked queue-owned buffers. -/
def State.lowestTxb (s : State) (c : Nat) : Option (Nat × CanHeld) :=
  let k := s.chan c
  (k.bufs.filter fun e => s.flag (canPage c) (R.TXB_CTRL_SRC e.1) && k.locked != some e.1).foldl (fun best e =>
    match best with
    | none => some e
    | some b => if outranks e.2.frame.rank b.2.frame.rank then some b else some e) none

/-- One step of R264: an empty queue-owned buffer takes the head, or under TX_ORDER = 0 the head and the lowest-ranked buffer
frame swap. `none` where nothing is to do. -/
def State.refillStep (s : State) (c : Nat) : Option State :=
  let k := s.chan c
  match k.queue with
  | [] => none
  | h :: t =>
    match (List.range 3).find? fun b => !s.hostOwned c b && (mget k.bufs b).isNone with
    | some b => some ((s.setChan c { k with queue := t }).fillTxb c b h)
    | none =>
      if s.canCtl c R.CAN_CTRL_TX_ORDER then none
      else
        match s.lowestTxb c with
        | none => none
        | some (b, x) =>
          if outranks h.frame.rank x.frame.rank then
            some ((s.setChan c { k with queue := insertBack t x, bufs := mdel k.bufs b }).fillTxb c b h)
          else none

/-- Refill the queue-owned buffers (R264). -/
def State.refill (s : State) (c : Nat) : State :=
  (List.range 6).foldl (fun t _ => (t.refillStep c).getD t) s

/-! ### Ends of frames -/

/-- A transmit event of a pushed frame (R267): outcome 1 DONE, 2 CANCELLED, 3 DROPPED. -/
def State.txEvent (s : State) (c : Nat) (h : CanHeld) (outcome : Nat) (late : Bool) : State :=
  if h.pushed then
    let k := s.chan c
    if k.events.length < 32 then
      let s1 := s.setChan c { k with events := k.events ++ [(h.handle, outcome, late)] }
      if k.events.isEmpty then s1.raise (canPage c) 11 else s1
    else (s.count (canPage c) R.TXEV_OVF).raise (canPage c) 12
  else s

/-- Count a dropped frame by its reason in its channel's page. -/
def State.canDrop (s : State) (c code : Nat) : State :=
  let p := canPage c
  let s1 := s.drop code
  if code == Code.CAN_LIFETIME then (s1.count p R.DROP_LIFETIME).raise p 9
  else if code == Code.CAN_QUEUE_FULL then (s1.count p R.DROP_QUEUE_FULL).raise p 9
  else if code == Code.CAN_CHANNEL_LOST then s1.count p R.DROP_LOST
  else if code == Code.NOT_RUNNING then s1.count p R.DROP_NOT_RUNNING
  else if code == Code.REST_ENTRY then s1
  else s1.count p R.DROP_FORMAT

/-- The transmit event of a dropped frame: R267 names the drops of R252, R258, R263 and R265, not that of R275. -/
def State.dropEvent (s : State) (c : Nat) (h : CanHeld) (late : Bool) (code : Nat) : State :=
  if code == Code.CAN_CHANNEL_LOST then s else s.txEvent c h 3 late

/-- Take the frame out of buffer `b`. -/
def State.clearTxb (s : State) (c b outcome : Nat) (late : Bool) : State :=
  let k := s.chan c
  let s1 := s.putTxb c b false false false outcome late false 0
  s1.setChan c { k with bufs := mdel k.bufs b, locked := if k.locked == some b then none else k.locked }

/-- The frame of buffer `b` ends with an outcome: 1 DONE, 2 CANCELLED, 3 dropped with `code`. -/
def State.endTxb (s : State) (c b outcome : Nat) (late : Bool) (code : Nat) : State :=
  match mget (s.chan c).bufs b with
  | none => s
  | some h =>
    let src := s.flag (canPage c) (R.TXB_CTRL_SRC b)
    let s1 := s.clearTxb c b (if outcome == 3 then 0 else outcome) late
    if outcome == 3 then (s1.canDrop c code).dropEvent c h late code
    else if outcome == 2 then
      let s2 := (s1.count (canPage c) R.CAN_CANCELLED).raise (canPage c) 3
      if src then s2.txEvent c h 2 late else s2
    else if src then s1.txEvent c h 1 late else s1.raise (canPage c) 2

/-- Drop with `code` every frame that satisfies `q` and is not locked, in buffers and queue (R252, R258, R265, R275). -/
def State.dropHeld (s : State) (c code : Nat) (q : CanHeld → Bool) : State :=
  let k := s.chan c
  let s1 := (k.bufs.filter fun e => q e.2 && k.locked != some e.1).foldl (fun t e => t.endTxb c e.1 3 false code) s
  let k1 := s1.chan c
  let s2 := s1.setChan c { k1 with queue := k1.queue.filter fun h => !q h }
  (k1.queue.filter q).foldl (fun t h => (t.canDrop c code).dropEvent c h false code) s2

/-- A held frame's expiry has passed (R265). -/
def State.expired (s : State) (h : CanHeld) : Bool :=
  match h.expiry with
  | none => false
  | some t => t ≤ s.time.tl

/-- Drop the queue-owned frames whose lifetime has ended (R265). -/
def State.expireCan (s : State) (c : Nat) : State := (s.dropHeld c Code.CAN_LIFETIME s.expired).refill c

/-! ### The marshalling queue -/

/-- A handle for a new entry (R266): the lowest slot that no held frame names, with the next generation of that slot. -/
def State.newHandle (s : State) (c : Nat) : Nat × Nat :=
  let used := (s.entries c).map fun h => h.handle % 256
  let slot := ((List.range 256).find? fun i => !used.contains i).getD 0
  (slot, ((mget (s.chan c).gens slot).getD 255 + 1) % 256)

/-- Make room by dropping the lowest-ranked queued frames below the new one (R263). -/
def State.makeRoom (s : State) (c : Nat) (h : CanHeld) (fuel : Nat) : State :=
  match fuel with
  | 0 => s
  | fuel + 1 =>
    if (s.entries c).length < 256 && h.granules ≤ s.freeGranules c then s
    else
      let k := s.chan c
      match k.queue.getLast? with
      | none => s
      | some low =>
        if outranks h.frame.rank low.frame.rank then
          let s1 := s.setChan c { k with queue := k.queue.dropLast }
          (((s1.canDrop c Code.CAN_QUEUE_FULL).txEvent c low 3 false)).makeRoom c h fuel
        else s

/-- A frame enters the marshalling queue (R251, R263, R264): the state, and its handle, or none where it is dropped. A pushed frame
that finds no place reports its drop under a free handle (log entry 43). -/
def State.canEnqueue (s : State) (c : Nat) (f : CanFrame) (pushed : Bool) (expiry : Option Nat) (cts : Option (Nat × Bool)) :
    State × Option Nat :=
  if s.canBad c f then (s.canDrop c Code.CAN_FORMAT, none)
  else
    let h : CanHeld := { frame := s.canPadded c f, handle := 0, pushed := pushed, expiry := expiry, cts := cts }
    let s1 := s.makeRoom c h 257
    if (s1.entries c).length < 256 && h.granules ≤ s1.freeGranules c then
      let (slot, gen) := s1.newHandle c
      let h1 := { h with handle := slot + gen * 256 }
      let k := s1.chan c
      (((s1.setChan c { k with queue := insertRanked k.queue h1, gens := mset k.gens slot gen })).refill c, some h1.handle)
    else
      let lost := { h with handle := (Config.freeValue s1.freeIx).toNat % 2 ^ 16 }
      ((s1.draw.canDrop c Code.CAN_QUEUE_FULL).txEvent c lost 3 false, none)

/-- A write of TXQ_PUSH (R266). -/
def State.txqPush (s : State) (c : Nat) : State :=
  let p := canPage c
  let life := s.fld p R.TXQ_LIFE
  let expiry := if life == 0 then none else some (s.time.tl + usT life)
  match s.canEnqueue c (s.canWindow c 0x100) true expiry none with
  | (s1, some h) => s1.wr p R.TXQ_STAT_OK.off (BitVec.ofNat 32 (h + 2 ^ 16))
  | (s1, none) => s1.setB p R.TXQ_STAT_OK false

/-- A write of TXQ_CANCEL (R261, R268): the state, and a code where it is refused. -/
def State.txqCancel (s : State) (c handle : Nat) : State × Nat :=
  let k := s.chan c
  match k.queue.find? fun h => h.handle == handle with
  | some h =>
    let s1 := (s.setChan c { k with queue := k.queue.filter (·.handle != handle) }).count (canPage c) R.CAN_CANCELLED
    ((s1.raise (canPage c) 3).txEvent c h 2 false, 0)
  | none =>
    match k.bufs.find? fun e => e.2.handle == handle && s.flag (canPage c) (R.TXB_CTRL_SRC e.1) with
    | none => (s, Code.CAN_HANDLE_BAD)
    | some (b, _) =>
      if k.locked == some b then (s.setB (canPage c) (R.TXB_CTRL_CANCEL b) true, 0)
      else ((s.endTxb c b 2 false 0).refill c, 0)

/-- REQ on a transmit buffer (R259). -/
def State.txbReq (s : State) (c b : Nat) : State × Nat :=
  let k := s.chan c
  let f := s.canWindow c (0x204 + 0x50 * b)
  if !s.hostOwned c b || (mget k.bufs b).isSome || s.canBad c f then (s, Code.CAN_TXB_BAD)
  else
    let h : CanHeld := { frame := s.canPadded c f, handle := 0, pushed := false, expiry := none, cts := none }
    ((s.putTxb c b true false false 0 false false 0).setChan c { k with bufs := mset k.bufs b h }, 0)

/-- CANCEL on a transmit buffer (R268). A cancel of a buffer that holds no frame does nothing. -/
def State.txbCancel (s : State) (c b : Nat) : State :=
  let k := s.chan c
  if (mget k.bufs b).isNone || s.flag (canPage c) (R.TXB_CTRL_SRC b) then s
  else if k.locked == some b then s.setB (canPage c) (R.TXB_CTRL_CANCEL b) true
  else s.endTxb c b 2 false 0

/-- A read of TXEV (R267): the oldest event, which it removes. -/
def State.txevRead (s : State) (c : Nat) : State × Word :=
  let k := s.chan c
  match k.events with
  | [] => (s, 0)
  | (h, o, late) :: t => (s.setChan c { k with events := t }, BitVec.ofNat 32 (h + o * 2 ^ 16 + b2n late * 2 ^ 18 + 2 ^ 31))

/-! ### Error confinement (R253 to R256) -/

/-- Put TEC and REC, REC saturating at 255. -/
def State.putErr (s : State) (c tec rec_ : Nat) : State :=
  s.wr (canPage c) R.CAN_ECNT_TEC.off (BitVec.ofNat 32 (min tec 511 + min rec_ 255 * 2 ^ 16))

def State.tec (s : State) (c : Nat) : Nat := s.fld (canPage c) R.CAN_ECNT_TEC
def State.recCount (s : State) (c : Nat) : Nat := s.fld (canPage c) R.CAN_ECNT_REC
def State.errState (s : State) (c : Nat) : Nat := s.fld (canPage c) R.CAN_STAT_ERR_STATE

/-- Move between error active, error passive and bus-off by the counters (R253). -/
def State.errEval (s : State) (c : Nat) : State :=
  let p := canPage c
  let was := s.errState c
  if was ≥ 2 then s
  else if s.tec c > 255 then
    (((s.setF p R.CAN_STAT_ERR_STATE 2).setF p R.CAN_STAT_BOFF_COUNT 0).count p R.BUS_OFF_CNT).raise p 5
  else if s.tec c > 127 || s.recCount c > 127 then
    if was == 1 then s else (s.setF p R.CAN_STAT_ERR_STATE 1).raise p 4
  else s.setF p R.CAN_STAT_ERR_STATE 0

/-- The controller leaves the bus and integrates (R246, R258). -/
def State.integrate (s : State) (c : Nat) : State :=
  (s.setF (canPage c) R.CAN_STAT_ERR_STATE 3).setB (canPage c) R.CAN_STAT_BUS_IDLE false

/-- ACK_RUN and SOLO clear (R255). -/
def State.ackSeen (s : State) (c : Nat) : State :=
  (s.setF (canPage c) R.CAN_STAT_ACK_RUN 0).setB (canPage c) R.CAN_STAT_SOLO false

/-- An acknowledgement error counts in ACK_RUN and may set SOLO (R255). -/
def State.ackMissed (s : State) (c : Nat) : State :=
  let p := canPage c
  let n := satInc (s.fld p R.CAN_STAT_ACK_RUN) 8
  let lim := max 1 (s.fld p R.CAN_MISC_CFG_SOLO_LIMIT)
  let s1 := s.setF p R.CAN_STAT_ACK_RUN n
  if n ≥ lim && !s.flag p R.CAN_STAT_SOLO then (s1.setB p R.CAN_STAT_SOLO true).raise p 7 else s1

/-- A frame that can no longer be attempted: its channel is disabled, its format is off, or its lifetime has ended. -/
def State.heldCode (s : State) (c : Nat) (h : CanHeld) : Nat :=
  if !s.flag (canPage c) R.PAGE_CTRL_ENABLE then Code.CAN_DISABLED
  else if s.canBad c h.frame then Code.CAN_FORMAT
  else if s.expired h then Code.CAN_LIFETIME
  else 0

/-- A locked attempt ends without success (R260, R265, R268): cancelled where a cancel waits, dropped where the frame can no longer
be attempted, else held. -/
def State.attemptFails (s : State) (c : Nat) : State :=
  let k := s.chan c
  match k.locked with
  | none => s
  | some b =>
    match mget k.bufs b with
    | none => s.setChan c { k with locked := none, sof := none, delay := none }
    | some h =>
      let s1 := (s.setChan c { k with locked := none, sof := none, delay := none }).setB (canPage c) (R.TXB_CTRL_LOCKED b) false
      let s2 := if s.flag (canPage c) (R.TXB_CTRL_CANCEL b) then s1.endTxb c b 2 false 0
        else
          let code := s1.heldCode c h
          if code != 0 then s1.endTxb c b 3 false code else s1
      s2.refill c

/-- The counter of an error kind (R272). -/
def errCounter (k : CanErrKind) : Fld :=
  match k with
  | .bit => R.ERR_BIT
  | .stuff => R.ERR_STUFF
  | .form => R.ERR_FORM
  | .crc => R.ERR_CRC
  | .ack => R.ERR_ACK
  | .protocol => R.PROTO_EXC

/-- TEC and REC after an error (ISO 11898-1, as R253 refers to it; PRESUMED, log entry 44): a receiver counts 1, and 8 more for a
dominant bit after its flag; a transmitter counts 8; an error inside an active error flag counts 8; each run of eight further
dominant bits counts 8. -/
def State.countError (s : State) (c : Nat) (tx : Bool) (e : CanError) : State :=
  let exempt := (e.kind == .ack && s.errState c == 1 && !e.passiveDominant) || e.arbStuff
  let inc := 8 * b2n e.inFlag + 8 * e.longDominant
  if tx then s.putErr c (s.tec c + (if exempt || e.inFlag then 0 else 8) + inc) (s.recCount c)
  else s.putErr c (s.tec c) (s.recCount c + b2n (!e.inFlag) + 8 * b2n e.dominantAfter + inc)

/-- The attempt has passed the edge at which its loop delay is measured (R249): CAN_TDC_STAT shows it. The model writes it when the attempt
ends, no command marking the edge (DEDUCED, log entry 161). -/
def State.noteTdc (s : State) (c : Nat) : State :=
  match (s.chan c).delay with
  | none => s
  | some d =>
    let p := canPage c
    let v := max (min d 127) (s.canTiming c R.CAN_TDC_TDCF)
    let tooBig := v + s.canTiming c R.CAN_TDC_TDCO > 127
    let s1 := s.wr p R.CAN_TDC_STAT_TDCV.off (BitVec.ofNat 32 (v + 128 + b2n tooBig * 256))
    if tooBig then s1.raise p 8 else s1

/-- A bus error (R249, R250, R253, R255, R256). -/
def State.busError (s0 : State) (c : Nat) (e : CanError) : State :=
  let tx := (s0.chan c).locked.isSome
  let s := if tx && (e.pastEdge || e.xlData) then s0.noteTdc c else s0
  if e.kind == .protocol && s.canCtl c R.CAN_CTRL_PXHD then ((s.attemptFails c).count (canPage c) R.PROTO_EXC).integrate c
  else
    let kind := if e.kind == .protocol then .form else e.kind
    let s1 := (s.count (canPage c) (errCounter kind)).countError c tx e
    let s2 := if kind == .ack && tx then s1.ackMissed c else s1
    let s3 := (s2.errEval c).attemptFails c
    if e.xlData && s.canTiming c R.CAN_CTRL_XL_ERRS == 0 && s3.errState c < 2 then s3.integrate c else s3

/-- Occurrences of 11 recessive bits in bus-off (R254). -/
def State.busOffSeen (s : State) (c n : Nat) : State :=
  let p := canPage c
  if s.errState c != 2 then s
  else
    let total := s.fld p R.CAN_STAT_BOFF_COUNT + n
    if total < 128 then s.setF p R.CAN_STAT_BOFF_COUNT total
    else (((s.setF p R.CAN_STAT_BOFF_COUNT 0).putErr c 0 0).setF p R.CAN_STAT_ERR_STATE 0).raise p 6

/-- Eleven recessive bits (R258): the bus is idle, and an integrating controller takes part, error passive where its counters still say so,
which is no entry to that state (R253). -/
def State.integrated (s : State) (c : Nat) : State :=
  let p := canPage c
  let s1 := s.setB p R.CAN_STAT_BUS_IDLE true
  let passive := s.tec c > 127 || s.recCount c > 127
  if s.errState c == 3 then (s1.setB p R.CAN_STAT_ERR_STATE passive).errEval c else s1

/-! ### Attempts -/

/-- The buffers named by an enabled time-triggered schedule (R341). -/
def ttHeader (c : Nat) : Nat := 1024 + c * 16
def ttEntry (c j : Nat) : Nat := c * 16 + j
def pgTt : Nat := 0x18F
def State.ttSchedule (s : State) (c : Nat) : Option Entry :=
  match s.pairGet pgTt (ttHeader c) s.heat.liveE with
  | some e => if eBit e 83 then some e else none
  | none => none
def ttLength (e : Entry) : Nat := eBits e 88 84
def State.ttEntryAt (s : State) (c j : Nat) : Entry := (s.pairGet pgTt (ttEntry c j) s.heat.liveE).getD 0
def State.ttBound (s : State) (c b : Nat) : Bool :=
  match s.ttSchedule c with
  | none => false
  | some e => (List.range (ttLength e)).any fun j => eBits (s.ttEntryAt c j) 65 64 == b

def pgCts : Nat := 0x18E

/-- A message of a time-synchronisation slot whose domain is invalid is not sent (R319). -/
def State.ctsHeld (s : State) (h : CanHeld) : Bool := h.cts.any fun x => !s.domainValid (s.fld pgCts (R.CTS_CFG_DOMAIN x.1))

/-- The buffers that may compete at a start-of-frame sample point. -/
def State.competing (s : State) (c : Nat) : List (Nat × CanHeld) :=
  let k := s.chan c
  k.bufs.filter fun e => (!s.ttBound c e.1 || k.windows.any fun w => w.1 % 4 == e.1) && !s.ctsHeld e.2

/-- The buffer that R261 chooses: by rank, equal ranks to the lower number, or by number. -/
def State.chooseTxb (s : State) (c : Nat) : Option Nat :=
  let l := s.competing c
  if s.canCtl c R.CAN_CTRL_TX_ORDER then l.head?.map (·.1)
  else (l.foldl (fun (best : Option (Nat × CanHeld)) e =>
    match best with
    | none => some e
    | some b => if outranks e.2.frame.rank b.2.frame.rank then some e else some b) none).map (·.1)

/-- A SYNC carries the seconds of its attempt's SOF stamp (R339). -/
def withSeconds (f : CanFrame) (sec : Nat) : CanFrame := { f with data := f.data.take 4 ++ beBytes (sec % 2 ^ 32) 4 }

/-- The start-of-frame stamp of an attempt (R327): the falling edge as it reads it back on CANn_RX, the loop delay of `delay` clocks after it began
to drive the bit, whose sample point is now (DEDUCED, log entry 45). -/
def State.sofStamp (s : State) (c delay : Nat) : Stamps :=
  let bit := (1 + s.canTiming c R.CAN_NBT_TSEG1 + 1) * (s.canTiming c R.CAN_NBT_BRP + 1)
  let back : Int := ((delay : Int) - (bit : Int)) * 100
  s.stampBy (sixteenths (back - signed (s.fld pgStamp (R.CORR_C_U_RX c)) 16) - (tenthsT 125 : Int)) (canIsland c)

/-- An attempt starts at a start-of-frame sample point (R260, R261): the chosen buffer is locked. `delay` is the transceiver's
loop delay in clocks, measured in FD and XL frames where TDC is on (R249). -/
def State.startAttempt (s : State) (c delay : Nat) : State :=
  let p := canPage c
  let k := s.chan c
  if !s.canOn c || !s.running_ || s.errState c ≥ 2 || k.locked.isSome || s.canCtl c R.CAN_CTRL_LISTEN_ONLY then s
  else
    match s.chooseTxb c with
    | none => s
    | some b =>
      match mget k.bufs b with
      | none => s
      | some h =>
        let st := s.sofStamp c delay
        let h1 := match h.cts with
          | some (slot, false) =>
            { h with frame := withSeconds h.frame (timeSec (st.read (s.fld pgCts (R.CTS_CFG_DOMAIN slot)))) }
          | _ => h
        let s1 := (s.setB p (R.TXB_CTRL_LOCKED b) true).setB p R.CAN_STAT_BUS_IDLE false
        let d := if h.frame.fmt != 0 && s.canTiming c R.CAN_TDC_TDC_EN == 1 then some delay else none
        s1.setChan c { k with locked := some b, sof := some st, delay := d, bufs := mset k.bufs b h1 }

/-- A frame as channel `c` puts it on the bus: without the bit rate switch while BRS_EN = 0 (R251). -/
def State.canSent (s : State) (c : Nat) (f : CanFrame) : CanFrame :=
  { f with brs := f.brs && f.fmt == 1 && s.canCtl c R.CAN_CTRL_BRS_EN }

/-- The PWM phases (short, long, offset of the first symbol, in clocks) with which the transceiver is switched into its fast mode for the data
phase of a frame, where TMS = 1 (R250). -/
def State.pwm (s : State) (c : Nat) (f : CanFrame) : Option (Nat × Nat × Nat) :=
  let p := canPage c
  if f.fmt == 2 && s.canTiming c R.CAN_CTRL_TMS == 1 then
    some (s.fld p R.CAN_XL_CFG_PWMS, s.fld p R.CAN_XL_CFG_PWML, s.fld p R.CAN_XL_CFG_PWMO)
  else none

/-- The locked attempt succeeds at its end-of-frame sample point (R257, R260): outcome and events, TEC, SELF_RX, the frame on the bus.
`none` where no attempt is locked; else the frame that was sent and its SOF stamp. -/
def State.attemptDone (s0 : State) (c : Nat) : Option (State × CanHeld × Stamps) :=
  let s := s0.noteTdc c
  let k := s.chan c
  match k.locked with
  | none => none
  | some b =>
    match mget k.bufs b with
    | none => none
    | some h =>
      let p := canPage c
      let s1 := ((s.count p R.CAN_TX_FRAMES).putErr c (s.tec c - 1) (s.recCount c)).errEval c
      let late := s.flag p (R.TXB_CTRL_CANCEL b)
      let s2 := (s1.ackSeen c).setChan c { s1.chan c with locked := none, sof := none, delay := none }
      let s3 := (s2.endTxb c b 1 late 0).refill c
      let f := s.canSent c h.frame
      some (if s.canCtl c R.CAN_CTRL_LOOPBACK then s3 else s3.emit (.can c f (s.pwm c f)), { h with frame := f }, k.sof.getD (s.canStamp c))

/-! ### Reception (R257, R269 to R271) -/

/-- A filter pair matches a frame (R269). -/
def filterMatches (filt mask : Word) (f : CanFrame) : Bool :=
  filt.getLsbD 30
    && (BitVec.ofNat 29 f.id ^^^ BitVec.ofNat 29 filt.toNat) &&& BitVec.ofNat 29 mask.toNat == 0
    && (!mask.getLsbD 29 || filt.getLsbD 29 == (f.ide && f.fmt != 2))
    && (getBits mask 31 30 == 0 || getBits mask 31 30 == f.fmt + 1)

/-- The header register of mailbox `i`, 32 being the high-priority buffer. -/
def mbHdr (i : Nat) : Nat := if i < 32 then 0x400 + 4 * i else 0x480

/-- Store a frame in mailbox `i` (R270), or count it lost under KEEP_OLD. -/
def State.mbStore (s : State) (c i : Nat) (f : CanFrame) (st : Stamps) : State :=
  let p := canPage c
  let h := s.rd p (mbHdr i)
  let new := h.getLsbD 8
  let keep := if i < 32 then s.flag p (R.RXMB_FILT_KEEP_OLD i) else s.flag p (R.HPB_FILT_KEEP_OLD 0)
  let lostS (t : State) : State := (t.count p R.MB_LOST_CNT).raise p 10
  if new && keep then lostS (s.wr p (mbHdr i) (setBits h 9 9 1))
  else
    let d := s.fld p R.CAN_CTRL_TS_DOMAIN
    let t := st.read d
    let w := BitVec.ofNat 32 ((getBits h 7 0 + 1) % 256 + 2 ^ 8 + b2n (h.getLsbD 9 || new) * 2 ^ 9
      + b2n (f.data.length > 64) * 2 ^ 10 + b2n (st.isInvalid d) * 2 ^ 11 + f.data.length * 2 ^ 12 + f.fmt * 2 ^ 24
      + b2n f.brs * 2 ^ 26 + b2n f.esi * 2 ^ 27 + b2n f.rtr * 2 ^ 28 + b2n f.sec * 2 ^ 29)
    let k := s.chan c
    let x : CanStored := { id := f.id + b2n (f.ide && f.fmt != 2) * 2 ^ 29, sdt := f.sdt, vcid := f.vcid, af := f.af
                           ns := timeNs t, sec := timeSec t, data := f.data.take 64, stamp := st }
    let s1 := (s.wr p (mbHdr i) w).setChan c { k with mbs := mset k.mbs i x }
    let s2 := s1.raise p (if i < 32 then 0 else 1)
    if new then lostS s2 else s2

/-- The host side of the channel takes a frame: the high-priority buffer, else the lowest matching mailbox, else nothing. -/
def State.mbDeliver (s : State) (c : Nat) (f : CanFrame) (st : Stamps) : State :=
  let p := canPage c
  if (List.range 4).any fun k => filterMatches (s.rd p (0x0E0 + 8 * k)) (s.rd p (0x0E4 + 8 * k)) f then s.mbStore c 32 f st
  else
    match (List.range 32).find? fun i => filterMatches (s.rd p (0x500 + 4 * i)) (s.rd p (0x580 + 4 * i)) f with
    | some i => s.mbStore c i f st
    | none => s

/-- A read of RXMB_HDRi or HPB_HDR opens the mailbox (R271): the header before the read, the shadow loaded, NEW and LOST cleared. -/
def State.mbOpen (s : State) (c i : Nat) : State × Word :=
  let p := canPage c
  let h := s.rd p (mbHdr i)
  let x := (mget (s.chan c).mbs i).getD { id := 0, sdt := 0, vcid := 0, af := 0, ns := 0, sec := 0, data := [], stamp := s.canStamp c }
  let s1 := s.wr p R.SH_TAG_MB.off (BitVec.ofNat 32 (i + getBits h 7 0 * 2 ^ 8 + (s.fld p R.SH_TAG_OPEN + 1) * 2 ^ 16))
  let s2 := ((s1.wr p 0x604 h).wr p 0x608 (BitVec.ofNat 32 x.id)).wr p 0x60C (BitVec.ofNat 32 (x.sdt + x.vcid * 2 ^ 8))
  let s3 := ((s2.wr p 0x610 (BitVec.ofNat 32 x.af)).wr p 0x614 (BitVec.ofNat 32 x.ns)).wr p 0x618 (BitVec.ofNat 32 x.sec)
  let d := padTo x.data 64
  let s4 := (List.range 16).foldl (fun t k => t.wr p (0x620 + 4 * k) (BitVec.ofNat 32 (leNat ((d.drop (4 * k)).take 4)))) s3
  (s4.wr p (mbHdr i) (setBits h 9 8 0), h)

/-- The CAN frame that a command names. -/
def CanWire.frame (w : CanWire) : CanFrame :=
  { fmt := w.fmt.val, ide := w.ide && w.fmt.val != 2, id := if w.ide && w.fmt.val != 2 then w.id.toNat else w.id.toNat % 2 ^ 11
    brs := w.brs, rtr := w.rtr, esi := w.esi, sec := w.sec, sdt := w.sdt.toNat, vcid := w.vcid.toNat, af := w.af.toNat
    data := w.data }

/-- The counters after a received frame: REC falls (log entry 44), CAN_RX_FRAMES counts. -/
def State.heardCount (s : State) (c : Nat) : State :=
  let r := s.recCount c
  let s1 := if r > 127 then (s.putErr c (s.tec c) (119 + (Config.freeValue s.freeIx).toNat % 9)).draw
    else s.putErr c (s.tec c) (r - 1)
  s1.count (canPage c) R.CAN_RX_FRAMES

/-- A valid frame from another node (R253, R255, R272): RX_FRAMES, REC falls, ACK_RUN and SOLO clear. REC above 127 takes a free value
from 119 to 127 (log entry 44). -/
def State.canHeard (s : State) (c : Nat) : State :=
  (((s.heardCount c).errEval c).ackSeen c).setB (canPage c) R.CAN_STAT_BUS_IDLE false

/-- The message store of a channel is emptied without outcomes (R246, R469, R283). -/
def State.canEmpty (s : State) (c : Nat) : State :=
  let p := canPage c
  let s1 := (List.range 3).foldl (fun t b => t.putTxb c b false false false 0 false false 0) s
  let s2 := (List.range 33).foldl (fun t i => t.wr p (mbHdr i) 0) s1
  s2.setChan c { CanChan.empty with attached := (s.chan c).attached, timing := (s.chan c).timing, gens := (s.chan c).gens }

/-- A page soft reset (R246). -/
def State.canReset (s : State) (c : Nat) : State := ((s.canEmpty c).putErr c 0 0).integrate c

end Sys2Proof.Machine
end

