-- ==== Sys2Proof/Machine/TimeSys.lean ====
section
/-! DEFINITION. The time subsystem (chapter 10) but gPTP: counters, steps and validity, the servo, the integrity checks, pistols,
captures, CAN time synchronisation and time-triggered CAN. -/

namespace Sys2Proof.Machine

def pgDom (k : Nat) : Nat := 0x181 + k
def pgPtp : Nat := 0x188
def pgPistol : Nat := 0x18C
def pgCapture : Nat := 0x18D

/-! ### Counters (R310 to R314) -/

/-- The signed rate of domain `k`. -/
def State.rate (s : State) (k : Nat) : Int := signed (s.fld (pgDom k) R.DOM_RATE) 32

/-- What domain `k` gains in one reference cycle of 40 ns: twenty times 2 ns × (1 + RATE × 2^−40), exactly (R312). -/
def State.addend (s : State) (k : Nat) : Nat := ((40 * nsUnit : Nat) + 20 * 512 * s.rate k : Int).toNat

/-- `n` reference cycles pass. -/
def State.elapse (s : State) (n : Nat) : State :=
  let t := s.time
  { s with time := { t with tl := t.tl + n * (40 * nsUnit), t0 := t.t0 + n * s.addend 0, t1 := t.t1 + n * s.addend 1
                            t2 := t.t2 + n * s.addend 2, t3 := t.t3 + n * s.addend 3 } }

/-- Put the counter of domain `k`. Counters hold 48 bits of seconds. -/
def State.setClock (s : State) (k v : Nat) : State :=
  let v1 := v % (secUnit * 2 ^ 48)
  match k with
  | 0 => { s with time := { s.time with t0 := v1 } }
  | 1 => { s with time := { s.time with t1 := v1 } }
  | 2 => { s with time := { s.time with t2 := v1 } }
  | 3 => { s with time := { s.time with t3 := v1 } }
  | _ => s

/-! ### Pistols (R333 to R336) -/

def State.pistol (s : State) (p : Nat) : Pistol := (mget s.time.pistols p).getD { next := none, until_ := none }
def State.setPistol (s : State) (p : Nat) (x : Pistol) : State := { s with time := { s.time with pistols := mset s.time.pistols p x } }

/-- A counter reading in quarter-nanoseconds. -/
def quarters (t : Nat) : Nat := t / 2 ^ 46

/-- A register of nanoseconds in [29:0] and quarters in [31:30], in quarter-nanoseconds. -/
def nsQ (w : Word) : Nat := getBits w 29 0 * 4 + getBits w 31 30

def State.pstDomain (s : State) (p : Nat) : Nat := s.fld pgPistol (R.PST_CFG_DOMAIN p)
def State.pstEn (s : State) (p : Nat) : Bool := s.flag pgPistol (R.PST_CFG_EN p)
def State.pstMode (s : State) (p : Nat) : Nat := s.fld pgPistol (R.PST_CFG_MODE p)
def State.pstSec (s : State) (p : Nat) : Nat := s.fld pgPistol (R.PST_SEC_LO p) + s.fld pgPistol (R.PST_SEC_HI p) * 2 ^ 32
def State.pstNs (s : State) (p : Nat) : Nat := nsQ (s.rd pgPistol (0x04C + 32 * p))
def State.pstPeriod (s : State) (p : Nat) : Nat := nsQ (s.rd pgPistol (0x050 + 32 * p))
def State.pstWidth (s : State) (p : Nat) : Nat := 4 * s.fld pgPistol (R.PST_WIDTH p)
def State.pstCount (s : State) (p : Nat) : Nat := s.fld pgPistol (R.PST_CFG_COUNT p)

/-- Quarter-nanoseconds in a second. -/
def secQ : Nat := 4000000000

/-- q(j × 10^9 / N) in quarter-nanoseconds: nearest, ties upward (R333). -/
def perSecondEdge (j n : Nat) : Nat := (2 * secQ * j + n) / (2 * n)

/-- The smaller of two optional edges. -/
def firstEdge (a b : Option (Nat × Nat)) : Option (Nat × Nat) :=
  match a, b with
  | some x, some y => some (if y.2 < x.2 then y else x)
  | some x, none => some x
  | none, y => y

/-- The first edge of pistol `p` at or after `t`: its number k and time t_k (R333). -/
def State.nextEdge (s : State) (p t : Nat) : Option (Nat × Nat) :=
  let sec := s.pstSec p
  let ns := s.pstNs p
  let start := sec * secQ + ns
  let limit (e : Nat × Nat) : Option (Nat × Nat) := if s.pstCount p == 0 || e.1 < s.pstCount p then some e else none
  match s.pstMode p with
  | 0 => if start ≥ t then some (0, start) else none
  | 1 =>
    let k := if t ≤ start then 0 else ceilDiv (t - start) (s.pstPeriod p)
    limit (k, start + k * s.pstPeriod p)
  | _ =>
    let n := s.pstPeriod p / 4 % 2 ^ 16
    let base := max sec ((t - ns) / secQ)
    let cands := [base, base + 1].flatMap fun c =>
      let j0 := (t - (c * secQ + ns)) * n / secQ
      [j0 - 1, j0, j0 + 1, j0 + 2].map fun j => (c, j)
    let edges := (cands.filter fun e => e.2 < n).map fun e => ((e.1 - sec) * n + e.2, e.1 * secQ + ns + perSecondEdge e.2 n)
    ((edges.filter fun e => e.2 ≥ t).foldl (fun a e => firstEdge a (some e)) none).bind limit

/-- Drive the output of pistol `p`. -/
def State.driveP (s : State) (p : Nat) (active : Bool) : State :=
  let s1 := s.setB pgPistol (R.PST_STAT_LEVEL p) active
  if s.flag pgPistol (R.PST_STAT_LEVEL p) == active then s1
  else s1.emit (.pin (.pistol p) (active != s.flag pgPistol (R.PST_CFG_INVERT p)))

/-- A pistol misses its start (R335). -/
def State.pstLate (s : State) (p : Nat) : State :=
  (s.raise pgPistol p).captureInternal pgPistol (R.PST_STAT_LEVEL p).off Code.PST_LATE

/-- A pistol restarts at a swap (R335); `a` is the state before it. The pulse in progress completes its old width, in the new domain too and where
the heat has switched the pistol off. -/
def State.restartPistol (a s : State) (p : Nat) : State :=
  let was : Int := quarters (a.clock (a.pstDomain p))
  let now : Int := quarters (s.clock (s.pstDomain p))
  let x : Pistol := { s.pistol p with until_ := (s.pistol p).until_.map fun t => ((t : Int) - was + now).toNat }
  if !s.pstEn p then
    let s1 := ((s.setPistol p { x with next := none }).setB pgPistol (R.PST_STAT_ARMED p) false).setB pgPistol (R.PST_STAT_HELD p)
      (x.until_.isSome && !s.domainValid (s.pstDomain p))
    if x.until_.isSome then s1 else s1.driveP p false
  else
    let t := max now.toNat (x.until_.getD 0)
    let e := s.nextEdge p t
    let s1 := (s.setPistol p { x with next := e }).setB pgPistol (R.PST_STAT_ARMED p) e.isSome
    let s2 := s1.setB pgPistol (R.PST_STAT_HELD p) (!s.domainValid (s.pstDomain p))
    if e.isNone && s.pstMode p == 0 then s2.pstLate p else s2

/-- The reading of DOMAIN against which edges are compared: the edge leaves its ball PST_CORR earlier (R334). -/
def State.pstNow (s : State) (p : Nat) : Int :=
  (quarters (s.clock (s.pstDomain p)) : Int) + signed (s.fld pgPistol (R.PST_CORR p)) 16

/-- Pistols run: TIME is on PLL2 (R88, R343). -/
def State.pistolsRun (s : State) : Bool :=
  s.clocked 2 && !s.flag pgTime R.TIME_STAT_ON_REF && s.mode.power != .rest && s.mode.service != .maintain

/-- Pistol `p` reaches its next edge. -/
def State.pistolDue (s : State) (p : Nat) : Bool :=
  s.pstEn p && s.pistolsRun && s.domainValid (s.pstDomain p) && match (s.pistol p).next with
    | some e => (e.2 : Int) ≤ s.pstNow p
    | none => false

/-- An edge: the pulse starts (R333). -/
def State.pistolEdge (s : State) (p : Nat) : State :=
  match (s.pistol p).next with
  | none => s
  | some (_, t) =>
    let s1 := s.setPistol p { next := s.nextEdge p (t + 1), until_ := some (t + s.pstWidth p) }
    let s2 := ((s1.setB pgPistol (R.PST_STAT_ARMED p) false).countN pgPistol (R.PST_STAT_PULSES p) 1).driveP p true
    if s.pstMode p == 0 then s2.setPistol p { s2.pistol p with next := none } else s2

/-- The pulse in progress has lasted its width. -/
def State.pulseDue (s : State) (p : Nat) : Bool :=
  s.pistolsRun && s.domainValid (s.pstDomain p) && match (s.pistol p).until_ with
    | some t => (t : Int) ≤ s.pstNow p
    | none => false

def State.pulseEnd (s : State) (p : Nat) : State := (s.setPistol p { s.pistol p with until_ := none }).driveP p false

/-- The pistols of domain `k` that run, or that complete a pulse. -/
def State.pistolsOf (s : State) (k : Nat) : List Nat :=
  (List.range 16).filter fun p => (s.pstEn p || (s.pistol p).until_.isSome) && s.pstDomain p == k

/-- The domain of a pistol steps or becomes valid again: a pulse ends at once, and the train resumes strictly after the new time (R336). -/
def State.resumePistol (s : State) (p : Nat) : State :=
  let s1 := (s.driveP p false).setB pgPistol (R.PST_STAT_HELD p) false
  s1.setPistol p { next := if s.pstEn p then s.nextEdge p (quarters (s.clock (s.pstDomain p)) + 1) else none, until_ := none }

/-- Every pistol stops at its inactive level (R343). -/
def State.stopPistols (s : State) : State :=
  let s1 := (List.range 16).foldl (fun t p => t.driveP p false) s
  { s1 with time := { s1.time with pistols := [] } }

/-! ### Time-triggered CAN (R341, R342) -/

def ttCycle (e : Entry) : Nat := eBits e 29 0
def ttDomain (e : Entry) : Nat := eBits e 82 80
def ttBase (e : Entry) : Nat := (eBits e 63 32 + eBits e 79 64 * 2 ^ 32) * 1000000000 + eBits e 125 96
def ttOffset (e : Entry) : Nat := eBits e 29 0
def ttWindow (e : Entry) : Nat := eBits e 61 32
def ttTxb (e : Entry) : Nat := eBits e 65 64

/-- The window of entry `j` of channel `c` that contains the present time: its close time. -/
def State.ttOpenNow (s : State) (c j : Nat) : Option Nat :=
  match s.ttSchedule c, mget s.time.tt c with
  | some e, some s0 =>
    let t := s.nowNs (ttDomain e)
    let x := s.ttEntryAt c j
    if !s.domainValid (ttDomain e) || j ≥ ttLength e || t < s0 then none
    else
      let o := s0 + (t - s0) / max 1 (ttCycle e) * ttCycle e + ttOffset x
      if o ≤ t && t < o + ttWindow x then some (o + ttWindow x) else none
  | _, _ => none

/-- Open the window of entry `j`. -/
def State.ttOpen (s : State) (c j : Nat) : State :=
  match s.ttOpenNow c j with
  | none => s
  | some close =>
    let k := s.chan c
    s.setChan c { k with windows := mset k.windows (j * 4 + ttTxb (s.ttEntryAt c j)) close }

/-- The windows of channel `c` for which `shut` holds close; one whose buffer is still requested counts TT_MISSED. -/
def State.ttShut (s : State) (c : Nat) (shut : Nat × Nat → Bool) : State :=
  let k := s.chan c
  let s1 := s.setChan c { k with windows := k.windows.filter fun w => !shut w }
  (k.windows.filter shut).foldl (fun u w => if (mget k.bufs (w.1 % 4)).isSome then u.count pgTt (R.TT_MISSED c) else u) s1

/-- Close the windows whose time has come. -/
def State.ttClose (s : State) (c : Nat) : State :=
  s.ttShut c fun w => match s.ttSchedule c with
    | some e => Nat.ble w.2 (s.nowNs (ttDomain e))
    | none => true

/-- A schedule starts at a swap under ALIGN, with every window closed. -/
def State.startTt (s : State) (c : Nat) : State :=
  let s1 := s.ttShut c fun _ => true
  match s.ttSchedule c with
  | none => { s1 with time := { s1.time with tt := mdel s1.time.tt c } }
  | some e =>
    let s0 := alignStart (s.nowNs (ttDomain e)) (ttBase e) (ttCycle e)
    { s1 with time := { s1.time with tt := mset s1.time.tt c s0 } }

/-- After a step, a change of validity: the windows are those that contain the new time (R319, R342). -/
def State.ttResync (s : State) (k : Nat) : State :=
  (List.range 48).foldl (fun t c =>
    match t.ttSchedule c with
    | none => t
    | some e =>
      if ttDomain e == k then
        (List.range (ttLength e)).foldl (fun u j => u.ttOpen c j) (t.ttShut c fun w => (t.ttOpenNow c (w.1 / 4)).isNone)
      else t) s

/-! ### Validity and steps (R311, R314, R318, R319) -/

/-- What follows the domain of hurdle lists and stream gates at once (R222, R239). -/
def State.syncGates (s : State) (k : Nat) : State :=
  let s1 := (List.range 28).foldl (fun t n => if t.hlEn n && t.hlDomain n == k then t.stepList n else t) s
  (s1.fwd.gates.map (·.1)).foldl (fun t g =>
    match t.pairGet pgGate g t.heat.liveE with
    | some e => if gDomain e == k then t.advanceGate g else t
    | none => t) s1

/-- Domain `k` is valid again: a heat held on it whose time has passed goes live 50 µs from now (R131). -/
def State.releaseHeld (s : State) (k : Nat) : State :=
  match s.heat.armed with
  | h :: t =>
    if h.domain == k && h.lateTime.isNone && h.time ≤ s.clock k then
      { s with heat := { s.heat with armed := { h with late := true, lateTime := some (s.time.tl + usT 50) } :: t } }
    else s
  | [] => s

/-- Set the validity of domain `k` and what R319 and R336 make of it. -/
def State.setValid (s : State) (k : Nat) (v : Bool) : State :=
  if s.domainValid k == v then s
  else
    let bits := s.fld pgTime R.TIME_STAT_VALID
    let s1 := s.setF pgTime R.TIME_STAT_VALID (if v then bits + 2 ^ k else bits - 2 ^ k)
    let s2 := (s1.setB (pgDom k) R.DOM_STAT_VALID v).raise (pgDom k) 0
    let s3 := if v then (s.pistolsOf k).foldl (fun t p => t.resumePistol p) s2
      else (s.pistolsOf k).foldl (fun t p => t.setB pgPistol (R.PST_STAT_HELD p) true) s2
    let s4 := (s3.ttResync k).syncGates k
    if v then s4.releaseHeld k else s4

/-- A step has set domain `k`: the armed heats of it whose time has passed swap, whatever the domain does before they can (R130). -/
def State.stepHeats (s : State) (k : Nat) : State :=
  let past (h : Armed) : Bool := h.domain == k && h.lateTime.isNone && s.domainValid k && Nat.ble h.time (s.clock k)
  { s with heat := { s.heat with armed := s.heat.armed.map fun h => if past h then { h with stepped := true } else h } }

/-- A step of domain `k` to counter value `v` (R314): `op` 1 SET, 2 ADJ. -/
def State.stepTo (s : State) (k v op : Nat) : State :=
  let before := s.clock k
  let s1 := s.setClock k v
  let rec_ : LogRec :=
    { type := 3, page := pgDom k, tl := 0, tsInvalid := false, code := 0, arg0 := k, arg1 := op, arg2 := 0
      payload := timeTriple before ++ [0] ++ timeTriple (s1.clock k) ++ [0] }
  let s2 := (((s1.count (pgDom k) R.STEP_CNT).raise (pgDom k) 1).record rec_)
  let s3 := (s2.pistolsOf k).foldl (fun t p => if t.domainValid k then t.resumePistol p else t) s2
  (s3.stepHeats k |>.ttResync k).syncGates k

/-- SET_CMD = SET and ADJ (R314). -/
def State.timeSet (s : State) (k : Nat) : State × Nat :=
  let ns := (s.rd (pgDom k) R.SET_NS.off).toNat
  if ns > 999999999 then (s, Code.TIME_NS_RANGE)
  else
    let sec := s.fld (pgDom k) R.SET_SEC_LO + s.fld (pgDom k) R.SET_SEC_HI * 2 ^ 32
    let s1 := s.stepTo k (timeOf sec ns 0) 1
    ((({ s1 with time := { s1.time with dual := mdel s1.time.dual k, dualWaits := s1.time.dualWaits.filter (· != k) } }).setValid k true), 0)

def State.timeAdj (s : State) (k : Nat) : State :=
  let d := signed (s.rd (pgDom k) R.SET_NS.off).toNat 32
  s.stepTo k (moved (s.clock k) (d * (nsUnit : Nat))) 2

/-! ### The servo (R315 to R317) -/

def State.servoState (s : State) (k : Nat) : Nat := s.fld (pgDom k) R.DOM_STAT_SERVO

/-- Put the servo state; LOCK_CHANGE where LOCKED is entered or left. -/
def State.setServo (s : State) (k st : Nat) : State :=
  let was := s.servoState k
  let s1 := s.setF (pgDom k) R.DOM_STAT_SERVO st
  if (was == 2) != (st == 2) then s1.raise (pgDom k) 2 else s1

def State.servo (s : State) (k : Nat) : Servo := (mget s.time.servo k).getD { ri := 0, n := 0, last := none }
def State.putServo (s : State) (k : Nat) (x : Servo) : State := { s with time := { s.time with servo := mset s.time.servo k x } }

/-- Put RATE. -/
def State.setRate (s : State) (k : Nat) (r : Int) : State := s.setF (pgDom k) R.DOM_RATE (unsigned r 32)

def clampI (x lo hi : Int) : Int := max lo (min x hi)

/-- A value limited to ±(2^31 − 1), as a 32-bit pattern. -/
def sat31 (x : Int) : Nat := unsigned (clampI x (-2147483647) 2147483647) 32

/-- The servo goes to HOLDOVER (R317, R323). -/
def State.toHoldover (s : State) (k : Nat) : State :=
  if s.servoState k == 1 || s.servoState k == 2 then (s.setServo k 3).raise (pgDom k) 3 else s

/-- HOLD_TO of a domain, in counter units. -/
def State.holdTo (s : State) (k : Nat) : Nat := msT (max 1 (s.fld (pgDom k) R.SERVO_HOLD_HOLD_TO))

/-- A sample that is used (R316): `e` in units of 2^-16 ns, `dt` in ns. -/
def State.useSample (s : State) (k : Nat) (e : Int) (dt : Int) : State :=
  let p := pgDom k
  let x := s.servo k
  let lim : Int := (max 1 (s.fld p R.SERVO_HOLD_RATE_LIM) : Nat) * 2 ^ 20
  let stepTh : Int := (s.fld p R.SERVO_TH_STEP_TH : Nat) * 1000 * 2 ^ 16
  let lockTh : Int := (s.fld p R.SERVO_TH_LOCK_TH : Nat) * 2 ^ 16
  let abs_ : Int := (e.natAbs : Nat)
  if s.servoState k == 0 then (s.putServo k { x with ri := s.rate k, n := 0 }).setServo k 1
  else if s.flag p R.DOM_CFG_STEP_EN && stepTh != 0 && abs_ > stepTh then
    let s1 := s.stepTo k (moved (s.clock k) (-e * 2 ^ 32)) 2
    ((s1.setRate k x.ri).putServo k { x with n := 0 }).setServo k 1
  else
    let s0 := if s.servoState k == 3 then s.setServo k 1 else s
    let n0 := if s.servoState k == 3 then 0 else x.n
    let ri := clampI (x.ri - (((s.fld p R.SERVO_GAIN_KI : Nat) : Int) * e * 256).tdiv dt) (-lim) lim
    let r := clampI (ri - (((s.fld p R.SERVO_GAIN_KP : Nat) : Int) * e * 256).tdiv dt) (-lim) lim
    let n := if abs_ ≤ lockTh then n0 + 1 else 0
    let s1 := (s0.setRate k r).putServo k { x with ri := ri, n := n }
    let s2 := if s1.servoState k == 1 && n ≥ s.fld p R.SERVO_TH_LOCK_CNT then (s1.setServo k 2).setValid k true else s1
    if s2.servoState k == 2 && abs_ > 2 * lockTh then (s2.setServo k 1).putServo k { s2.servo k with n := 0 } else s2

/-- Counter B of domain `k` (R318). -/
def State.counterB (s : State) (k : Nat) : Nat := moved (s.clock k) ((mget s.time.dual k).getD 0)

/-- Put B − A of domain `k`; the domain waits for its source or not. -/
def State.setDual (s : State) (k : Nat) (d : Int) (waits : Bool) : State :=
  { s with time := { s.time with dual := if d = 0 then mdel s.time.dual k else mset s.time.dual k d
                                 dualWaits := (s.time.dualWaits.filter (· != k)) ++ (if waits then [k] else [])
                                 dualValid := s.time.dualValid.filter fun j => waits || j != k } }

/-- Counter B is reloaded from A and the servo returns to ACQUIRE, where it counts anew (R318). One that was FREE starts from the rate in force;
HOLD_TO runs for it as for any servo in ACQUIRE (R317). -/
def State.reloadB (s : State) (k : Nat) : State :=
  let x := s.servo k
  let t := ((s.setDual k 0 false).putServo k { x with n := 0, ri := if s.servoState k == 0 then s.rate k else x.ri }).setServo k 1
  if t.running (.holdover k) then t else t.start (.holdover k) (t.holdTo k)

/-- The source decides between two counters that disagree (R318): the state, in which a domain that was valid before they did is so again, and the
offset as the surviving counter has it. -/
def State.thirdReference (s : State) (k : Nat) (e : Int) : State × Int :=
  if !s.time.dualWaits.contains k then (s, e)
  else
    let lockTh : Int := (s.fld (pgDom k) R.SERVO_TH_LOCK_TH : Nat) * 2 ^ 16
    let eb := e + ((mget s.time.dual k).getD 0).tdiv (2 ^ 32)
    let near (x : Int) : Bool := ((x.natAbs : Nat) : Int) ≤ lockTh
    if near e != near eb then
      let s1 := (if near e then s else s.setClock k (s.counterB k)).setDual k 0 false
      let s2 := (s1.count pgTime R.DUAL_REPAIR).raise pgTime 1
      (if s.time.dualValid.contains k then s2.setValid k true else s2, if near e then e else eb)
    else (s.reloadB k, e)

/-- An offset sample of domain `k` (R315, R316): `e` in units of 2^-16 ns, taken at TL time `t`. With no sample used before there is no dt, and
it only counts as the first (DEDUCED, log entry 171). -/
def State.sample (s : State) (k : Nat) (e0 : Int) (t : Nat) : State :=
  let p := pgDom k
  let (sa, e) := s.thirdReference k e0
  let s1 := ((sa.setF p R.DOM_OFFSET (sat31 (e.tdiv 65536))).count p R.SAMPLES).start (.holdover k) (s.holdTo k)
  let now := nsOf_ t
  match (s1.servo k).last with
  | some l =>
    let dt : Int := (now : Int) - (l : Int)
    if dt == 0 then s1
    else (s1.putServo k { s1.servo k with last := some now }).useSample k e dt
  | none =>
    let s2 := s1.putServo k { s1.servo k with last := some now }
    if s2.servoState k == 0 then s2.useSample k e 1 else s2
where
  nsOf_ (t : Nat) : Nat := t / nsUnit

/-- A change of DOM_CFG.SRC to NONE frees the servo (R317). -/
def State.freeServo (s : State) (k : Nat) : State :=
  (((s.setServo k 0).putServo k { ri := 0, n := 0, last := none }).stop (.holdover k))

/-! ### Integrity (R318, R320) -/

/-- The check of domain `k`: its counter B is found to differ from A by `d` counter units. -/
def State.dualCheck (s : State) (k : Nat) (d : Int) : State :=
  if ((d.natAbs : Nat)) ≤ nsT 2 then s.setDual k d (s.time.dualWaits.contains k)
  else
    let s1 := ((s.setValid k false).count pgTime R.DUAL_INVALID).raise pgTime 2
    let s2 := s1.captureInternal pgTime R.DUAL_INVALID.off Code.TIME_DUAL
    let s3 := if s.domainValid k then { s2 with time := { s2.time with dualValid := s2.time.dualValid.filter (· != k) ++ [k] } } else s2
    if s.fld (pgDom k) R.DOM_CFG_SRC != 0 then s3.setDual k d true else s3.reloadB k

/-- Counters 1 and 2 of TL relative to counter 0, and TL itself where it is the odd one. -/
def State.setTl (s : State) (tl : Nat) (d : Int × Int) : State := { s with time := { s.time with tl := tl, tlOff := d } }

/-- The vote over TL's three counters (R320), of which 1 and 2 are found to differ from counter 0 by `a` and `b` counter units. Where only two
pairs agree, no counter is the odd one and nothing is reloaded (DEDUCED, log entry 163). -/
def State.tlVote (s : State) (a b : Int) : State :=
  let near (x : Int) : Bool := x.natAbs ≤ nsT 2
  let pairs := b2n (near a) + b2n (near b) + b2n (near (a - b))
  if pairs ≥ 2 then (s.setTl s.time.tl (a, b)).setB pgTime R.TIME_STAT_TL_SPLIT false
  else if pairs == 1 then
    let s1 := if near a then s.setTl s.time.tl (a, 0) else if near b then s.setTl s.time.tl (0, b)
      else s.setTl (moved s.time.tl a) (0, b - a)
    (s1.count pgTime R.TL_REPAIR).setB pgTime R.TIME_STAT_TL_SPLIT false
  else
    let s1 := ((s.setTl s.time.tl (0, 0)).setB pgTime R.TIME_STAT_TL_SPLIT true).raise pgTime 3
    let s2 := s1.captureInternal pgTime R.TIME_STAT_VALID.off Code.TIME_TL_VOTE
    let s3 := { s2.assertFaultN with fault := { s2.assertFaultN.fault with tlSplit := true } }
    s3.faultRecord pgTime R.TIME_STAT_VALID.off Code.TIME_TL_VOTE

/-- Every stamp that the state holds, changed by `f`. -/
def Frame.restamp (f : Stamps → Stamps) (x : Frame) : Frame := { x with stamp := f x.stamp }
def Pdu.restamp (f : Stamps → Stamps) (x : Pdu) : Pdu := { x with stamp := f x.stamp }
def EgressPort.restamp (f : Stamps → Stamps) (x : EgressPort) : EgressPort :=
  let one (y : Option Sending) : Option Sending := y.map fun z => { z with stamp := z.stamp.map f }
  { x with express := one x.express, preempt := one x.preempt }
def RxItem.restamp (f : Stamps → Stamps) (x : RxItem) : RxItem := { x with stamp := f x.stamp, pdu := x.pdu.map (Pdu.restamp f) }
def Paced.restamp (f : Stamps → Stamps) (x : Paced) : Paced :=
  { x with rings := x.rings.map fun e => (e.1, e.2.1, e.2.2.restamp f)
           mirrors := x.mirrors.map fun e => (e.1, match e.2 with
             | .ring fn r y => .ring fn r (y.restamp f)
             | y => y) }
def Ring.restamp (f : Stamps → Stamps) (x : Ring) : Ring :=
  { x with queue := x.queue.map (RxItem.restamp f)
           waits := x.waits.map fun y => { y with stamp := y.stamp.map fun z => (z.1, f z.2) } }
def mmap {α : Type} (f : α → α) (m : SMap α) : SMap α := m.map fun e => (e.1, f e.2)
def State.restamp (s : State) (f : Stamps → Stamps) : State :=
  { s with
    fwd := { s.fwd with classQ := s.fwd.classQ.map (Frame.restamp f), lookQ := s.fwd.lookQ.map (Frame.restamp f)
                        acfIn := s.fwd.acfIn.map fun e => (e.1, e.2.restamp f), ports := mmap (EgressPort.restamp f) s.fwd.ports
                        pacers := mmap (List.map (Paced.restamp f)) s.fwd.pacers }
    eth := { s.eth with asm := mmap (fun (a : Assembly) => { a with stamp := f a.stamp }) s.eth.asm }
    rings := mmap (Ring.restamp f) s.rings
    can := mmap (fun (c : CanChan) => { c with sof := c.sof.map f, mbs := mmap (fun (m : CanStored) => { m with stamp := f m.stamp }) c.mbs }) s.can
    relay := { s.relay with
      coming := s.relay.coming.map (Pdu.restamp f), inq := s.relay.inq.map (Pdu.restamp f)
      waiting := s.relay.waiting.map fun w => { w with copy := { w.copy with stamp := f w.copy.stamp } }
      builders := mmap (fun (b : Builder) => { b with msgs := b.msgs.map fun m => { m with stamp := f m.stamp } }) s.relay.builders }
    time := { s.time with
      egress := mmap (fun e => (e.1, f e.2)) s.time.egress
      gptp := mmap (fun (g : Gptp) => { g with sync := g.sync.map fun y => (y.1, y.2.1, f y.2.2.1, y.2.2.2) }) s.time.gptp
      cts := mmap (fun (c : CtsSlot) => { c with sync := c.sync.map fun y => (y.1, f y.2.1, y.2.2) }) s.time.cts } }

/-- The frames stored in mailboxes with a stamp that the fault makes INVALID show TS_INVALID, bit 11 of their header (R19, R270). -/
def State.spoilMailboxes (s : State) (off : List Island) : State :=
  s.can.foldl (fun t e => e.2.mbs.foldl (fun u x =>
    if off.contains x.2.stamp.island && Nat.ble s.time.updated.tl x.2.stamp.tl then
      u.wr (canPage e.1) (mbHdr x.1) (u.rd (canPage e.1) (mbHdr x.1) ||| BitVec.ofNat 32 (2 ^ 11))
    else u) t) s

/-- The captures since the last update are INVALID where their island is found off. -/
def State.spoilCaptures (s : State) : State :=
  let since (i : Nat) : Nat := s.time.updated.read (s.fld pgCapture (R.CAP_CFG_DOMAIN i))
  { s with time := { s.time with caps := s.time.caps.map fun e =>
      (e.1, { e.2 with fifo := e.2.fifo.map fun y => (y.1, y.2.1, y.2.2 || Nat.ble (quarters (since e.1)) y.1) }) } }

/-- An update of every replica (R18, R19): the islands found off. The stamps that such an island took since the previous update, and those that it
takes until the next (R321), are INVALID. -/
def State.fanout (s : State) (off0 : List Island) : State :=
  let off := off0.eraseDups
  let a := if off.isEmpty then s else (s.spoilMailboxes off).restamp fun x => x.spoilt off s.time.updated.tl
  let b := if off.contains .time then a.spoilCaptures else a
  let late (r : LogRec) : LogRec :=
    if off.contains (pageIsland r.page) && Nat.ble s.time.updated.tl r.tl then { r with tsInvalid := true } else r
  let s1 := { b with log := { b.log with coming := b.log.coming.map late }, time := { b.time with
    off := off, updated := { t0 := s.time.t0, t1 := s.time.t1, t2 := s.time.t2, t3 := s.time.t3, tl := s.time.tl, invalid := 0, island := .time } } }
  off.foldl (fun t _ => ((t.count pgTime R.FANOUT_FAULT).raise pgTime 0).captureInternal pgTime R.FANOUT_FAULT.off Code.TIME_FANOUT) s1

/-! ### Latched reading (R313) -/

/-- A read of a FRAC word latches its group (0 to 3 the domains, 4 TL) for the reading master. -/
def State.latchTime (s : State) (g m : Nat) : State :=
  { s with time := { s.time with latches := mset s.time.latches (g * 16 + m) (s.clock g) } }

def State.latched (s : State) (g m : Nat) : Nat := (mget s.time.latches (g * 16 + m)).getD 0

/-! ### Captures (R337) -/

def State.capture_ (s : State) (i : Nat) : Capture := (mget s.time.caps i).getD { fifo := [], last := none }
def State.setCapture (s : State) (i : Nat) (x : Capture) : State := { s with time := { s.time with caps := mset s.time.caps i x } }

/-- The offset that a pulse per second gives (R315): the nanoseconds of its stamp, on the 250 ps grid, to the nearest second, in units of 2^-16 ns. -/
def ppsOffset (t : Nat) : Int :=
  let f := quarters t % secQ
  (if f < secQ / 2 then (f : Int) else (f : Int) - (secQ : Nat)) * 2 ^ 14

/-- An edge on capture input `i` with stamp `st` enters the FIFO where EDGE takes it. -/
def State.captureStore (s : State) (i : Nat) (rising : Bool) (st : Stamps) : State :=
  let c := s.capture_ i
  let mode := s.fld pgCapture (R.CAP_CFG_EDGE i)
  let d := s.fld pgCapture (R.CAP_CFG_DOMAIN i)
  if (mode == 0 && !rising) || (mode == 1 && rising) then s
  else if c.fifo.length ≥ 16 then (s.count pgCapture (R.CAP_OVF i)).raise pgCapture (8 + i)
  else
    let s1 := s.setCapture i { c with fifo := c.fifo ++ [(quarters (st.read d), rising, st.isInvalid d)] }
    if c.fifo.isEmpty then s1.raise pgCapture i else s1

/-- An edge on capture input `i` (R337). With EN = 0 the input takes no edge; a rising one feeds the servos that the input steers whatever EDGE
says (R315; DEDUCED, log entry 162). -/
def State.captureEdge (s : State) (i : Nat) (rising : Bool) : State :=
  let c := s.capture_ i
  let near : Bool := match c.last with
    | some l => Nat.blt s.time.tl (l + nsT 2)
    | none => false
  let s0 := s.setCapture i { c with last := some s.time.tl }
  if near then s
  else if !s.flag pgCapture (R.CAP_CFG_EN i) then s0
  else
    let corr : Int := -(signed (s.fld pgCapture (R.CAP_CORR i)) 16) * 2 ^ 46
    let st := s.stampBy corr .time
    let s1 := s0.captureStore i rising st
    if !rising then s1
    else
      (List.range 4).foldl (fun t k =>
        if t.fld (pgDom k) R.DOM_CFG_SRC == 3 && t.fld (pgDom k) R.DOM_CFG_SRC_IDX == i then
          t.sample k (ppsOffset (st.read k)) st.tl
        else t) s1

/-- A read of CAP_TS_NS pops the oldest entry. -/
def State.capPop (s : State) (i : Nat) : State × Word :=
  let c := s.capture_ i
  match c.fifo with
  | [] => (s, 0)
  | (q, rising, inv) :: t =>
    let sec := q / secQ
    let s1 := (s.setCapture i { c with fifo := t }).setF pgCapture (R.CAP_TS_SEC i) (sec % 2 ^ 32)
    let hi := sec / 2 ^ 32 % 2 ^ 16 + q % 4 * 2 ^ 16 + b2n inv * 2 ^ 18 + t.length * 2 ^ 24
    (s1.wr pgCapture (0x04C + 32 * i) (BitVec.ofNat 32 hi), BitVec.ofNat 32 (q % secQ / 4 + b2n rising * 2 ^ 30 + 2 ^ 31))

/-! ### CAN time synchronisation (R338, R339) -/

def State.ctsSlot (s : State) (i : Nat) : CtsSlot := (mget s.time.cts i).getD { sc := 0, next := none, sync := none }
def State.setCts (s : State) (i : Nat) (x : CtsSlot) : State := { s with time := { s.time with cts := mset s.time.cts i x } }

/-- The message of slot `i`: type byte, user bytes, TDOM and SC, byte 3, the four bytes of time. -/
def State.ctsFrame (s : State) (i : Nat) (sc type user b3 time : Nat) : CanFrame :=
  let tdom := s.fld pgCts (R.CTS_CFG_TDOM i)
  { fmt := 0, ide := s.flag pgCts (R.CTS_CFG_IDE i), id := s.fld pgCts (R.CTS_ID i), brs := false, rtr := false, esi := false
    sec := false, sdt := 0, vcid := 0, af := 0
    data := [BitVec.ofNat 8 type, BitVec.ofNat 8 user, BitVec.ofNat 8 (tdom * 16 + sc), BitVec.ofNat 8 b3]
      ++ beBytes (time % 2 ^ 32) 4 }

def State.ctsChannel (s : State) (i : Nat) : Nat := s.fld pgCts (R.CTS_CFG_CHANNEL i)
def State.ctsDomain (s : State) (i : Nat) : Nat := s.fld pgCts (R.CTS_CFG_DOMAIN i)
def State.ctsUser (s : State) (i k : Nat) : Nat := s.fld pgCts (R.CTS_USER_USER i) / 2 ^ (8 * k) % 256

/-- A master slot is due to push a SYNC. -/
def State.ctsDue (s : State) (i : Nat) : Bool :=
  s.flag pgCts (R.CTS_CFG_EN i) && !s.flag pgCts (R.CTS_CFG_DIR i) && s.fld pgCts (R.CTS_TIME_PERIOD i) != 0
    && s.domainValid (s.ctsDomain i) && s.canOn (s.ctsChannel i) && match (s.ctsSlot i).next with
      | some t => t ≤ s.clock (s.ctsDomain i)
      | none => true

/-- Push the SYNC of slot `i` (R339). -/
def State.ctsPush (s : State) (i : Nat) : State :=
  let period := msT (s.fld pgCts (R.CTS_TIME_PERIOD i))
  let x := s.ctsSlot i
  let now := s.clock (s.ctsDomain i)
  let s1 := s.setCts i { x with sc := (x.sc + 1) % 16, next := some ((x.next.getD now) + period) }
  (s1.canEnqueue (s.ctsChannel i) (s1.ctsFrame i ((x.sc + 1) % 16) 0x10 (s.ctsUser i 0) (s.ctsUser i 1) 0) false (some (s.time.tl + period))
    (some (i, false))).1

/-- The SYNC of slot `i` with SC `sc` is done: its FUP is pushed with the same t0, where the domain is still valid (R319, R339). -/
def State.ctsFup (s : State) (i sc : Nat) (t0 : Stamps) : State :=
  let t := t0.read (s.ctsDomain i)
  let f := s.ctsFrame i sc 0x18 (s.ctsUser i 2) (timeSec t / 2 ^ 32 % 4) (timeNs t)
  if s.domainValid (s.ctsDomain i) then (s.canEnqueue (s.ctsChannel i) f false none (some (i, true))).1 else s

/-- Slave slot `i` acts on a frame of its channel. -/
def State.ctsMatches (s : State) (i c : Nat) (f : CanFrame) (type : Nat) : Bool :=
  s.flag pgCts (R.CTS_CFG_EN i) && s.flag pgCts (R.CTS_CFG_DIR i) && s.ctsChannel i == c && f.fmt == 0 && !f.rtr
    && f.id == s.fld pgCts (R.CTS_ID i) && f.ide == s.flag pgCts (R.CTS_CFG_IDE i) && f.data.length == 8
    && byteAt f.data 0 == type && byteAt f.data 2 / 16 == s.fld pgCts (R.CTS_CFG_TDOM i)

/-- A SYNC reaches slave slot `i`; `sof` its start-of-frame stamps. -/
def State.ctsSync (s : State) (i : Nat) (f : CanFrame) (sof : Stamps) : State :=
  s.setCts i { s.ctsSlot i with sync := some (byteAt f.data 2 % 16, sof, beAt f.data 4 4) }

/-- The seconds with bits [33:0] given that lie nearest a time. -/
def nearestSec (low r : Nat) : Nat :=
  let w := 2 ^ 34
  let base := timeSec r / w * w + low
  let d (x : Nat) : Nat := ((x : Int) - (timeSec r : Int)).natAbs
  let up := base + w
  let down := base - w
  if d up < d base then up else if base ≥ w && d down < d base then down else base

/-- A FUP reaches slave slot `i`: a sample, or a discard counted in CTS_LOST. -/
def State.ctsFollow (s : State) (i : Nat) (f : CanFrame) : State :=
  let lost := (s.count pgCts (R.CTS_LOST i)).captureInternal pgCts (R.CTS_LOST i).off Code.CTS_FUP_LOST
  match (s.ctsSlot i).sync with
  | none => lost
  | some (sc, st, sec) =>
    let limit := msT (max 1 (s.fld pgCts (R.CTS_TIME_FUP_TIMEOUT i)))
    if sc != byteAt f.data 2 % 16 || s.time.tl > st.tl + limit then lost
    else
      let k := s.ctsDomain i
      let r := st.read k
      let low := sec + byteAt f.data 3 % 4 * 2 ^ 32
      let m := timeOf (nearestSec low r) (beAt f.data 4 4) 0 + nsT (10 * s.fld pgCts (R.CTS_USER_PROP i))
      let s1 := s.setCts i { s.ctsSlot i with sync := none }
      if s.fld (pgDom k) R.DOM_CFG_SRC == 4 && s.fld (pgDom k) R.DOM_CFG_SRC_IDX == i then
        s1.sample k (((r : Int) - (m : Int)).tdiv (2 ^ 32)) st.tl
      else s1

/-- The slave slots that act on a frame of channel `c` as one of the given type (R339). -/
def State.ctsTakers (s : State) (c : Nat) (f : CanFrame) (type : Nat) : List Nat :=
  (List.range 8).filter fun i => s.ctsMatches i c f type

/-- A frame from another node reaches the slave slots of channel `c`; `sof` its start-of-frame stamps (R327, R339). -/
def State.slotsTake (s : State) (c : Nat) (f : CanFrame) (sof : Stamps) : State :=
  (s.ctsTakers c f 0x18).foldl (fun t i => t.ctsFollow i f) ((s.ctsTakers c f 0x10).foldl (fun t i => t.ctsSync i f sof) s)

/-- The start-of-frame stamp of a frame of channel `c` whose start of frame lies `ns` back (R327). -/
def State.sofBack (s : State) (c ns : Nat) : Stamps :=
  s.stampBy (-(nsT ns : Int) - (tenthsT 125 : Int) - sixteenths (signed (s.fld pgStamp (R.CORR_C_U_RX c)) 16)) (canIsland c)

end Sys2Proof.Machine
end

