-- ==== Sys2Proof/Machine/Gptp.lean ====
section
/-! DEFINITION. IEEE 802.1AS (R328 to R332): the messages, the peer delay mechanism, the receipt and the sending of Syncs, what the
Coach decides, and what becomes of a frame that is whole at its MAC. The layout of the messages is that of the standard (PRESUMED, log entry 54). -/

namespace Sys2Proof.Machine

/-! ### Ports -/

def State.ptpOn (s : State) (n : Nat) : Bool :=
  n < 24 && s.flag pgPtp (R.PTP_PORT_EN n) && s.portRuns n && s.portEnabled n && s.mode.service != .maintain

/-- The role of port `n` in domain `k` (R328): 0 DISABLED, 1 SLAVE, 2 MASTER, 3 PASSIVE. -/
def State.ptpRole (s : State) (n k : Nat) : Nat := s.fld pgPtp (R.PTP_PORT_ROLE n) / 4 ^ k % 4

def State.ptpPort (s : State) (n : Nat) : PtpPort :=
  (mget s.time.ports n).getD { seq := 0, asked := false, t1 := none, resp := none, past := [], delays := [], good := 0, bad := 0, answer := none }
def State.setPtp (s : State) (n : Nat) (x : PtpPort) : State := { s with time := { s.time with ports := mset s.time.ports n x } }

def State.gptp (s : State) (k : Nat) : Gptp := (mget s.time.gptp k).getD { sync := none, recv := none, heard := none, seq := 0 }
def State.setGptp (s : State) (k : Nat) (x : Gptp) : State := { s with time := { s.time with gptp := mset s.time.gptp k x } }

/-- The slave port of domain `k`. -/
def State.slavePort (s : State) (k : Nat) : Option Nat :=
  (List.range 24).find? fun n => s.flag pgPtp (R.PTP_PORT_EN n) && s.ptpRole n k == 1

/-- A port is master in domain `k`. -/
def State.anyMaster (s : State) (k : Nat) : Bool :=
  (List.range 24).any fun n => s.flag pgPtp (R.PTP_PORT_EN n) && s.ptpRole n k == 2

/-- With static roles the device is grandmaster of a domain that has a master port and no slave port (DEDUCED, log entry 57). -/
def State.settleGm (s : State) (k : Nat) : State :=
  if s.flag (pgDom k) R.DOM_CFG_BMCA_EN then s
  else s.setB (pgDom k) R.DOM_STAT_GM ((s.slavePort k).isNone && s.anyMaster k)

/-- The interval 2^l s for the signed 4-bit `l`, in counter units. -/
def logInterval (l : Nat) : Nat := if l < 8 then secUnit * 2 ^ l else secUnit / 2 ^ (16 - l)

/-- LINK_DELAY in counter units, and NRR + 1 in units of 2^-40. -/
def State.linkDelay (s : State) (n : Nat) : Nat := s.fld pgPtp (R.LINK_DELAY n) * 2 ^ 40
def State.nrr (s : State) (n : Nat) : Int := 2 ^ 40 + signed (s.fld pgPtp (R.NRR n)) 32

/-! ### Messages -/

/-- The port identity of port `n`. -/
def ptpIdentity (n : Nat) : Nat := Config.clockIdentity.toNat * 2 ^ 16 + n + 1

/-- The header of a message of `len` bytes. -/
def ptpHeader (sdo type len dom flags : Nat) (corr : Int) (n seq ctl logInt : Nat) : List Byte :=
  beBytes (sdo * 16 + type) 1 ++ [0x12] ++ beBytes len 2 ++ beBytes dom 1 ++ [0] ++ beBytes flags 2 ++ beBytes (unsigned corr 64) 8
    ++ beBytes 0 4 ++ beBytes (ptpIdentity n) 10 ++ beBytes seq 2 ++ beBytes ctl 1 ++ beBytes logInt 1

/-- The timestamp of a counter reading: seconds and whole nanoseconds; what is left in units of 2^-16 ns. -/
def ptpStamp (t : Nat) : List Byte := beBytes (timeSec t) 6 ++ beBytes (timeNs t) 4
def ptpFraction (t : Nat) : Int := (t % nsUnit / 2 ^ 32 : Nat)

/-- Send a message from port `n` through the lane of priority 7 (DESIGN CHOICE, log entry 53). -/
def State.ptpSend (s : State) (n : Nat) (body : List Byte) (ptp : Option (Nat × Nat)) : State :=
  let l := padTo (beBytes 0x0180C200000E 6 ++ beBytes (s.portMac n) 6 ++ [0x88, 0xF7] ++ body) 60
  let c : Copy := { packet := 0, bytes := l, oversize := false, early := false, bad := false, tx := none, ended := s.time.tl, ptp := ptp }
  (s.bufferAdmit (cellsOf (l.length + 4)) (cellsOf (l.length + 4)) 31 7 true [(n, s.laneFor s.heat.liveE n 7, c)]).st

/-- The least length of a message, and its messageType. -/
def ptpNeed : PtpKind → Nat
  | .sync => 44
  | .followUp => 76
  | .announce => 64
  | .other => 34
  | .pdelayReq => 54
  | .pdelayResp => 54
  | .pdelayRespFollowUp => 54

def ptpType : PtpKind → Nat
  | .sync => 0
  | .pdelayReq => 2
  | .pdelayResp => 3
  | .followUp => 8
  | .pdelayRespFollowUp => 10
  | .announce => 11
  | .other => 12

/-- A message of EtherType 0x88F7 from its bytes after the EtherType (R328); none where it is malformed. -/
def parsePtp (l : List Byte) : Option PtpMsg :=
  let type := byteAt l 0 % 16
  let kind : PtpKind :=
    match type with
    | 0 => .sync
    | 2 => .pdelayReq
    | 3 => .pdelayResp
    | 8 => .followUp
    | 10 => .pdelayRespFollowUp
    | 11 => .announce
    | _ => .other
  let len := beAt l 2 2
  if l.length < ptpNeed kind || len < ptpNeed kind || l.length < len || byteAt l 1 % 16 != 2 then none
  else some
    { sdo := BitVec.ofNat 4 (byteAt l 0 / 16), kind := kind, domain := BitVec.ofNat 8 (byteAt l 4), twoStep := bit (byteAt l 6) 1
      correction := signed (beAt l 8 8) 64, seq := BitVec.ofNat 16 (beAt l 30 2), sec := BitVec.ofNat 48 (beAt l 34 6)
      ns := BitVec.ofNat 32 (beAt l 40 4)
      rate := if kind == .followUp || (kind == .sync && len ≥ 76) then signed (beAt l 54 4) 32 else 0
      source := BitVec.ofNat 80 (beAt l 20 10), requester := BitVec.ofNat 80 (beAt l 44 10) }

/-- The timestamp of a message in units of 2^-16 ns, with its correction. -/
def ptpTime16 (m : PtpMsg) : Int := ((m.sec.toNat * 1000000000 + m.ns.toNat) * 2 ^ 16 : Nat) + m.correction

/-- The message is of the service that port `n` measures link delay with (R328). -/
def State.ptpService (s : State) (n : Nat) : Nat × Nat := if s.flag pgPtp (R.PTP_PORT_CMLDS n) then (2, 0) else (1, 0)

/-! ### Peer delay (R329, R330) -/

/-- The timer of the newest exchange of port `n`, or of the older one that is still open. -/
def exchangeTmr (n : Nat) (older : Bool) : Tmr := .pdelayResp (if older then n + 24 else n)

/-- The newest exchange of a port ends, or the older one. -/
def PtpPort.close (x : PtpPort) (older : Bool) : PtpPort :=
  if older then { x with older := none } else { x with asked := false, t1 := none, resp := none }

/-- An exchange lacks its response. -/
def State.pdelayMissed (s : State) (n : Nat) (older : Bool) : State :=
  let x := s.ptpPort n
  let s1 := (s.setPtp n { x.close older with good := 0, bad := x.bad + 1 }).stop (exchangeTmr n older)
  if x.bad + 1 ≥ 3 then s1.setB pgPtp (R.PTP_PSTAT_PDELAY_OK n) false else s1

/-- The exchange under way at port `n` stays open, with what is left of its 10 ms, beside the one that follows it (R330). -/
def State.pdelayOvertaken (s : State) (n : Nat) : State :=
  let x := s.ptpPort n
  if !x.asked then s
  else
    let s1 := if x.older.isSome then s.pdelayMissed n true else s
    let s2 := s1.setPtp n { s1.ptpPort n with older := some (x.seq, x.t1, x.resp) }
    { s2 with timers := s2.timers.map fun e => if e.1 == exchangeTmr n false then (exchangeTmr n true, e.2) else e }

/-- A Pdelay_Req is sent. -/
def State.pdelayReq (s : State) (n : Nat) : State :=
  let s0 := s.pdelayOvertaken n
  let x := s0.ptpPort n
  let seq := (x.seq + 1) % 2 ^ 16
  let (sdo, dom) := s.ptpService n
  let l := s.fld pgPtp (R.PTP_PORT_LOG_PDELAY n)
  let s1 := s0.setPtp n { x with seq := seq, asked := true, t1 := none, resp := none }
  let s2 := (s1.start (.pdelay n) (logInterval l)).start (.pdelayResp n) (msT 10)
  s2.ptpSend n (ptpHeader sdo 2 54 dom 0 0 n seq 5 (unsigned (signed l 4) 8) ++ beBytes 0 20) (some (1, seq))

/-- A valid exchange: (t3, t4) with t1 and t2. Times of the responder in units of 2^-16 ns, of the device in counter units. -/
def State.pdelayDone (s : State) (n : Nat) (older : Bool) (t1 : Nat) (t2 : Int) (t3 : Int) (t4 : Nat) : State :=
  let x := s.ptpPort n
  let (num, den) : Int × Int := match x.past.getLast? with
    | some (a, b) => if t4 = b then (1, 1) else ((t3 - a) * 2 ^ 32, (t4 : Int) - (b : Int))
    | none => (1, 1)
  let d := (((t4 : Int) - (t1 : Int)) * num - (t3 - t2) * 2 ^ 32 * den).tdiv (2 * den)
  let delays := (d :: x.delays).take 8
  let mean := (delays.foldl (· + ·) 0).tdiv (delays.length : Nat)
  let s1 := (s.setPtp n { x.close older with past := ((t3, t4) :: x.past).take 8, delays := delays, good := x.good + 1, bad := 0 }).stop (exchangeTmr n older)
  let s2 := s1.setF pgPtp (R.NRR n) (unsigned (((num - den) * 2 ^ 40).tdiv den) 32)
  let s3 := s2.setF pgPtp (R.LINK_DELAY n) ((mean.toNat) / 2 ^ 40)
  if x.good + 1 ≥ 3 then s3.setB pgPtp (R.PTP_PSTAT_PDELAY_OK n) true else s3

/-- A response is for the newest request under way at port `n`. -/
def State.answers (s : State) (n : Nat) (m : PtpMsg) : Bool :=
  let x := s.ptpPort n
  x.asked && m.seq.toNat == x.seq && m.requester.toNat == ptpIdentity n

/-- A response is for the older request that is still open: its t1, and t2 and t4. -/
def State.answersOlder (s : State) (n : Nat) (m : PtpMsg) : Option (Option Nat × Option (Int × Nat)) :=
  ((s.ptpPort n).older.filter fun o => m.seq.toNat == o.1 && m.requester.toNat == ptpIdentity n).map (·.2)

/-- The follow-up of a response completes an exchange whose t1, t2 and t4 are held. -/
def State.pdelayFollowUp (s : State) (n : Nat) (older : Bool) (t1 : Option Nat) (resp : Option (Int × Nat)) (m : PtpMsg) : State :=
  match t1, resp with
  | some t1, some (t2, t4) => s.pdelayDone n older t1 t2 (ptpTime16 m) t4
  | _, _ => s

/-- A Pdelay_Resp, or its follow-up, arrives at port `n` with stamps `st`. -/
def State.pdelayResp (s : State) (n : Nat) (m : PtpMsg) (st : Stamps) : State :=
  let x := s.ptpPort n
  let t24 : Int × Nat := (ptpTime16 m, st.tl)
  if !s.ptpOn n then s
  else if s.answers n m then match m.kind with
    | .pdelayResp => s.setPtp n { x with resp := some t24 }
    | .pdelayRespFollowUp => s.pdelayFollowUp n false x.t1 x.resp m
    | _ => s
  else match s.answersOlder n m with
    | some (t1, resp) =>
      match m.kind with
      | .pdelayResp => s.setPtp n { x with older := some (m.seq.toNat, t1, some t24) }
      | .pdelayRespFollowUp => s.pdelayFollowUp n true t1 resp m
      | _ => s
    | none => s

/-- A Pdelay_Req arrives: the responder answers with its receipt time. -/
def State.pdelayAnswer (s : State) (n : Nat) (m : PtpMsg) (st : Stamps) : State :=
  if !s.ptpOn n then s
  else
    let t := st.tl
    let x := s.ptpPort n
    let tag := m.seq.toNat + m.sdo.toNat * 2 ^ 16 + m.domain.toNat * 2 ^ 20
    let s1 := s.setPtp n { x with answer := some (tag, m.source.toNat, t), answers := x.answers ++ x.answer.toList }
    let body := ptpHeader m.sdo.toNat 3 54 m.domain.toNat 0x0200 (ptpFraction t) n m.seq.toNat 5 0x7F ++ ptpStamp t
      ++ beBytes m.source.toNat 10
    s1.ptpSend n body (some (2, tag))

/-- The Pdelay_Resp with tag `a` left at `t`: its follow-up. Responses leave in the order of their requests. -/
def State.pdelayRespSent (s : State) (n a t : Nat) : State :=
  let x := s.ptpPort n
  match (x.answers ++ x.answer.toList).find? fun y => y.1 == a with
  | none => s
  | some y =>
    let body := ptpHeader (a / 2 ^ 16 % 16) 10 54 (a / 2 ^ 20) 0 (ptpFraction t) n (a % 2 ^ 16) 5 0x7F ++ ptpStamp t ++ beBytes y.2.1 10
    let left := if x.answers.contains y then { x with answers := x.answers.erase y } else { x with answer := none }
    (s.setPtp n left).ptpSend n body none

/-! ### Sync (R331, R332) -/

/-- The domain in which port `n` is slave and whose DOMAIN_NUM a message carries. -/
def State.syncDomain (s : State) (n : Nat) (m : PtpMsg) : Option Nat :=
  if m.sdo.toNat != 1 then none
  else (List.range 4).find? fun k => s.fld (pgDom k) R.DOM_CFG_DOMAIN_NUM == m.domain.toNat && s.ptpRole n k == 1

/-- A complete Sync of domain `k` on port `n`: origin time, correction (2^-16 ns), scaled rate offset, stamps. -/
def State.syncDone (s : State) (n k pot : Nat) (cf rate : Int) (st : Stamps) : State :=
  let ld : Int := ((s.linkDelay n : Nat) * (2 ^ 41 + rate)).tdiv (2 ^ 41)
  let m : Int := (pot : Int) + cf * 2 ^ 32 + ld
  let s1 := s.setGptp k { s.gptp k with sync := none, heard := some s.time.tl
                                        recv := some { pot := pot, cf := cf, rate := rate, ingress := st.tl } }
  if s.fld (pgDom k) R.DOM_CFG_SRC == 1 then s1.sample k (((st.read k : Nat) - m : Int).tdiv (2 ^ 32)) st.tl else s1

def ptpOrigin (m : PtpMsg) : Nat := timeOf m.sec.toNat m.ns.toNat 0

/-- A Sync arrives at port `n`. -/
def State.syncReceive (s : State) (n : Nat) (m : PtpMsg) (st : Stamps) : State :=
  if !s.ptpOn n then s
  else match s.syncDomain n m with
    | none => s
    | some k =>
      if m.twoStep then s.setGptp k { s.gptp k with sync := some (n, m.seq.toNat, st, m.correction) }
      else s.syncDone n k (ptpOrigin m) m.correction m.rate st

/-- A Follow_Up arrives at port `n`. -/
def State.followUp (s : State) (n : Nat) (m : PtpMsg) : State :=
  if !s.ptpOn n then s
  else match s.syncDomain n m with
    | none => s
    | some k =>
      match (s.gptp k).sync with
      | some (p, seq, st, cf) =>
        if p == n && seq == m.seq.toNat && s.time.tl ≤ st.tl + s.holdTo k then s.syncDone n k (ptpOrigin m) (cf + m.correction) m.rate st else s
      | none => s

/-- Where a role in a domain has changed since `a`, its master ports may send again on what the last Sync gave (R332). -/
def State.rolesSettled (a s : State) (k : Nat) : State :=
  let g := s.gptp k
  if (List.range 24).all fun n => a.ptpRole n k == s.ptpRole n k then s
  else s.setGptp k { g with heard := g.recv.map fun _ => s.time.tl }

/-- Domain `k` may send Syncs: its time is valid, and a Sync was heard within HOLD_TO, or the device is grandmaster. -/
def State.syncSource (s : State) (k : Nat) : Bool :=
  s.domainValid k && match s.slavePort k with
    | none => s.flag (pgDom k) R.DOM_STAT_GM
    | some _ => match (s.gptp k).heard with
      | some t => Nat.ble s.time.tl (t + s.holdTo k)
      | none => false

/-- A Sync of domain `k` from port `n`. -/
def State.syncSend (s : State) (n k : Nat) : State :=
  let x := s.gptp k
  let seq := (x.seq + 1) % 2 ^ 16
  let l := s.fld pgPtp (R.PTP_PORT_LOG_SYNC n)
  let s1 := (s.setGptp k { x with seq := seq }).start (.sync (n * 4 + k)) (logInterval l)
  let body := ptpHeader 1 0 44 (s.fld (pgDom k) R.DOM_CFG_DOMAIN_NUM) 0x0200 0 n seq 0 (unsigned (signed l 4) 8) ++ beBytes 0 10
  s1.ptpSend n body (some (3, k * 2 ^ 16 + seq))

/-- What the Follow_Up of a relayed Sync carries: correction in 2^-16 ns and scaled rate offset. -/
def State.relaySync (s : State) (p : Nat) (r : GptpRecv) (egress : Nat) : Int × Int :=
  let nrr := s.nrr p
  let rr := 2 ^ 41 + r.rate
  let a : Int := (egress : Int) - (r.ingress : Int)
  let resid := ((a * nrr + ((s.linkDelay p : Nat) : Int) * 2 ^ 40) * rr).tdiv (2 ^ 81)
  (r.cf + resid.tdiv (2 ^ 32), (rr * nrr - 2 ^ 81 + 2 ^ 39).fdiv (2 ^ 40))

/-- The Sync of domain `k` left port `n` with stamps `st`: its Follow_Up, where the domain is still valid (R319). -/
def State.syncSent (s : State) (n tag : Nat) (st : Stamps) : State :=
  let k := tag / 2 ^ 16
  let seq := tag % 2 ^ 16
  let l := s.fld pgPtp (R.PTP_PORT_LOG_SYNC n)
  let body (pot : Nat) (cf rate : Int) : List Byte :=
    ptpHeader 1 8 76 (s.fld (pgDom k) R.DOM_CFG_DOMAIN_NUM) 0 cf n seq 2 (unsigned (signed l 4) 8) ++ ptpStamp pot
      ++ [0, 3, 0, 28, 0x00, 0x80, 0xC2, 0, 0, 1] ++ beBytes (unsigned rate 32) 4 ++ beBytes 0 18
  if !s.domainValid k then s
  else match s.slavePort k with
  | some p =>
    match (s.gptp k).recv with
    | some r =>
      let (cf, rate) := s.relaySync p r st.tl
      s.ptpSend n (body r.pot cf rate) none
    | none => s
  | none => s.ptpSend n (body (st.read k / nsUnit * nsUnit) (ptpFraction (st.read k)) 0) none

/-! ### Egress stamps and the Coach's part -/

/-- What follows when a gPTP event message has left port `n`. -/
def State.ptpSent (s : State) (n : Nat) : State :=
  let take (u : State) (kind : Nat) : State × Option (Nat × Stamps) :=
    ({ u with time := { u.time with egress := mdel u.time.egress (n * 4 + kind) } }, mget u.time.egress (n * 4 + kind))
  let s1 := match take s 1 with
    | (u, some (seq, st)) =>
      let x := u.ptpPort n
      if x.asked && x.seq == seq then u.setPtp n { x with t1 := some st.tl }
      else match x.older with
        | some (q, _, r) => if q == seq then u.setPtp n { x with older := some (q, some st.tl, r) } else u
        | none => u
    | (_, none) => s
  let s2 := match take s1 2 with
    | (u, some (a, st)) => u.pdelayRespSent n a st.tl
    | (_, none) => s1
  match take s2 3 with
  | (u, some (tag, st)) => u.syncSent n tag st
  | (_, none) => s2

/-- The Coach takes an Announce message of a domain with BMCA_EN and decides (R329). -/
def State.announce (s : State) (n : Nat) (m : PtpMsg) (d : Option BmcaResult) : State :=
  match (List.range 4).find? fun k => s.fld (pgDom k) R.DOM_CFG_DOMAIN_NUM == m.domain.toNat && s.flag (pgDom k) R.DOM_CFG_BMCA_EN, d with
  | some k, some r =>
    if !s.ptpOn n then s
    else
      let role (t : State) (e : Fin 24 × Fin 4) : State :=
        let v := t.fld pgPtp (R.PTP_PORT_ROLE e.1.val)
        t.setF pgPtp (R.PTP_PORT_ROLE e.1.val) (v - t.ptpRole e.1.val k * 4 ^ k + e.2.val * 4 ^ k)
      let s1 := (r.roles.foldl role s).setB (pgDom k) R.DOM_STAT_GM r.gm
      (s.rolesSettled s1 k).setB pgPtp (R.PTP_PSTAT_AS_CAPABLE n) r.asCapable
  | _, _ => s

/-- The bytes of a received frame are a gPTP message that the device consumes (R328). -/
def isGptp (n : Nat) (l : List Byte) : Bool :=
  n < 24 && beAt l 0 6 == 0x0180C200000E && beAt l 12 2 == 0x88F7 && (byteAt l 14 / 16 == 1 || byteAt l 14 / 16 == 2)

/-- A gPTP message is taken at port `n`. -/
def State.ptpTake (s : State) (n : Nat) (m : PtpMsg) (st : Stamps) : State :=
  match m.kind with
  | .sync => s.syncReceive n m st
  | .followUp => s.followUp n m
  | .pdelayReq => s.pdelayAnswer n m st
  | .pdelayResp => s.pdelayResp n m st
  | .pdelayRespFollowUp => s.pdelayResp n m st
  | .announce => s.announce n m none
  | .other => s

/-- HOST_COPY copies a consumed gPTP frame (bytes without FCS) to PF0 queue 0 (R329; log entry 55). -/
def State.ptpCopy (s : State) (n : Nat) (l : List Byte) (st : Stamps) : State :=
  if s.flag pgPtp (R.PTP_PORT_EN n) && s.flag pgPtp (R.PTP_PORT_HOST_COPY n) then
    let f := frameOf n l false false false false st s.heat.liveE s.time.tl
    (s.frameToRing none 0 0 (s.rxItem f l 0 none)).1
  else s

/-- The bytes `b` in place of those of `l` from `k` on. -/
def patched (l : List Byte) (k : Nat) (b : List Byte) : List Byte := l.take k ++ b ++ l.drop (k + b.length)

/-- The frame in which message `m` came: the bytes that the message does not name are free values (log entry 199). -/
def State.ptpBytes (s : State) (m : PtpMsg) : List Byte :=
  let free := s.freeBytes 96
  let body0 := patched (free.take (ptpNeed m.kind)) 0 (beBytes (m.sdo.toNat * 16 + ptpType m.kind) 1 ++ [0x12] ++ beBytes (ptpNeed m.kind) 2 ++ [m.domain])
  let body1 := patched (patched body0 6 (beBytes (byteAt body0 6 / 4 * 4 + 2 * b2n m.twoStep + byteAt body0 6 % 2) 1)) 8
    (beBytes (unsigned m.correction 64) 8)
  let body2 := patched (patched body1 20 (beBytes m.source.toNat 10)) 30 (beBytes m.seq.toNat 2)
  let body3 := if ptpNeed m.kind < 44 then body2 else patched body2 34 (beBytes m.sec.toNat 6 ++ beBytes m.ns.toNat 4)
  let body4 := match m.kind with
    | .followUp => patched body3 54 (beBytes (unsigned m.rate 32) 4)
    | .pdelayResp => patched body3 44 (beBytes m.requester.toNat 10)
    | .pdelayRespFollowUp => patched body3 44 (beBytes m.requester.toNat 10)
    | _ => body3
  padTo (beBytes 0x0180C200000E 6 ++ (free.drop 90) ++ [0x88, 0xF7] ++ body4) 60

/-- A gPTP message that came by itself is consumed at port `n`, with its copy to the host. -/
def State.ptpTaken (s : State) (n : Nat) (m : PtpMsg) (st : Stamps) : State :=
  if s.flag pgPtp (R.PTP_PORT_HOST_COPY n) then { s.ptpCopy n (s.ptpBytes m) st with freeIx := s.freeIx + 96 } else s

/-- A gPTP frame (bytes without FCS) is consumed at port `n` (R328). -/
def State.ptpFrame (s : State) (n : Nat) (l : List Byte) (st : Stamps) : State :=
  (match parsePtp (l.drop 14) with
    | some m => s.ptpTake n m st
    | none => s.drop Code.PTP_BAD_MSG).ptpCopy n l st

/-! ### A frame at its MAC (R20, R25, R51, R141 to R143, R153, R161, R328) -/

/-- A PAUSE or PFC frame from its bytes: opcode 0x0001 or 0x0101. -/
def pauseOf (l : List Byte) : Option PauseFrame :=
  let times (n k : Nat) : List (BitVec 16) := (List.range n).map fun i => BitVec.ofNat 16 (beAt l (k + 2 * i) 2)
  let da := BitVec.ofNat 48 (beAt l 0 6)
  match beAt l 14 2 with
  | 0x0001 => some { pfc := false, da := da, fcsOk := fcsGood l, enable := 0, times := times 1 16 }
  | 0x0101 => some { pfc := true, da := da, fcsOk := fcsGood l, enable := BitVec.ofNat 8 (beAt l 16 2), times := times 8 18 }
  | _ => none

/-- A good frame that is a gPTP message for the device once the SecY has passed it (R161, R328): the state after the SecY, and its bytes
without FCS. Where BYPASS_PTP is 0, that of a message is protected like any other frame. -/
def State.gptpOf (s : State) (n : Nat) (l : List Byte) (good : Bool) (x : Bool) : Option (State × List Byte) :=
  if good && s.flag pgPtp (R.PTP_PORT_EN n) && s.mode.rest == .awake then
    match s.validateFrame n x (l.take (l.length - 4)) with
    | (s1, some b) => if isGptp n b then some (s1, b) else none
    | (_, none) => none
  else none

/-- A MAC control frame, which the MAC consumes (R141). One that is truncated has no FCS to be good by (R143). -/
def State.controlFrame (s : State) (n : Nat) (l : List Byte) : State :=
  let m := macPage n
  if Nat.blt (s.maxLen n) l.length then ((s.goodOctets n (s.maxLen n)).count m R.RX_OVERSIZE).raise m 4
  else match pauseOf l with
    | some f => s.pauseFrame n f l.length
    | none => if fcsGood l then (s.goodOctets n l.length).count m R.RX_CTRL_OTHER else (s.count m R.RX_FCS_ERR).drop Code.MAC_FCS

/-- A frame, `l` from destination address through FCS, whole at its MAC with stamp `st` in epoch `x`: MAC control frames are consumed by the MAC,
gPTP messages by TIME, and every other frame goes on (R141). -/
def State.macFrame (s : State) (n : Nat) (l : List Byte) (symErr early frag : Bool) (st : Stamps) (x : Bool) : State :=
  let whole : Bool := !symErr && Nat.ble 64 l.length
  if whole && etherType l == 0x8808 then s.controlFrame n l
  else
    match s.gptpOf n l (whole && Nat.ble l.length (s.maxLen n) && fcsGood l) x with
    | some (s1, b) => (s1.goodOctets n l.length).ptpFrame n b st
    | none => s.receiveFrame n l symErr early frag st x

/-- A frame ends on the line of port `n` (R141). -/
def State.ethFrame (s : State) (n : Nat) (l : List Byte) (symErr early : Bool) : State :=
  let st := s.rxStampAt n l.length
  if !s.portRuns n || !s.portEnabled n || !s.flag (macPage n) R.MAC_STAT_LINK then s
  else (s.plcaHeard n l.length).macFrame n l symErr early false st (s.epochOf st)

/-! ### Reassembly (R151) -/

/-- A reassembled frame is passed on; the FCS of one that is truncated at MAXLEN is not checked (R143). -/
def State.asmDone (s : State) (n : Nat) (a : Assembly) (crcOk : Bool) : State :=
  let s1 := { s with eth := { s.eth with asm := mdel s.eth.asm n } }
  if a.stale then s1
  else if crcOk || Nat.blt (s.maxLen n) a.bytes.length then
    (s1.count (macPage n) R.RX_MM_ASSY_OK).macFrame n a.bytes false false true a.stamp a.epoch
  else (s1.count (macPage n) R.RX_FCS_ERR).drop Code.MAC_FCS

/-- A fragment at port `n`. -/
def State.fragment (s : State) (n : Nat) (f : Fragment) : State :=
  let m := macPage n
  if f.verify then s.putMPacket n true
  else if !f.smdKnown then
    let s1 := s.count m R.RX_MM_SMD_ERR
    if (mget s.eth.asm n).isSome then s1.asmFail n else s1
  else if f.first then
    let s1 := if (mget s.eth.asm n).isSome then s.asmFail n else s
    let st := s.rxStampAt n (f.bytes.length + if f.last then 0 else 4)
    let a : Assembly := { frame := f.frame.val, next := 0, bytes := f.bytes, stamp := st, epoch := s.epochOf st }
    if f.last then s1.asmDone n a f.crcOk
    else if !f.crcOk then s1.asmFail n
    else { s1 with eth := { s1.eth with asm := mset s1.eth.asm n a } }
  else
    let s1 := s.count m R.RX_MM_FRAG
    match mget s1.eth.asm n with
    | none => s1.asmFail n
    | some a =>
      if a.frame != f.frame.val || a.next != f.count.val then s1.asmFail n
      else
        let b := { a with next := (a.next + 1) % 4, bytes := a.bytes ++ f.bytes }
        if f.last then s1.asmDone n b f.crcOk
        else if !f.crcOk then s1.asmFail n
        else { s1 with eth := { s1.eth with asm := mset s1.eth.asm n b } }

end Sys2Proof.Machine
end

