-- ==== Sys2Proof/Machine/Lin.lean ====
section
/-! DEFINITION. The LIN controllers (R276 to R283): frame and schedule tables, data words, slots of a commander, headers and
responses of a responder, errors, sleep and wake. -/

namespace Sys2Proof.Machine

def linPage (n : Nat) : Nat := 0x140 + n

def State.linChan (s : State) (n : Nat) : LinChan := (mget s.lin n).getD LinChan.empty
def State.setLin (s : State) (n : Nat) (k : LinChan) : State :=
  { s with lin := if k = LinChan.empty then mdel s.lin n else mset s.lin n k }

/-- The channel is powered, clocked and served (R276). -/
def State.linServed (s : State) (n : Nat) : Bool :=
  s.up 14 && s.clocked 1 && s.fld (linPage n) R.RESERVE_MAP_SERVING < 2

/-- The channel is enabled and not off by MAINTAIN (R283). -/
def State.linOn (s : State) (n : Nat) : Bool :=
  s.linServed n && s.flag (linPage n) R.PAGE_CTRL_ENABLE && s.mode.service != .maintain

def State.linCommander (s : State) (n : Nat) : Bool := s.flag (linPage n) R.LIN_CFG_ROLE
def State.linAsleep (s : State) (n : Nat) : Bool := s.flag (linPage n) R.LIN_STAT_SLEEP

/-- The counters FRAMES_OK, ERR_NO_RESP, ERR_CHECKSUM and ERR_PARITY. R282 gives them the offsets 0x080 to 0x08C, where the table before R277
has LIN_SCHED3, LIN_SCHED_REQ, LIN_STAT and LIN_CMD. A write there reaches the register, and so does a read by a master whose VIEW is 1; any other
read takes the counter, which the model keeps at offsets of its own that no access reaches (DESIGN CHOICE, log entry 48). -/
def linFramesOk : Fld := ⟨0xF80, 31, 0⟩
def linErrNoResp : Fld := ⟨0xF84, 31, 0⟩
def linErrChecksum : Fld := ⟨0xF88, 31, 0⟩
def linErrParity : Fld := ⟨0xF8C, 31, 0⟩

/-- A read by master `m` at `off` of page `p` takes a counter of R282. -/
def State.readsLinCounter (s : State) (m p off : Nat) : Bool :=
  0x140 ≤ p && p ≤ 0x14B && 0x080 ≤ off && off < 0x090 && !s.views.contains (p * 8 + m)

/-! ### Tables -/

/-- Entry of the frame table, and of the schedule table (the tables before R277). -/
def State.linFrame (s : State) (n id : Nat) : Entry := (s.pairGet (linPage n) id s.heat.liveE).getD 0
def State.linFrameAt (s : State) (x : Bool) (n id : Nat) : Entry := (s.pairGet (linPage n) id x).getD 0
def State.linSched (s : State) (n e : Nat) : Entry := (s.pairGet (linPage n) (256 + e) s.heat.liveE).getD 0
def lfDir (e : Entry) : Nat := eBits e 1 0
def lfLen (e : Entry) : Nat := eBits e 5 2
def lfEnhanced (e : Entry) : Bool := eBit e 6
def lfEvent (e : Entry) : Bool := eBit e 7
def lfAssoc (e : Entry) : Nat := eBits e 13 8
def lsId (e : Entry) : Nat := eBits e 5 0
def lsType (e : Entry) : Nat := eBits e 8 6
def lsDelay (e : Entry) : Nat := eBits e 23 9
def lsAssoc (e : Entry) : List Nat := ((List.range 4).map fun k => eBits e (37 + 6 * k) (32 + 6 * k)).filter (· != 0x3F)

/-- The protected identifier: the identifier with its two parity bits (ISO 17987; PRESUMED, log entry 47). -/
def linPid (id : Nat) : Nat :=
  let b (k : Nat) : Bool := bit id k
  id + b2n ((b 0 != b 1) != (b 2 != b 4)) * 64 + b2n (!((b 1 != b 3) != (b 4 != b 5))) * 128

/-- The inverted sum with carry of ISO 17987, classic over the data, enhanced over protected identifier and data (PRESUMED, log entry
47); identifiers 0x3C and 0x3D always classic. -/
def linChecksum (enhanced : Bool) (id : Nat) (d : List Byte) : Nat :=
  let start := if enhanced && id != 0x3C && id != 0x3D then linPid id else 0
  let sum := d.foldl (fun a b => let x := a + b.toNat; if x > 255 then x - 255 else x) start
  255 - sum

/-- The data bytes of a frame: 8 for the diagnostic frames 0x3C and 0x3D (R279). -/
def State.linLen (s : State) (n id : Nat) : Nat := if id == 0x3C || id == 0x3D then 8 else lfLen (s.linFrame n id)

/-- The bit rate of the frame on the bus: that measured in its sync field under AUTOBAUD (R280), else BAUD. -/
def State.linRate (s : State) (n : Nat) : Nat :=
  let p := linPage n
  if !s.linCommander n && s.flag p R.LIN_CFG_AUTOBAUD then s.fld p R.LIN_STAT_RATE else s.fld p R.LIN_CFG_BAUD

/-- The maximum frame time of a frame of `n` data bytes, in counter units (R277). -/
def State.linFrameTime (s : State) (ch n : Nat) : Nat :=
  ceilDiv (14 * (34 + 10 * (n + 1))) 10 * secUnit / max 1 (s.linRate ch)

/-! ### Data words (R278) -/

/-- The eight committed bytes of a frame. -/
def State.linBytes (s : State) (n id : Nat) : List Byte :=
  leBytes (s.rd (linPage n) (0x200 + 8 * id)).toNat 4 ++ leBytes (s.rd (linPage n) (0x204 + 8 * id)).toNat 4

def State.putLinBytes (s : State) (n id : Nat) (d : List Byte) : State :=
  let d8 := padTo (d.take 8) 8
  (s.wr (linPage n) (0x200 + 8 * id) (BitVec.ofNat 32 (leNat (d8.take 4)))).wr (linPage n) (0x204 + 8 * id)
    (BitVec.ofNat 32 (leNat (d8.drop 4)))

def State.linUpdated (s : State) (n id : Nat) : Bool := s.flag (linPage n) (R.LIN_FSTAT_UPDATED id)

/-- Both data words of a frame are written: by the host's second word, or by the relay engine. UPDATED is set where the frame
table publishes the frame, NEW where it subscribes it. -/
def State.linCommit (s : State) (n id : Nat) (d : List Byte) : State :=
  let s1 := s.putLinBytes n id d
  let dir := lfDir (s.linFrame n id)
  if dir == 1 then s1.setB (linPage n) (R.LIN_FSTAT_UPDATED id) true
  else if dir == 2 then s1.setB (linPage n) (R.LIN_FSTAT_NEW id) true
  else s1

/-- A host write of data word `w` of frame `id`: the first word is held, the second commits both. -/
def State.linWrite (s : State) (n id : Nat) (second : Bool) (v : Word) : State :=
  let k := s.linChan n
  if second then
    let first := (mget k.held id).getD (s.rd (linPage n) (0x200 + 8 * id))
    (s.setLin n { k with held := mdel k.held id }).linCommit n id (leBytes first.toNat 4 ++ leBytes v.toNat 4)
  else s.setLin n { k with held := mset k.held id v }

/-- A read of a data word: the first latches the second and clears NEW. -/
def State.linRead (s : State) (n id : Nat) (second : Bool) : State × Word :=
  let k := s.linChan n
  let now := s.rd (linPage n) (0x204 + 8 * id)
  if second then (s.setLin n { k with latched := mdel k.latched id }, (mget k.latched id).getD now)
  else ((s.setLin n { k with latched := mset k.latched id now }).setB (linPage n) (R.LIN_FSTAT_NEW id) false,
    s.rd (linPage n) (0x200 + 8 * id))

/-- A subscribed response arrives (R278). Bytes that it does not carry are 0, and nothing clears LOST but a reset of the page (DESIGN CHOICE, log
entry 197). -/
def State.linStore (s : State) (n id : Nat) (d : List Byte) : State :=
  let p := linPage n
  let s1 := s.putLinBytes n id d
  let s2 := if s.flag p (R.LIN_FSTAT_NEW id) then s1.setB p (R.LIN_FSTAT_LOST id) true else s1
  s2.setB p (R.LIN_FSTAT_NEW id) true

/-! ### Errors, sleep -/

/-- Report an error of a frame (R282). The spec gives LIN_ERR no bit; the event is the capture of R494, IRQ_RAW.ERR, with the frame's
LIN_FSTAT in ERR_ADDR (DESIGN CHOICE, log entry 46). -/
def State.linError (s : State) (n id code : Nat) (f : Fld) : State :=
  (((s.count (linPage n) f).setF (linPage n) (R.LIN_FSTAT_CODE id) (code % 256)).captureInternal (linPage n)
    (R.LIN_FSTAT_CODE id).off code).drop code

/-- Bus activity: the idle time of a responder starts again (R280). -/
def State.linActivity (s : State) (n : Nat) : State :=
  let t := s.fld (linPage n) R.LIN_CFG_IDLE_SLEEP
  if t == 0 || s.linCommander n then s.stop (.linIdle n) else s.start (.linIdle n) (secUnit * min 10 (max 4 t))

/-- Enter SLEEP: a commander's schedule stops. -/
def State.linSleep (s : State) (n : Nat) : State :=
  let k := s.linChan n
  ((s.setLin n { k with slot := none, next := none }).setB (linPage n) R.LIN_STAT_SLEEP true).setB (linPage n) R.LIN_STAT_RUNNING false

/-- A node wakes (R281): a commander resumes its schedule no earlier than 100 ms after the end of the pulse, which lasts `ms` more. -/
def State.linWake (s : State) (n ms : Nat) : State :=
  if s.linAsleep n then
    let s1 := (s.setB (linPage n) R.LIN_STAT_SLEEP false).linActivity n
    if s1.linCommander n then s1.start (.linResume n) (msT (100 + ms)) else s1
  else s.linActivity n

/-- LIN_CMD.WAKE (R281): a dominant pulse of 1 ms on the bus, which wakes the node itself. -/
def State.linPulse (s : State) (n : Nat) : State :=
  if s.linOn n then (s.emit (.pulse (.linWake n) 1000)).linWake n 1 else s

/-! ### Slots of a commander (R279) -/

/-- The break length of a commander in bits: outside 13 to 26 the nearer limit. -/
def State.linBreak (s : State) (n : Nat) : Nat := min 26 (max 13 (s.fld (linPage n) R.LIN_CFG_BREAK))

/-- Start a slot: its header is sent, and the response time runs. -/
def State.openSlot (s : State) (n : Nat) (x : LinSlot) (next : Nat) : State :=
  let k := s.linChan n
  let s1 := (s.setLin n { k with slot := some x, next := some next }).emit (.linHeader n x.id (s.linBreak n))
  (s1.linActivity n).start (.linResponse n) (s1.linFrameTime n (max 1 (s1.linLen n x.id)))

/-- The slot of entry `e` of the schedule table, started at `t`. -/
def State.entrySlot (s : State) (n e t : Nat) : State :=
  let x := s.linSched n e
  let next := t + usT (100 * lsDelay x)
  let silent := s.setLin n { s.linChan n with slot := none, next := some next }
  match lsType x with
  | 0 => s.openSlot n { id := lsId x, type := 0, publish := lfDir (s.linFrame n (lsId x)) == 1, since := t } next
  | 1 => s.openSlot n { id := lsId x, type := 1, publish := false, since := t } next
  | 2 =>
    match (lsAssoc x).find? fun i => lfDir (s.linFrame n i) == 1 && s.linUpdated n i with
    | some i => s.openSlot n { id := i, type := 2, publish := true, since := t } next
    | none => silent
  | 3 => s.openSlot n { id := 0x3C, type := 3, publish := true, since := t } next
  | 4 => s.openSlot n { id := 0x3D, type := 4, publish := false, since := t } next
  | 5 => s.openSlot n { id := 0x3C, type := 5, publish := true, since := t } next
  | _ => silent

/-- First entry and length of schedule `k`. -/
def State.linFirst (s : State) (n k : Nat) : Nat := s.fld (linPage n) (R.LIN_SCHED_FIRST k)
def State.linLength (s : State) (n k : Nat) : Nat := s.fld (linPage n) (R.LIN_SCHED_LENGTH k)

/-- Take entry `e` of schedule `k` at time `t`. -/
def State.takeEntry (s : State) (n k e t : Nat) : State :=
  let p := linPage n
  (((s.setF p R.LIN_STAT_SCHED k).setF p R.LIN_STAT_ENTRY e).setB p R.LIN_STAT_RUNNING true).entrySlot n e t

/-- A slot of the commander starts (R279): the requested schedule acts at the end of a slot; collision polls come first; the schedule
wraps from its last entry to FIRST. After SLEEP it starts at FIRST again, and where a HALT let slots pass it goes on from the present (DESIGN
CHOICE, log entry 197). -/
def State.linSlotStart (s : State) (n : Nat) : State :=
  let p := linPage n
  let k := s.linChan n
  let due := k.next.getD s.time.tl
  let t := if due + usT (100 * lsDelay (s.linSched n (s.fld p R.LIN_STAT_ENTRY))) ≤ s.time.tl then s.time.tl else due
  let want := s.fld p R.LIN_SCHED_REQ_SCHED
  let run := s.flag p R.LIN_SCHED_REQ_RUN
  let cur := s.fld p R.LIN_STAT_SCHED
  let e := s.fld p R.LIN_STAT_ENTRY
  match k.polls with
  | i :: rest =>
    let next := t + usT (100 * lsDelay (s.linSched n e))
    (s.setLin n { k with polls := rest }).openSlot n { id := i, type := 6, publish := false, since := t } next
  | [] =>
    if !run then (s.setLin n { k with slot := none, next := none }).setB p R.LIN_STAT_RUNNING false
    else if k.next.isNone || !s.flag p R.LIN_STAT_RUNNING || want != cur then s.takeEntry n want (s.linFirst n want) t
    else
      let last := s.linFirst n cur + s.linLength n cur - 1
      s.takeEntry n cur (if e ≥ last then s.linFirst n cur else e + 1) t

/-- A slot of the commander is due: its exact start time has come, or the schedule is to start. -/
def State.linSlotDue (s : State) (n : Nat) : Bool :=
  s.linOn n && s.linCommander n && s.running_ && !s.linAsleep n && !s.running (.linResume n)
    && match (s.linChan n).next with
       | some t => t ≤ s.time.tl
       | none => s.flag (linPage n) R.LIN_SCHED_REQ_RUN

/-! ### Headers and responses -/

/-- A responder receives a header (R280): its protected identifier byte, and the bit rate measured in its sync field. -/
def State.linHeader (s : State) (n pid rate : Nat) : State :=
  let p := linPage n
  let s0 := s.linActivity n
  let s1 := if s.flag p R.LIN_CFG_AUTOBAUD then s0.setF p R.LIN_STAT_RATE rate else s0
  let id := pid % 64
  if linPid id != pid then s1.linError n id Code.LIN_PARITY linErrParity
  else
    let x := s.linFrame n id
    let k := s1.linChan n
    let take (publish : Bool) : State :=
      (s1.setLin n { k with slot := some { id := id, type := 7, publish := publish, since := s.time.tl } }).start (.linResponse n)
        (s1.linFrameTime n (max 1 (s1.linLen n id)))
    if lfDir x == 1 then
      if s.running_ && (!lfEvent x || s.linUpdated n (lfAssoc x)) then take true else s1.setLin n { k with slot := none }
    else if lfDir x == 2 || id == 0x3C then take false
    else s1.setLin n { k with slot := none }

/-- The bytes a publishing node sends in its slot: the frame's data, the go-to-sleep command, or the protected identifier and data of the
associated frame of an event-triggered frame. -/
def State.linSends (s : State) (n : Nat) (x : LinSlot) : List Byte :=
  let f := s.linFrame n x.id
  if x.type == 5 then 0x00 :: List.replicate 7 0xFF
  else if x.type == 7 && lfEvent f then
    BitVec.ofNat 8 (linPid (lfAssoc f)) :: (s.linBytes n (lfAssoc f)).take (lfLen f - 1)
  else (s.linBytes n x.id).take (s.linLen n x.id)

/-- The frame whose UPDATED the response clears. -/
def State.linSource (s : State) (n : Nat) (x : LinSlot) : Nat :=
  let f := s.linFrame n x.id
  if x.type == 7 && lfEvent f then lfAssoc f else x.id

/-- The slot is over. -/
def State.closeSlot (s : State) (n : Nat) : State :=
  (s.setLin n { s.linChan n with slot := none }).stop (.linResponse n)

/-- A node's own response ends (R279, R282): sent, or with a bit read back wrong. -/
def State.linSent (s : State) (n : Nat) (x : LinSlot) (bitError : Bool) : State :=
  let s1 := (s.closeSlot n).linActivity n
  if bitError then s1.linError n x.id Code.LIN_BIT R.LIN_ERR_BIT
  else
    let d := s.linSends n x
    let sum := linChecksum (lfEnhanced (s.linFrame n x.id)) x.id d
    let s2 := (s1.count (linPage n) linFramesOk).emit (.linResponse n x.id (d ++ [BitVec.ofNat 8 sum]))
    if x.type == 5 then s2.linSleep n else s2.setB (linPage n) (R.LIN_FSTAT_UPDATED (s.linSource n x)) false

/-- A collision in an EVENT slot: the associated identifiers are polled in the following slots (R279). -/
def State.linCollision (s : State) (n : Nat) : State :=
  let e := s.linSched n (s.fld (linPage n) R.LIN_STAT_ENTRY)
  (s.closeSlot n |>.setLin n { (s.closeSlot n).linChan n with polls := lsAssoc e }).count (linPage n) R.COLLISIONS_LIN

/-- A response received in a slot: the data bytes and the checksum byte, and whether every stop bit was recessive. Answers the state
and, where the response is valid, its identifier and data (R278 to R280, R282). Of the response of an EVENT slot, data byte 0, which names the
frame, is not stored (DESIGN CHOICE, log entry 197). -/
def State.linReceived (s : State) (n : Nat) (x : LinSlot) (bytes : List Byte) (framing : Bool) :
    State × Option (Nat × List Byte) :=
  let f := s.linFrame n x.id
  let d := bytes.dropLast
  let len := s.linLen n x.id
  let good := ((bytes.getLast?).map (·.toNat)) == some (linChecksum (lfEnhanced f) x.id d)
  let s1 := (s.closeSlot n).linActivity n
  if x.type == 1 && (framing || !good) then (s.linCollision n, none)
  else if framing then (s1.linError n x.id Code.LIN_FRAMING R.LIN_ERR_FRAMING, none)
  else if d.length < len then (s1.linError n x.id Code.LIN_INCOMPLETE linErrNoResp, none)
  else if !good then (s1.linError n x.id Code.LIN_CHECKSUM linErrChecksum, none)
  else
    let s2 := s1.count (linPage n) linFramesOk
    let slept := x.type == 7 && x.id == 0x3C && d == 0x00 :: List.replicate 7 0xFF
    if x.type == 1 then
      let e := s.linSched n (s.fld (linPage n) R.LIN_STAT_ENTRY)
      match (lsAssoc e).find? fun i => linPid i == byteAt d 0 with
      | some i => if s.ingressCode == 0 then (s2.linStore n i (d.drop 1), some (i, d.drop 1)) else (s2.drop s.ingressCode, none)
      | none => (s2, none)
    else if s.ingressCode != 0 then ((if slept then s2.linSleep n else s2).drop s.ingressCode, none)
    else
      let s3 := if lfDir f == 2 || x.type == 4 then s2.linStore n x.id d else s2
      (if slept then s3.linSleep n else s3, some (x.id, d))

/-- The maximum frame time passes without a complete response (R282). An EVENT slot without response is no error. -/
def State.linTimeout (s : State) (n : Nat) (started : Bool) : State :=
  match (s.linChan n).slot with
  | none => s.stop (.linResponse n)
  | some x =>
    let s1 := s.closeSlot n
    if x.type == 1 && !started then s1
    else s1.linError n x.id (if started then Code.LIN_INCOMPLETE else Code.LIN_NO_RESP) linErrNoResp

/-- A page soft reset of a LIN page: its running state. -/
def State.linReset (s : State) (n : Nat) : State :=
  let s1 := s.setLin n { LinChan.empty with attached := (s.linChan n).attached }
  ((s1.wr (linPage n) R.LIN_STAT_RUNNING.off 0).stop (.linResponse n)).stop (.linResume n)

end Sys2Proof.Machine
end

