-- ==== Sys2Proof/Machine/Splice.lean ====
section
/-! DEFINITION. Signal splicing (R294 to R299): bit fields of a payload, splice instructions and programs, images and monitors. A
payload or buffer is kept as the number whose bit p is bit position p. -/

namespace Sys2Proof.Machine

def pgRelay : Nat := 0x150
def pgDrec : Nat := 0x153
def pgSplice : Nat := 0x154
def pgTmon : Nat := 0x156
def pgAcf : Nat := 0x157
def pgAuth : Nat := 0x1B0

/-! ### Bit fields -/

/-- The positions of a field, most significant bit first. -/
def bePositions (p w : Nat) : List Nat :=
  match w with
  | 0 => []
  | w + 1 => p :: bePositions (if p % 8 == 0 then p + 15 else p - 1) w

def fieldPositions (be : Bool) (p w : Nat) : List Nat :=
  if be then bePositions p w else (List.range w).map fun k => p + (w - 1 - k)

/-- The value of a field of a payload. -/
def readField (x : Nat) (be : Bool) (p w : Nat) : Nat :=
  (fieldPositions be p w).foldl (fun a q => a * 2 + b2n (bit x q)) 0

/-- Put one bit of a buffer. -/
def putBit (x p : Nat) (b : Bool) : Nat :=
  if bit x p then (if b then x else x - 2 ^ p) else (if b then x + 2 ^ p else x)

/-- Put a value into a field of a buffer. -/
def writeField (x : Nat) (be : Bool) (p w v : Nat) : Nat :=
  ((fieldPositions be p w).zipIdx).foldl (fun a e => putBit a e.1 (bit v (w - 1 - e.2))) x

/-! ### Instructions (R294) -/

def spOp (e : Entry) : Nat := eBits e 3 0
def spOutLen (e : Entry) : Nat := eBits e 15 4
def spFill (e : Entry) : Nat := eBits e 23 16
def spCount (e : Entry) : Nat := eBits e 30 24

/-- Instruction `k` of the splice store in epoch `x`. -/
def State.spInstr (s : State) (x : Bool) (k : Nat) : Entry := (s.pairGet pgSplice k x).getD 0

/-- A program in execution: the buffer, the monitors refreshed, the short reads counted, instructions still to skip. -/
structure SpliceRun where
  buf : Nat
  refreshed : List Nat
  short : Nat
  skip : Nat

/-- One instruction (R294, R296) over a source of `len` bytes. -/
def spStep (src len : Nat) (e : Entry) (r : SpliceRun) : SpliceRun :=
  if r.skip > 0 then { r with skip := r.skip - 1 }
  else
    match spOp e with
    | 2 =>
      let w := eBits e 37 32 + 1
      let p := eBits e 17 4
      let be := eBit e 38
      if (fieldPositions be p w).any (· ≥ 8 * len) then { r with short := r.short + 1 }
      else
        let v := readField src be p w
        { r with buf := writeField r.buf (eBit e 39) (eBits e 31 18) w v
                 refreshed := if eBit e 41 then r.refreshed ++ [eBits e 53 42] else r.refreshed }
    | 3 =>
      let w := eBits e 23 18 % 32 + 1
      { r with buf := writeField r.buf (eBit e 24) (eBits e 17 4) w (eBits e 63 32) }
    | 4 =>
      let p := eBits e 17 4
      let dst := eBits e 31 18
      let put (b : Bool) : Nat := if eBit e 36 then r.buf else putBit r.buf dst b
      if p ≥ 8 * len then { r with short := r.short + 1 }
      else if bit src p then { r with buf := put true }
      else { r with buf := put false, skip := max 1 (eBits e 34 32) }
    | _ => r

/-- Run the program whose HEAD is at `prog` over a source into a buffer. -/
def State.spRun (s : State) (x : Bool) (prog src len buf : Nat) : SpliceRun :=
  (List.range (spCount (s.spInstr x prog))).foldl (fun r k => spStep src len (s.spInstr x (prog + 1 + k)) r)
    { buf := buf, refreshed := [], short := 0, skip := 0 }

/-- The low `n` bytes of a buffer. -/
def bufBytes (x n : Nat) : List Byte := leBytes x n

/-! ### Images and monitors -/

def State.image (s : State) (k : Nat) : Nat := ((mget s.relay.images k).getD 0).toNat
def State.setImage (s : State) (k x : Nat) : State :=
  let v := BitVec.ofNat 512 x
  { s with relay := { s.relay with images := if v = 0 then mdel s.relay.images k else mset s.relay.images k v } }

/-- Monitor `k` as the live table has it, where its EN = 1. -/
def State.tmon (s : State) (k : Nat) : Option Entry := (s.pairGet pgTmon k s.heat.liveE).filter fun e => eBit e 16
def tmTimeout (e : Entry) : Nat := usT (100 * eBits e 15 0)
def tmAction (e : Entry) : Nat := eBits e 18 17
def tmImage (e : Entry) : Nat := eBits e 29 19
def tmProg (e : Entry) : Nat := eBits e 45 32
def tmDrec (e : Entry) : Nat := eBits e 62 46

/-- A monitor starts or is refreshed at TL time `t` (R297). -/
def State.startMonitor (s : State) (k t : Nat) : State :=
  match s.tmon k with
  | none => s
  | some e =>
    let old := ((mget s.relay.monitors k).map (·.expiries)).getD 0
    let m : Monitor := { expiry := t + tmTimeout e, out := false, expiries := old }
    { s with relay := { s.relay with monitors := mset s.relay.monitors k m } }

/-- Every enabled monitor starts: the service axis enters RUN or DIAGNOSE from HALT (R297). -/
def State.startMonitors (s : State) : State := (List.range 4096).foldl (fun t k => t.startMonitor k s.time.tl) s

/-- What a program did in the engine: SPLICE_SHORT counted, monitors refreshed. -/
def State.spliced (s : State) (r : SpliceRun) (eof : Nat) : State :=
  r.refreshed.foldl (fun t k => t.startMonitor k eof) (s.countN pgRelay R.SPLICE_SHORT r.short)

end Sys2Proof.Machine
end

