-- ==== Sys2Proof/Machine/Auth.lean ====
section
/-! DEFINITION. CAN authentication (R303, R304): profiles, freshness counters and their ceilings in the journal, verification and
generation. -/

namespace Sys2Proof.Machine

/-! ### Profiles and counters -/

/-- Profile `k` in epoch `x`, where it is valid: MAC_BITS 8 to 128, FV_BITS 0 to 64, GAP_LOG2 8 to 24. -/
def apKey (e : Entry) : Nat := eBits e 7 0
def apMac (e : Entry) : Nat := eBits e 15 8
def apFv (e : Entry) : Nat := eBits e 22 16
def apGap (e : Entry) : Nat := eBits e 27 23
def apAccept (e : Entry) : Nat := eBits e 63 32
def profileOk (e : Entry) : Bool :=
  8 ≤ apMac e && apMac e ≤ 128 && apFv e ≤ 64 && 8 ≤ apGap e && apGap e ≤ 24
def State.profile (s : State) (x : Bool) (k : Nat) : Option Entry := (s.pairGet pgAuth k x).filter profileOk

/-- Bytes of freshness value and authenticator. -/
def apBytes (e : Entry) : Nat := ceilDiv (apFv e + apMac e) 8

def Fvc.zero : Fvc := { value := 0, dir := false, persist := false, ceil := 0 }
def State.fvc (s : State) (k : Nat) : Fvc := (mget s.relay.fvc k).getD Fvc.zero
def State.setFvc (s : State) (k : Nat) (c : Fvc) : State :=
  { s with relay := { s.relay with fvc := if c = Fvc.zero then mdel s.relay.fvc k else mset s.relay.fvc k c } }

/-- The record of the journal that holds the ceiling of counter `k`, and its index among the entries (log entry 50). -/
def State.ceilIndex (s : State) (k : Nat) : Option Nat := s.relay.ceilings.findIdx? (· == k)
def ceilPos (i : Nat) : Nat := 16 + i / 6

/-- The ceiling of counter `k` that the journal holds. -/
def State.journaled (s : State) (k : Nat) : Nat :=
  match s.ceilIndex k with
  | none => 0
  | some i =>
    match (s.recoverOne (ceilPos i)).obj with
    | .ceilings l => ((l.find? fun e => e.1 == k).map (·.2)).getD 0
    | _ => 0

/-- Queue the write of the record that holds entry `i`, with the present ceilings of its counters. -/
def State.journalCeil (s : State) (i : Nat) : State :=
  let l := (s.relay.ceilings.drop (i / 6 * 6)).take 6
  s.nvQueue { pos := ceilPos i, obj := .ceilings (l.map fun k => (k, (s.fvc k).ceil)), job := .none }

/-- The counter index of an unused entry of a ceiling record. -/
def noCounter : Nat := 0xFFFF

/-- Give counter `k` an unused entry, or a new one at the end. -/
def placeCeil (l : List Nat) (k : Nat) : List Nat :=
  match l with
  | [] => [k]
  | x :: t => if x == noCounter then k :: t else x :: placeCeil t k

/-- A WRITE_DIRECT to counter `k` (R304): refused where it would make a 513th counter persistent. A persistent counter's entry of the journal is
written with it, at the value written where that is above the ceiling it had, so that the counter is there after boot and REST (DEDUCED, log
entry 146). -/
def State.fvcWrite (s : State) (k : Nat) (d : Entry) : State × Nat :=
  let old := s.fvc k
  let persist := eBit d 65
  if persist && !old.persist && (s.relay.ceilings.filter (· != noCounter)).length ≥ 512 then (s, Code.TBL_BAD_CMD)
  else
    let c : Fvc := { value := eBits d 63 0, dir := eBit d 64, persist := persist, ceil := if !persist then 0 else if old.persist && !eBit d 64 then max old.ceil (eBits d 63 0) else eBits d 63 0 }
    let l := if persist then (if s.relay.ceilings.contains k then s.relay.ceilings else placeCeil s.relay.ceilings k)
      else s.relay.ceilings.map fun x => if x == k then noCounter else x
    let s1 := ({ s with relay := { s.relay with ceilings := l } }).setFvc k c
    match (if persist then s1.ceilIndex k else s.ceilIndex k) with
    | some i => (s1.journalCeil i, 0)
    | none => (s1, 0)

def State.fvcRead (s : State) (k : Nat) : Entry :=
  let c := s.fvc k
  BitVec.ofNat 256 (c.value % 2 ^ 64 + b2n c.dir * 2 ^ 64 + b2n c.persist * 2 ^ 65)

/-- REST entry (R304): the verification counters with PERSIST = 1 are journaled. -/
def State.journalFreshness (s : State) : State :=
  let pers := (s.relay.ceilings.zipIdx).filter fun e => (s.fvc e.1).dir
  let s1 := pers.foldl (fun t e => t.setFvc e.1 { t.fvc e.1 with ceil := (t.fvc e.1).value }) s
  ((pers.map fun e => e.2 / 6 * 6).eraseDups).foldl (fun t i => t.journalCeil i) s1

/-- Boot, REST and MAINTAIN (R304): counters without PERSIST become 0; at boot the others restart at their journaled ceiling. -/
def State.fvcRestart (s : State) (boot : Bool) : State :=
  let keep := s.relay.fvc.filter fun e => e.2.persist
  let at_ (e : Nat × Fvc) : Nat × Fvc := if boot then (e.1, { e.2 with value := s.journaled e.1, ceil := s.journaled e.1 }) else e
  { s with relay := { s.relay with fvc := keep.map at_ } }

/-! ### Verification and generation (R303) -/

/-- The key bits of a CMAC key: bytes 0 to 15 of a CMAC128 key, in their place (R402). -/
def KeySlot.cmacKey (k : KeySlot) : BitVec 256 := if k.usage == 2 then k.key >>> 128 <<< 128 else k.key

/-- The CMAC over data identifier, PDU and freshness value, with the profile's key. -/
def State.authMac (s : State) (e : Entry) (id : Nat) (a : List Byte) (fv : Nat) : Nat :=
  let k := s.keySlot (apKey e)
  (Config.cmac (k.usage == 3) k.cmacKey (beBytes id 2 ++ a ++ beBytes fv 8)).toNat

/-- What verification finds: 0, or a reason code; the state with the counter advanced where it succeeds. -/
def State.verifyPdu (s : State) (x : Bool) (data : List Byte) (prof cnt id : Nat) : State × Nat :=
  match s.profile x prof with
  | none => (s, Code.AUTH_KEY)
  | some e =>
    let n := apBytes e
    let t := apFv e
    let mb := apMac e
    let c := s.fvc cnt
    if data.length < n then (s, Code.AUTH_FAIL)
    else
      let a := data.take (data.length - n)
      let tail := beNat (data.drop (data.length - n))
      let rx := tail / 2 ^ (8 * n - t)
      let m := tail / 2 ^ (8 * n - t - mb) % 2 ^ mb
      let lo := c.value % 2 ^ t
      let hi := c.value / 2 ^ t
      let cand := if t == 64 then rx else if rx > lo then hi * 2 ^ t + rx else (hi + 1) * 2 ^ t + rx
      if cand ≤ c.value || cand - c.value > apAccept e then (s, Code.AUTH_FRESHNESS)
      else
        let refused := s.keyCheck (apKey e) 7 [2, 3]
        if refused != 0 then (s.useRefused, Code.AUTH_KEY)
        else if s.authMac e id a cand / 2 ^ (128 - mb) != m then (s, Code.AUTH_FAIL)
        else (s.setFvc cnt { c with value := cand }, 0)

/-- What generation comes to. -/
inductive Generated where
  | done (s : State) (out : List Byte)
  | waits (s : State)
  | refused (s : State) (code : Nat)

/-- Generate the authenticator of `out`; a persistent counter that reaches its ceiling asks for a new one and waits for the
journal (R304). `e` is the profile as the epoch of the copy gives it. -/
def State.generate (s : State) (e : Entry) (out : List Byte) (cnt id : Nat) : Generated :=
  let c := s.fvc cnt
  if c.value ≥ 2 ^ 64 - 1 then .refused s Code.AUTH_COUNTER_END
  else
    let fv := c.value + 1
    let gap := 2 ^ apGap e
    let s1 := if c.persist && fv ≥ c.ceil then
        let s2 := s.setFvc cnt { c with ceil := (fv / gap + 1) * gap }
        s2.journalCeil ((s2.ceilIndex cnt).getD 0)
      else s
    if c.persist && fv ≥ s1.journaled cnt then .waits s1
    else if s.keyCheck (apKey e) 7 [2, 3] != 0 then .refused s1.useRefused Code.AUTH_KEY
    else
      let t := apFv e
      let mb := apMac e
      let n := apBytes e
      let mac := s.authMac e id out fv / 2 ^ (128 - mb)
      .done (s1.setFvc cnt { s1.fvc cnt with value := fv })
        (out ++ beBytes ((fv % 2 ^ t * 2 ^ mb + mac) * 2 ^ (8 * n - t - mb)) n)

end Sys2Proof.Machine
end

