-- ==== Sys2Proof/Machine/Relay.lean ====
section
/-! DEFINITION. The relay engine (chapter 09): the input queue, route lookup, the copies of a PDU and their hand-off, signal
monitors, and IEEE 1722 ACF streams. -/

namespace Sys2Proof.Machine

/-- The engine is powered and clocked; CANAUTH too. -/
def State.relayOn (s : State) : Bool := s.up 12 && s.clocked 0

/-! ### Drops and the input queue -/

/-- Count `n` copies or PDUs dropped with a reason (R307). -/
def relayCounter (code : Nat) : Fld :=
  if code == Code.RELAY_OVERFLOW then R.DROP_OVERFLOW
  else if code == Code.RELAY_TOO_LONG then R.DROP_TOO_LONG_PDU
  else if code == Code.RELAY_FORMAT then R.DROP_RLY_FORMAT
  else if code == Code.RELAY_DEADLINE then R.DROP_DEADLINE
  else if code == Code.RELAY_PARITY then R.DROP_PARITY
  else if code == Code.RELAY_HOST_FULL then R.DROP_HOST_FULL
  else if code == Code.ACF_HEADER || code == Code.ACF_LENGTH || code == Code.ACF_TOO_LONG then R.DROP_ACF
  else if code == Code.AUTH_FAIL || code == Code.AUTH_FRESHNESS || code == Code.AUTH_KEY || code == Code.AUTH_COUNTER_END then
    R.DROP_AUTH
  else R.DROP_MODE

def State.relayDrops (s : State) (code n : Nat) : State :=
  let s1 := ((s.countN pgRelay (relayCounter code) n).raise pgRelay 2)
  let s2 := if code == Code.RELAY_OVERFLOW then s1.raise pgRelay 4 else s1
  (List.range n).foldl (fun t _ => t.drop code) s2

def State.relayDrop (s : State) (code : Nat) : State := s.relayDrops code 1

/-- Granules of 64 bytes of a PDU's payload. -/
def pduGranules (p : Pdu) : Nat := ceilDiv p.data.length 64

def State.relayFree (s : State) : Nat := 1024 - (s.relay.inq.map pduGranules).sum

/-- Put the input queue, with RLY_STAT. -/
def State.setInq (s : State) (l : List Pdu) : State :=
  let s1 := { s with relay := { s.relay with inq := l } }
  (s1.setF pgRelay R.RLY_STAT_INQ_LEVEL l.length).setF pgRelay R.RLY_STAT_FREE_GRAN s1.relayFree

/-- A PDU reaches RELAY (R288): it enters the queue or is dropped. -/
def State.pduEnters (s : State) (p : Pdu) : State × Nat :=
  if !s.relayOn then (s.drop Code.SHED_DOMAIN, Code.SHED_DOMAIN)
  else if s.relay.inq.length ≥ 512 || pduGranules p > s.relayFree then (s.relayDrop Code.RELAY_OVERFLOW, Code.RELAY_OVERFLOW)
  else (s.setInq (s.relay.inq ++ [p]), 0)

/-- A PDU leaves its source toward RELAY. -/
def State.pduComes (s : State) (p : Pdu) : State := { s with relay := { s.relay with coming := s.relay.coming ++ [p] } }

/-- The PDU of a received CAN frame, and of a received LIN response (R286). -/
def pduOfCan (src : Nat) (f : CanFrame) (st : Stamps) (x : Bool) : Pdu :=
  { src := src, fmt := f.fmt, ide := f.ide, id := f.id, brs := f.brs, rtr := f.rtr, esi := f.esi, sec := f.sec, sdt := f.sdt
    vcid := f.vcid, af := f.af, bus := 0, data := f.data, stamp := st, epoch := x, tx := none }

def pduOfLin (n id : Nat) (d : List Byte) (st : Stamps) (x : Bool) : Pdu :=
  { src := 48 + n, fmt := 3, ide := false, id := id, brs := false, rtr := false, esi := false, sec := false, sdt := 0
    vcid := 0, af := 0, bus := 0, data := d, stamp := st, epoch := x, tx := none }

/-! ### Routes (R287, R289) -/

/-- The key of RT_EXACT that a PDU spells, laid out as its entry's key. -/
def pduKey (p : Pdu) : Nat :=
  p.id + (p.src + p.fmt * 2 ^ 7 + b2n p.ide * 2 ^ 9 + p.bus * 2 ^ 10) * 2 ^ 32

def rtFirst (e : Entry) : Nat := eBits e 78 64
def rtCount (e : Entry) : Nat := eBits e 82 79 + 1
def rtDiag (e : Entry) : Bool := eBit e 83
def rtAllow (e : Entry) : Bool := eBit e 84
def rtVerify (e : Entry) : Bool := eBit e 85
def rtObserve (e : Entry) : Bool := eBit e 86
def rtProf (e : Entry) : Nat := eBits e 103 96
def rtFvc (e : Entry) : Nat := eBits e 115 104
def rtDataId (e : Entry) : Nat := eBits e 143 128

/-- A range entry matches a PDU (R289). -/
def rangeMatches (e : Entry) (p : Pdu) : Bool :=
  Nat.land (Nat.xor p.id (eBits e 28 0)) (eBits e 60 32) == 0
    && (!eBit e 61 || eBit e 29 == p.ide)
    && (eBits e 150 144 == 0x7F || eBits e 150 144 == p.src)
    && bit (eBits e 154 151) p.fmt
    && (eBit e 121 || eBits e 120 116 == p.bus)

/-- The route of a PDU (R289). -/
def State.routeOf (s : State) (p : Pdu) : Option Entry :=
  (s.getKey pgExact 0 (pduKey p) p.epoch).or
    ((List.range 256).findSome? fun k => (s.pairGet 0x152 k p.epoch).filter fun e => rangeMatches e p)

/-! ### Destination records -/

def drKind (e : Entry) : Nat := eBits e 2 0
def drPort (e : Entry) : Nat := eBits e 8 3
def drFmt (e : Entry) : Nat := eBits e 10 9
def drBrs (e : Entry) : Bool := eBit e 11
def drIdKeep (e : Entry) : Bool := eBit e 12
def drIde (e : Entry) : Bool := eBit e 13
def drTrunc (e : Entry) : Bool := eBit e 14
def drStrip (e : Entry) : Bool := eBit e 15
def drImgEn (e : Entry) : Bool := eBit e 16
def drSend (e : Entry) : Bool := eBit e 17
def drDiag (e : Entry) : Bool := eBit e 18
def drAllow (e : Entry) : Bool := eBit e 19
def drNewId (e : Entry) : Nat := eBits e 60 32
def drProg (e : Entry) : Nat := eBits e 77 64
def drSplEn (e : Entry) : Bool := eBit e 78
def drImg (e : Entry) : Nat := eBits e 90 80
def drLife (e : Entry) : Nat := eBits e 119 96
def drDeadline (e : Entry) : Nat := eBits e 143 128
def drBus (e : Entry) : Nat := eBits e 148 144
def drHostq (e : Entry) : Nat := eBits e 156 149
def drGen (e : Entry) : Bool := eBit e 160
def drGprof (e : Entry) : Nat := eBits e 168 161
def drGfvc (e : Entry) : Nat := eBits e 180 169
def drGdata (e : Entry) : Nat := eBits e 207 192
def drSdt (e : Entry) : Nat := eBits e 215 208
def drVcid (e : Entry) : Nat := eBits e 223 216

/-- Record `k` in epoch `x`. -/
def State.drec (s : State) (x : Bool) (k : Nat) : Option Entry := s.pairGet pgDrec k x

/-- The domain that a copy's destination needs. -/
def destDomain (kind port : Nat) : Nat :=
  match kind with
  | 0 => if port < 24 then 12 else 13
  | 1 => 14
  | 2 => 8
  | _ => 4

/-- The domains that a copy's destination needs are up: a CAN channel that a reserve core serves needs PD13 too (R276). -/
def State.destUp (s : State) (kind port : Nat) : Bool :=
  let serving := s.fld (canPage port) R.RESERVE_MAP_SERVING
  s.up (destDomain kind port) && !(kind == 0 && (serving == 1 || serving == 2) && !s.up 13)

/-- The reason for which the mode drops a copy, 0 for none (R292). `verify` and `gen`: the route verifies, the record generates; `dest`: the
destination is powered. -/
def State.copyMode (s : State) (diag allow verify gen dest : Bool) : Nat :=
  let d := s.mode.service == .diagnose
  if diag && !d then Code.DIAG_ONLY
  else if s.mode.trust == .quarantine && !allow then Code.QUARANTINE_BLOCKED
  else if s.mode.trust == .retrn && (verify || gen) then Code.KEY_UNUSABLE
  else if !dest || ((verify || gen) && !s.up 15) then Code.SHED_DOMAIN
  else 0

/-! ### ACF streams: the entries and the lengths (R300, R301) -/

def acEn (e : Entry) : Bool := eBit e 0
def acRx (e : Entry) : Bool := eBit e 1
def acTscf (e : Entry) : Bool := eBit e 2
def acBrief (e : Entry) : Bool := eBit e 3
def acPrio (e : Entry) : Nat := eBits e 7 5
def acDomain (e : Entry) : Nat := eBits e 9 8
def acCount (e : Entry) : Nat := max 1 (eBits e 15 10)
def acTime (e : Entry) : Nat := eBits e 31 16
def acSid (e : Entry) : Nat := eBits e 95 32
def acDa (e : Entry) : Nat := eBits e 127 96 + eBits e 143 128 * 2 ^ 32
def acVid (e : Entry) : Nat := eBits e 155 144
def acMaxLen (e : Entry) : Nat := min 1522 (max 64 (eBits e 170 160))
def acTransit (e : Entry) : Nat := eBits e 186 171

/-- The length of a frame with `n` bytes of messages, tag and FCS included. -/
def acfFrameLen (e : Entry) (n : Nat) : Nat := 14 + 4 + (if acTscf e then 24 else 12) + n + 4

/-- The bytes of a message before its payload: ACF_LIN, ACF_CAN_BRIEF, ACF_CAN. -/
def acfHead (e : Entry) (fmt : Nat) : Nat := if fmt == 3 then 12 else if acBrief e then 8 else 16

/-- The longest payload of a message that fits an empty frame of the stream, in whole quadlets. -/
def acfRoom (e : Entry) (fmt : Nat) : Nat := (acMaxLen e - acfFrameLen e (acfHead e fmt)) / 4 * 4

/-! ### Identifier, format and length (R292) -/

/-- A message after R292, or the reason of its drop. `x` is the epoch, `msg` the source's message, `out` the payload, `cut` the authenticator's
bytes. The limit of an ACF copy is what fits an empty frame (R301); without TRUNC a longer copy drops with ACF_TOO_LONG (log entry 143). -/
def State.shape (s : State) (x : Bool) (d : Entry) (msg : CanFrame) (out : List Byte) (cut : Nat) : Except Nat CanFrame :=
  let kind := drKind d
  let fmt := if kind == 0 then drFmt d else if kind == 1 then 3 else msg.fmt
  let id := if kind == 1 then drNewId d % 64 else if drIdKeep d then msg.id else drNewId d
  let ide := if kind == 1 || fmt == 2 then false else if drIdKeep d then msg.ide && msg.fmt != 3 else drIde d
  let remoteOk := (kind == 0 && fmt == 0) || kind == 2 || kind == 3
  if (msg.rtr && !remoteOk) || (kind == 2 && msg.fmt == 2) then .error Code.RELAY_FORMAT
  else
    let lim := if kind == 0 then (if fmt == 0 then 8 else if fmt == 1 then 64 else 2048)
      else if kind == 1 then lfLen (s.linFrameAt x (drPort d) id)
      else match (if kind == 2 then s.pairGet pgAcf (drPort d) x else none) with
        | some e => acfRoom e msg.fmt
        | none => out.length + cut
    let room := lim - cut
    if out.length > room && !drTrunc d then .error (if kind == 2 then Code.ACF_TOO_LONG else Code.RELAY_TOO_LONG)
    else
      let o := out.take room
      let o1 := if kind == 1 then o ++ List.replicate (room - o.length) 0xFF else o
      if kind == 0 && fmt == 2 && o1.length + cut == 0 then .error Code.RELAY_FORMAT
      else
        let xl := kind == 0 && fmt == 2
        .ok { fmt := fmt, ide := ide, id := if ide || kind != 0 then id else id % 2 ^ 11
              brs := if kind == 0 then drBrs d else msg.brs, rtr := msg.rtr, esi := msg.esi
              sec := if xl then false else msg.sec, sdt := if xl then drSdt d else msg.sdt
              vcid := if xl then drVcid d else msg.vcid, af := if xl && msg.fmt != 2 then 0 else msg.af, data := o1 }

/-! ### ACF encapsulation (R300, R301) -/

/-- A domain time as nanoseconds. -/
def nsOf (t : Nat) : Nat := t / nsUnit

/-- The quadlet header and the message of a copy (IEEE 1722-2016 field order; PRESUMED, log entry 51). -/
def acfMessage (brief valid : Bool) (time : Nat) (bus : Nat) (m : CanFrame) : List Byte :=
  let pad := (4 - m.data.length % 4) % 4
  let body := m.data ++ List.replicate pad 0
  let ts := beBytes (if valid then time % 2 ^ 64 else 0) 8
  let head (type len : Nat) : List Byte := beBytes (type * 2 ^ 9 + len / 4) 2
  if m.fmt == 3 then
    let len := 12 + body.length
    head 3 len ++ [BitVec.ofNat 8 (pad * 64 + b2n valid * 32 + bus), BitVec.ofNat 8 m.id] ++ ts ++ body
  else
    let flags (mtv : Bool) : List Byte :=
      [BitVec.ofNat 8 (pad * 64 + b2n mtv * 32 + b2n m.rtr * 16 + b2n m.ide * 8 + b2n m.brs * 4 + b2n (m.fmt == 1) * 2 + b2n m.esi),
        BitVec.ofNat 8 bus]
    if brief then head 2 (8 + body.length) ++ flags false ++ beBytes m.id 4 ++ body
    else head 1 (16 + body.length) ++ flags valid ++ ts ++ beBytes m.id 4 ++ body

/-- The bytes of a message of the stream whose entry is `e`; its time is that of its copy's EOF stamp (R300). -/
def AcfMsg.bytes (m : AcfMsg) (e : Entry) : List Byte :=
  acfMessage (acBrief e) (m.timed && !m.stamp.isInvalid (acDomain e)) (nsOf (m.stamp.read (acDomain e))) m.bus m.msg

/-- The AVTP header of a frame (R300). -/
def avtpHeader (e : Entry) (seq len : Nat) (valid : Bool) (avtp : Nat) : List Byte :=
  if acTscf e then
    [0x05, BitVec.ofNat 8 (0x80 + b2n valid), BitVec.ofNat 8 seq, 0x00] ++ beBytes (acSid e) 8
      ++ beBytes (if valid then avtp % 2 ^ 32 else 0) 4 ++ beBytes 0 4 ++ beBytes len 2 ++ beBytes 0 2
  else [0x82] ++ [BitVec.ofNat 8 (0x80 + len / 256 % 8), BitVec.ofNat 8 len, BitVec.ofNat 8 seq] ++ beBytes (acSid e) 8

/-- Send the frame of a stream's builder with the messages `l`, the first of which gives the times (R300): it enters CLASSIFY as ingress
source 29. -/
def State.acfSend (s : State) (k : Nat) (e : Entry) (first : AcfMsg) (l : List AcfMsg) : State :=
  let seq := (mget s.relay.seqs k).getD 0
  let dom := acDomain e
  let valid := !first.stamp.isInvalid dom && s.domainValid dom
  let avtp := nsOf (first.stamp.read dom) + acTransit e * 1000
  let sa := (s.rd pgRelay 0x040).toNat + s.fld pgRelay R.RLY_MAC_HI * 2 ^ 32
  let msgs := l.flatMap (·.bytes e)
  let tag := tagBytes (s.fldAt s.heat.liveE 0x081 R.FWD_TPID_C_TPID) (acPrio e) (acVid e) false
  let bytes := beBytes (acDa e) 6 ++ beBytes sa 6 ++ tag ++ [0x22, 0xF0] ++ avtpHeader e seq msgs.length valid avtp ++ msgs
  let f : Frame :=
    { bytes := bytes, oversize := false, early := false, bad := false, frag := false, src := 29, ended := s.time.tl, stamp := s.bareStamp .relay
      epoch := s.heat.liveE, vid := acVid e, pcp := acPrio e, prio := acPrio e, markDei := false, pacer := none, tx := none }
  let r := { s.relay with seqs := mset s.relay.seqs k ((seq + 1) % 256)
                          frames := mset s.relay.frames k (((mget s.relay.frames k).getD 0 + 1) % 2 ^ 32) }
  let s1 := { s with relay := r }
  let s2 := if valid then s1 else s1.count pgRelay R.ACF_TS_INVALID
  if s2.up 8 then { s2 with fwd := { s2.fwd with classQ := s2.fwd.classQ ++ [f] } } else s2.relayDrops Code.SHED_DOMAIN l.length

/-- Time `t` of TL has passed. -/
def State.past (s : State) (t : Option Nat) : Bool :=
  match t with
  | some x => Nat.blt x s.time.tl
  | none => false

/-- Flush a stream's builder (R301): the copies that are past their deadline drop (R306), the others leave in its frame. -/
def State.acfFlush (s : State) (k : Nat) : State :=
  match mget s.relay.builders k, s.pairGet pgAcf k s.heat.liveE with
  | some b, some e =>
    let s1 := ({ s with relay := { s.relay with builders := mdel s.relay.builders k } }).stop (.acf k)
    let late := b.msgs.filter fun m => s.past m.deadline
    let l := b.msgs.filter fun m => !s.past m.deadline
    let s2 := if late.isEmpty then s1 else s1.relayDrops Code.RELAY_DEADLINE late.length
    match l with
    | [] => s2
    | m :: _ => s2.acfSend k e m l
  | _, _ => s

/-- The earlier of two optional times. -/
def earlier (a b : Option Nat) : Option Nat :=
  match a, b with
  | some x, some y => some (min x y)
  | some x, none => some x
  | none, y => y

/-- The TL time at which a builder must flush: AGG_TIME after its first message, or its earliest deadline less 1 µs. -/
def acfDue (e : Entry) (b : Builder) : Option Nat :=
  let agg := if acTime e == 0 then none else (b.msgs.head?).map fun m => m.stamp.tl + usT (acTime e)
  earlier agg ((b.msgs.foldl (fun t m => earlier t m.deadline) none).map fun d => d - usT 1)

/-- Put a builder and its flush timer. -/
def State.setBuilder (s : State) (k : Nat) (e : Entry) (b : Builder) : State :=
  let s1 := { s with relay := { s.relay with builders := mset s.relay.builders k b } }
  match acfDue e b with
  | some t => { s1 with timers := (s1.stop (.acf k)).timers ++ [(.acf k, t)] }
  | none => s1.stop (.acf k)

/-- The bytes of messages in a builder. -/
def Builder.len (b : Builder) (e : Entry) : Nat := (b.msgs.map fun m => (m.bytes e).length).sum

/-- A copy becomes a message of a stream's builder (R301). -/
def State.acfAdd (s : State) (c : RelayCopy) : State :=
  match s.pairGet pgAcf c.port c.epoch with
  | none => s
  | some e =>
    if !acEn e || acRx e then s
    else
      let m : AcfMsg := { msg := c.msg, bus := c.bus, timed := s.domainValid (acDomain e), stamp := c.stamp, deadline := c.deadline }
      let n := (m.bytes e).length
      if acfFrameLen e n > acMaxLen e then s.relayDrop Code.ACF_TOO_LONG
      else
        let s0 := match mget s.relay.builders c.port with
          | some b => if acfFrameLen e (b.len e + n) > acMaxLen e then s.acfFlush c.port else s
          | none => s
        let before := ((mget s0.relay.builders c.port).map (·.msgs)).getD []
        let b : Builder := { msgs := before ++ [m], epoch := c.epoch }
        let s1 := s0.setBuilder c.port e b
        if b.msgs.length ≥ acCount e then s1.acfFlush c.port else s1

/-! ### Hand-off (R293, R306) -/

/-- A PDU record for a receive ring (R293, R384). -/
def pduItem (c : RelayCopy) : RxItem :=
  let m := c.msg
  { packet := none, cells := max 1 (cellsOf m.data.length), bytes := m.data, oversize := false, mirror := none, fcsKept := false
    src := c.src, prio := 0, vid := 0, stamp := c.stamp, deadline := c.deadline
    pdu := some { src := c.src, fmt := m.fmt, ide := m.ide, id := m.id, brs := m.brs, rtr := m.rtr, esi := m.esi, sec := m.sec
                  sdt := m.sdt, vcid := m.vcid, af := m.af, bus := c.bus, data := m.data, stamp := c.stamp, epoch := c.epoch
                  tx := none } }

/-- Hand a copy off to its destination; past its deadline it drops. -/
def State.handOff (s : State) (c : RelayCopy) : State :=
  if s.past c.deadline then s.relayDrop Code.RELAY_DEADLINE
  else
    let s0 := s.count pgRelay R.COPIES
    match c.kind with
    | 0 =>
      if s.fld (canPage c.port) R.RESERVE_MAP_SERVING == 15 then s0.canDrop c.port Code.CAN_CHANNEL_LOST
      else if !s.destUp 0 c.port then s.relayDrop Code.SHED_DOMAIN
      else
        let exp := if c.life == 0 then none else some (c.stamp.tl + usT c.life)
        (s0.canEnqueue c.port c.msg false exp none).1
    | 1 =>
      let s1 := if s.linUpdated c.port c.msg.id then s0.count pgRelay R.LIN_OVERWRITE else s0
      s1.linCommit c.port c.msg.id c.msg.data
    | 2 => s0.acfAdd c
    | _ =>
      let (fn, r) := if c.kind == 3 then (hostqFn c.hostq, hostqRing c.hostq) else (10, c.hostq % 8)
      let (s1, _, code) := s0.frameToRing none fn r (pduItem c)
      if code == Code.HOSTQ_FULL then (s.count (fnPage fn) (R.RING_DROP r)).relayDrop Code.RELAY_HOST_FULL else s1

/-- A copy that waits in CANAUTH for the same destination, from the same source. -/
def sameWay (a b : RelayCopy) : Bool := a.src == b.src && a.kind == b.kind && a.port == b.port

/-- Send a copy, with its authenticator where the record generates one; a copy behind a waiting one of its way waits too (R288, R304). -/
def State.sendAuth (s : State) (c : RelayCopy) (gen : Option (Entry × Nat × Nat)) : State :=
  let wait (t : State) : State := { t with relay := { t.relay with waiting := t.relay.waiting ++ [{ copy := c, gen := gen }] } }
  let behind := s.relay.waiting.any fun w => sameWay w.copy c || (match w.gen, gen with
    | some (_, k, _), some (_, j, _) => k == j
    | _, _ => false)
  if behind then wait s
  else
    match gen with
    | none => s.handOff c
    | some (e, cnt, id) =>
      match s.generate e c.msg.data cnt id with
      | .done t out => t.handOff { c with msg := { c.msg with data := out } }
      | .waits t => wait t
      | .refused t code => t.relayDrop code

/-- Send a copy; `gen` is the profile, counter and data identifier of a record that generates. The profile is read under the copy's epoch
now, at the route stage (R128). -/
def State.sendCopy (s : State) (c : RelayCopy) (gen : Option (Nat × Nat × Nat)) : State :=
  match gen with
  | none => s.sendAuth c none
  | some (prof, cnt, id) =>
    match s.profile c.epoch prof with
    | some e => s.sendAuth c (some (e, cnt, id))
    | none => s.relayDrop Code.AUTH_KEY

/-- The copies that wait in CANAUTH go on, oldest first, as far as the journal allows (R304). -/
def State.authResume (s : State) : State :=
  let l := s.relay.waiting
  let s0 := { s with relay := { s.relay with waiting := [] } }
  l.foldl (fun t w => t.sendAuth w.copy w.gen) s0

/-! ### A PDU (R291) -/

/-- The message of a PDU. -/
def Pdu.msg (p : Pdu) : CanFrame :=
  { fmt := p.fmt, ide := p.ide, id := p.id, brs := p.brs, rtr := p.rtr, esi := p.esi, sec := p.sec, sdt := p.sdt, vcid := p.vcid
    af := p.af, data := p.data }

/-- One copy of a PDU through a record. -/
def State.buildCopy (s : State) (p : Pdu) (verify diag allow : Bool) (strip : Nat) (d : Entry) : State :=
  let dg := s.mode.service == .diagnose
  let ok := (allow || (diag && dg)) && (drAllow d || (drDiag d && dg))
  let code := s.copyMode (diag || drDiag d) ok verify (drGen d) (s.destUp (drKind d) (drPort d))
  if code != 0 then s.relayDrop code
  else
    let src := if drStrip d && verify then p.data.take (p.data.length - strip) else p.data
    let head := s.spInstr p.epoch (drProg d)
    let n := spOutLen head
    let fill := leNat (List.replicate n (BitVec.ofNat 8 (spFill head)))
    let run := s.spRun p.epoch (drProg d) (leNat src) src.length (if drImgEn d then s.image (drImg d) else fill)
    let out := if drSplEn d then bufBytes run.buf n else src
    let s1 := if drSplEn d then s.spliced run p.stamp.tl else s
    let s2 := if drSplEn d && drImgEn d then s1.setImage (drImg d) run.buf else s1
    if !drSend d then s2
    else
      let cut := if drGen d then (match s.profile p.epoch (drGprof d) with
        | some e => apBytes e
        | none => 0) else 0
      match s2.shape p.epoch d p.msg out cut with
      | .error e => s2.relayDrop e
      | .ok m =>
        let c : RelayCopy :=
          { kind := drKind d, port := drPort d, msg := m, bus := if drKind d == 2 then drBus d else p.bus, hostq := drHostq d
            life := drLife d, deadline := if drDeadline d == 0 then none else some (p.stamp.tl + usT (drDeadline d))
            src := p.src, stamp := p.stamp, epoch := p.epoch }
        s2.sendCopy c (if drGen d then some (drGprof d, drGfvc d, drGdata d) else none)

/-- The copies that CANAUTH holds for a ceiling (R304). -/
def State.authWaits (s : State) : Nat := (s.relay.waiting.filter fun w => w.gen.isSome).length

/-- CANAUTH's queue of 64 requests has room for those of a PDU's route, its verification and then its generations; while it has none the relay
sequence is held back (R304). -/
def State.authRoom (s : State) (p : Pdu) : Bool :=
  let gens := match s.routeOf p with
    | some r => max (b2n (rtVerify r)) ((List.range (rtCount r)).filter fun i => ((s.drec p.epoch (rtFirst r + i)).map drGen).getD false).length
    | none => 0
  s.authWaits + gens ≤ 64

/-- Route a PDU (R291). `badRoute`, `badRecord`: parity errors found in the route, or in record `i` of it. -/
def State.routePdu (s : State) (p : Pdu) (badRoute : Bool) (badRecord : Option Nat) : State :=
  if badRoute then s.relayDrop Code.RELAY_PARITY
  else
    match s.routeOf p with
    | none => s.count pgRelay R.NO_ROUTE
    | some r =>
      let s0 := s.count pgRelay R.ROUTED
      let verify := rtVerify r
      let n := rtCount r
      let strip := match s.profile p.epoch (rtProf r) with
        | some e => apBytes e
        | none => 0
      let usable := s.mode.trust != .retrn && s.up 15
      let (s1, v) := if verify && usable then s0.verifyPdu p.epoch p.data (rtProf r) (rtFvc r) (rtDataId r) else (s0, 0)
      let s2 := if v != 0 then (s1.count pgRelay R.AUTH_FAILS).raise pgRelay 1 else s1
      if v != 0 && !rtObserve r then s2.relayDrops v n
      else
        let upto := match badRecord with
          | some k => min k n
          | none => n
        let s3 := (List.range upto).foldl (fun t i =>
          match t.drec p.epoch (rtFirst r + i) with
          | some d => t.buildCopy p verify (rtDiag r) (rtAllow r) strip d
          | none => t) s2
        if upto < n then s3.relayDrop Code.RELAY_PARITY else s3

/-! ### Monitors (R297) -/

/-- A monitor expires: TIMED_OUT, EXPIRIES, the default program, the send. What is sent is the first OUT_LEN bytes of the image, OUT_LEN being
that of the default program (DEDUCED, log entry 52). -/
def State.monitorExpires (s : State) (k : Nat) : State :=
  match s.tmon k, mget s.relay.monitors k with
  | some e, some m =>
    let m1 : Monitor := { m with out := true, expiries := (m.expiries + 1) % 2 ^ 32 }
    let s1 := ({ s with relay := { s.relay with monitors := mset s.relay.monitors k m1 } }).count pgRelay R.SIG_EXPIRIES
    let s2 := s1.raise pgRelay 0
    if tmAction e == 0 then s2
    else
      let x := s.heat.liveE
      let run := s2.spRun x (tmProg e) 0 0 (s2.image (tmImage e))
      let s3 := s2.setImage (tmImage e) run.buf
      if tmAction e == 2 then
        match s3.drec x (tmDrec e) with
        | none => s3
        | some d =>
          let st : Stamps := { t0 := 0, t1 := 0, t2 := 0, t3 := 0, tl := m.expiry, invalid := 15, island := .relay }
          let src : CanFrame := { fmt := 0, ide := false, id := drNewId d, brs := false, rtr := false, esi := false, sec := false
                                  sdt := 0, vcid := 0, af := 0, data := [] }
          let cut := if drGen d then (match s.profile x (drGprof d) with
            | some a => apBytes a
            | none => 0) else 0
          let len := spOutLen (s3.spInstr x (tmProg e))
          match s3.shape x d src (bufBytes run.buf len) cut with
          | .error c => s3.relayDrop c
          | .ok msg =>
            let mode := s3.copyMode (drDiag d) (drAllow d || drDiag d) false (drGen d) (s3.destUp (drKind d) (drPort d))
            if mode != 0 then s3.relayDrop mode
            else
              let c : RelayCopy :=
                { kind := drKind d, port := drPort d, msg := msg, bus := drBus d, hostq := drHostq d, life := drLife d
                  deadline := if drDeadline d == 0 then none else some (m.expiry + usT (drDeadline d)), src := 63, stamp := st
                  epoch := x }
              s3.sendCopy c (if drGen d then some (drGprof d, drGfvc d, drGdata d) else none)
      else s3
  | _, _ => s

/-- What monitor `k` sends goes through CANAUTH (R297, R303). -/
def State.monitorGens (s : State) (k : Nat) : Bool :=
  match s.tmon k with
  | some e => tmAction e == 2 && ((s.drec s.heat.liveE (tmDrec e)).map drGen).getD false
  | none => false

/-- Monitor `k` is due: enabled, its expiry reached, not yet timed out, the service axis forwards, and CANAUTH's queue has room where it sends
through it (R304). -/
def State.monitorDue (s : State) (k : Nat) : Bool :=
  s.relayOn && s.running_ && (s.tmon k).isSome && (!s.monitorGens k || Nat.blt s.authWaits 64) && match mget s.relay.monitors k with
    | some m => !m.out && m.expiry ≤ s.time.tl
    | none => false

/-! ### De-encapsulation (R302) -/

/-- The PDU of an ACF message, `none` for a type that is not taken. `l` is the message, header included. -/
def acfPdu (stream : Nat) (l : List Byte) (st : Stamps) (x : Bool) : Option Pdu :=
  let type := beAt l 0 2 / 2 ^ 9
  let b2 := byteAt l 2
  let pad := b2 / 64
  let can (hdr : Nat) : Pdu :=
    { src := 64 + stream, fmt := b2n (bit b2 1), ide := bit b2 3, id := beAt l (hdr - 4) 4 % 2 ^ 29, brs := bit b2 2
      rtr := bit b2 4, esi := bit b2 0, sec := false, sdt := 0, vcid := 0, af := 0, bus := byteAt l 3 % 32
      data := (l.drop hdr).take (l.length - hdr - pad), stamp := st, epoch := x, tx := none }
  if type == 1 then some (can 16)
  else if type == 2 then some (can 8)
  else if type == 3 then
    some { can 12 with fmt := 3, ide := false, id := byteAt l 3 % 64, brs := false, rtr := false, esi := false, bus := b2 % 32 }
  else none

/-- The messages of an ACF frame in order (R302): PDUs enter the queue, unknown types are skipped, a message beyond the frame drops the
rest. -/
def State.acfMessages (s : State) (stream : Nat) (st : Stamps) (x : Bool) (fuel : Nat) (l : List Byte) : State :=
  match fuel with
  | 0 => s
  | fuel + 1 =>
    if l.isEmpty then s
    else
      let len := 4 * (beAt l 0 2 % 2 ^ 9)
      if len == 0 || len > l.length || l.length < 4 then s.relayDrop Code.ACF_LENGTH
      else
        let s1 := match acfPdu stream (l.take len) st x with
          | some p => (s.pduEnters p).1
          | none => s.count pgRelay R.ACF_SKIPPED
        s1.acfMessages stream st x fuel (l.drop len)

/-- RELAY takes a frame of receive stream `k` (R302). -/
def State.acfDeencap (s : State) (k : Nat) (f : Frame) : State :=
  match s.pairGet pgAcf k f.epoch with
  | none => s
  | some e =>
    let a := f.bytes.drop (s.parse f).pay
    let subtype := byteAt a 0
    let version := byteAt a 1 / 16 % 8
    if subtype != (if acTscf e then 0x05 else 0x82) || version != 0 then s.relayDrop Code.ACF_HEADER
    else
      let seq := if acTscf e then byteAt a 2 else byteAt a 3
      let want := (mget s.relay.seqs k).getD 0
      let s1 := if seq != want then (s.count pgRelay R.SEQ_GAP).raise pgRelay 3 else s
      let s2 := { s1 with relay := { s1.relay with
        seqs := mset s1.relay.seqs k ((seq + 1) % 256)
        frames := mset s1.relay.frames k (((mget s1.relay.frames k).getD 0 + 1) % 2 ^ 32) } }
      let hdr := if acTscf e then 24 else 12
      let len := if acTscf e then beAt a 20 2 else beAt a 1 2 % 2 ^ 11
      let msgs := (a.drop hdr).take len
      s2.acfMessages k f.stamp f.epoch msgs.length msgs

end Sys2Proof.Machine
end

