-- ==== Sys2Proof/Machine/Rings.lean ====
section
/-! DEFINITION. The descriptor rings of the host and the logger (R381 to R389): enabling, stopping, prefetch, receive, transmit, write-back
and the ring events. -/

namespace Sys2Proof.Machine

/-! ### Ring registers -/

/-- A ring: function and number (receive 0 to 15, transmit 16 to 31); P1 has receive rings 0 to 7. -/
def ringExists (fn r : Nat) : Bool := if fn == 10 then r < 8 else fn < 10 && r < 32

def State.ringFld (s : State) (fn : Nat) (f : Fld) : Nat := s.fld (fnPage fn) f
def State.ringBase (s : State) (fn r : Nat) : Nat :=
  s.ringFld fn (R.RING_BASE_LO r) * 256 + (s.rd (fnPage fn) (R.RING_BASE_HI r).off).toNat * 2 ^ 32
def State.ringSize (s : State) (fn r : Nat) : Nat := s.ringFld fn (R.RING_SIZE r)
def State.ringTail (s : State) (fn r : Nat) : Nat := s.ringFld fn (R.RING_TAIL r)
def State.ringHead (s : State) (fn r : Nat) : Nat := s.ringFld fn (R.RING_HEAD r)
def State.ringActive (s : State) (fn r : Nat) : Bool := s.flag (fnPage fn) (R.RING_STAT_ACTIVE r)

/-- The offset of ring `r`'s block. -/
def ringBlock (r : Nat) : Nat := 0x100 + 0x40 * r

/-- The transmit descriptors fetched and not yet in a whole frame: those of a frame begun, then those prefetched. -/
def Ring.fetched (q : Ring) : List TxDesc := q.begun ++ q.tx

/-! ### Events (R388) -/

def State.ringEvent (s : State) (fn r : Nat) : State :=
  let q := s.ring fn r
  ((s.setRing fn r { q with unsignalled := 0 }).stop (.ringMod (ringKey fn r))).raiseRing (fnPage fn) r

/-- A frame or PDU is complete. -/
def State.ringDone (s : State) (fn r : Nat) : State :=
  let s1 := s.count (fnPage fn) (R.RING_DONE r)
  let q := s1.ring fn r
  let n := q.unsignalled + 1
  let limit := max 1 (s.ringFld fn (R.RING_IRQ_MOD_COUNT r))
  let time := s.ringFld fn (R.RING_IRQ_MOD_TIME r)
  let s2 := s1.setRing fn r { q with unsignalled := n }
  if n ≥ limit then s2.ringEvent fn r
  else if n == 1 && time != 0 then s2.start (.ringMod (ringKey fn r)) (usT time)
  else s2

/-! ### Write-backs -/

/-- Eight words as the bytes of a descriptor. -/
def descBytes (l : List Word) : List Byte := l.flatMap fun w => leBytes w.toNat 4

/-- The first three words of a write-back: a stamp. -/
def stampWords (t : Nat) : List Word :=
  [BitVec.ofNat 32 (timeNs t), BitVec.ofNat 32 (timeSec t), BitVec.ofNat 32 (timeSec t / 2 ^ 32 + timeFrac t * 2 ^ 16)]

/-- Write a descriptor back; HEAD advances past it. -/
def State.writeBack (s : State) (fn r ix : Nat) (l : List Word) : State :=
  let next := if ix + 1 ≥ s.ringSize fn r then 0 else ix + 1
  (s.emit (.dma fn (s.ringBase fn r + 32 * ix) (descBytes l))).setF (fnPage fn) (R.RING_HEAD r) next

/-! ### Receive (R384, R385) -/

/-- The words DW4 to DW6 of a receive write-back, without SOP, EOP and ABANDONED. -/
def rxWords (x : RxItem) (inv : Bool) : Nat × Nat × Nat :=
  let d4 := b2n x.oversize * 8 + b2n inv * 32 + b2n x.mirror.isSome * 64 + b2n x.fcsKept * 128 + x.src % 128 * 256 + x.prio % 8 * 2 ^ 15
    + x.vid % 4096 * 2 ^ 18
  let m := (x.mirror.getD 0) % 8 * 256
  match x.pdu with
  | none => (d4, 0, m)
  | some p =>
    (d4 + 4, p.id % 2 ^ 29 + b2n p.ide * 2 ^ 29,
      p.fmt % 4 + b2n p.brs * 4 + b2n p.rtr * 8 + b2n p.esi * 16 + b2n p.sec * 32 + m + p.bus % 32 * 2 ^ 11)

/-- Write back the filled descriptors of a copy: `total` bytes before them, `eop` and `abandoned` of the last and of all. -/
def State.rxComplete (s : State) (fn r : Nat) (x : RxItem) (abandoned : Bool) (total : Nat) (first : Bool) (l : List (RxDesc × Nat)) :
    State :=
  let dom := s.ringFld fn (R.RING_CFG_TS_DOMAIN r)
  match l with
  | [] => s
  | (d, n) :: t =>
    let (w4, w5, w6) := rxWords x (x.stamp.isInvalid dom)
    let ws := stampWords (x.stamp.read dom) ++
      [BitVec.ofNat 32 (n + (total + n) % 65536 * 65536),
       BitVec.ofNat 32 (w4 + b2n first + b2n t.isEmpty * 2 + b2n abandoned * 16), BitVec.ofNat 32 w5, BitVec.ofNat 32 w6, 0x80000000]
    (s.writeBack fn r d.ix ws).rxComplete fn r x abandoned (total + n) false t

/-- The copy at the head of a receive queue leaves it. -/
def State.rxPop (s : State) (fn r : Nat) : State :=
  let q := s.ring fn r
  match q.queue with
  | [] => s
  | x :: t =>
    let s1 := (s.setRing fn r { q with queue := t, written := 0, filled := [] }).stop (.ringWait (ringKey fn r))
    let s2 := s1.setB (fnPage fn) (R.RING_STAT_WAITING r) false
    match x.packet with
    | some k => s2.unhold k
    | none => s2

/-- The head copy has no descriptor for its next byte and waits no longer: dropped, or abandoned where descriptors are filled. An
abandoned frame counts as completed too: its descriptors are (DEDUCED, log entry 174). -/
def State.rxGiveUp (s : State) (fn r : Nat) : State :=
  let q := s.ring fn r
  match q.queue with
  | [] => s
  | x :: _ =>
    if q.filled.isEmpty then (s.rxPop fn r).ringDrop fn r Code.RING_EMPTY
    else
      let s1 := (s.rxComplete fn r x true 0 true q.filled).count (fnPage fn) (R.RING_ABANDON r)
      ((s1.rxPop fn r).drop Code.RING_ABANDONED).ringDone fn r

/-- Max_Payload_Size of the link of `fn`, in bytes (R370). -/
def State.linkMps (s : State) (fn : Nat) : Nat := 128 * 2 ^ s.fld (bridgePage fn) R.BRG_STAT_MPS

/-- The length of the next TLP of a transfer with `n` bytes left at host address `addr` (R16, R377): chunks end at 256-byte-aligned addresses;
whole chunks join up to MPS bytes and never across 4 KiB. Under an MPS of 128 a chunk is sent in parts (DESIGN CHOICE, log entry 144). -/
def tlpLen (mps addr n : Nat) : Nat :=
  let chunk := 256 - addr % 256
  let limit := min mps (4096 - addr % 4096)
  min n (if chunk ≤ limit then chunk + (limit - chunk) / 256 * 256 else min chunk (mps - addr % mps))

/-- A transfer to host address `addr`, cut into TLPs. -/
def tlps (mps fuel addr : Nat) (l : List Byte) : List (Nat × List Byte) :=
  match fuel with
  | 0 => []
  | fuel + 1 =>
    if l.isEmpty then []
    else
      let n := tlpLen mps addr l.length
      (addr, l.take n) :: tlps mps fuel (addr + n) (l.drop n)

/-- Write bytes to host memory for function `fn` (R377). -/
def State.dmaWrite (s : State) (fn addr : Nat) (l : List Byte) : State :=
  (tlps (s.linkMps fn) l.length addr l).foldl (fun t e => t.emit (.dma fn e.1 e.2)) s

/-- Max_Read_Request_Size of function `fn`, in bytes (R370): BRG_STAT shows that of PF0 and of P1's function; those of PF1 and the VFs, which no
register shows, are open values. -/
def State.mrrs (s : State) (fn : Nat) : Nat :=
  128 * 2 ^ (if fn == 0 || fn == 10 then s.fld (bridgePage fn) R.BRG_STAT_MRRS else Config.readSize fn % 6)

/-- The requests, address and length, that read `len` bytes at host address `addr`: each for at most `mrrs` bytes and none across a 4 KiB
boundary (R378). -/
def readRequests (mrrs fuel addr len : Nat) : List (Nat × Nat) :=
  match fuel with
  | 0 => []
  | fuel + 1 =>
    if len == 0 then []
    else
      let n := min len (min mrrs (4096 - addr % 4096))
      (addr, n) :: readRequests mrrs fuel (addr + n) (len - n)

/-- Read `len` bytes of host memory for function `fn` (R378). The bytes come with the command that names the transfer (log entry 172). -/
def State.dmaFetch (s : State) (fn addr len : Nat) : State :=
  (readRequests (s.mrrs fn) len addr len).foldl (fun t e => t.emit (.dmaRead fn e.1 e.2)) s

/-- Fill descriptors with what is left of the head copy. -/
def State.rxFill (s : State) (fn r fuel : Nat) : State :=
  match fuel with
  | 0 => s
  | fuel + 1 =>
    let q := s.ring fn r
    match q.queue, q.rx with
    | x :: _, d :: t =>
      if q.written ≥ x.bytes.length && !(q.filled.isEmpty) then s
      else
        let part := (x.bytes.drop q.written).take d.len
        let n := if x.pdu.isSome then x.bytes.length else part.length
        let s1 := s.dmaWrite fn d.addr part
        (s1.setRing fn r { q with rx := t, written := q.written + n, filled := q.filled ++ [(d, part.length)] }).rxFill fn r fuel
    | _, _ => s

/-- The descriptors posted that are not yet fetched. -/
def State.posted (s : State) (fn r : Nat) : Nat :=
  let n := s.ringSize fn r
  (s.ringTail fn r + n - (s.ring fn r).fetch) % max 1 n

/-- A descriptor has come: the ring waits no more (R385). -/
def State.rxGoOn (s : State) (fn r : Nat) : State :=
  (s.stop (.ringWait (ringKey fn r))).setB (fnPage fn) (R.RING_STAT_WAITING r) false

/-- RING_WAIT has passed since the need arose: the ring gives the copy up, unless a descriptor has come (R385). -/
def State.rxExpire (s : State) (fn r : Nat) : State :=
  if (s.ring fn r).rx.isEmpty && s.posted fn r == 0 then s.rxGiveUp fn r else s.rxGoOn fn r

/-- The queued copies of a receive ring are dropped with RING_DISABLED. -/
def State.rxFlush (s : State) (fn r fuel : Nat) : State :=
  match fuel with
  | 0 => s
  | fuel + 1 =>
    if (s.ring fn r).queue.isEmpty then s else ((s.rxPop fn r).ringDrop fn r Code.RING_DISABLED).rxFlush fn r fuel

/-- A ring stops: a receive copy in progress completes in the descriptors that are here or is abandoned, the queue is dropped, the transmit
descriptors not yet in a frame are let go. -/
def State.ringStop (s : State) (fn r : Nat) : State :=
  let s1 := if r < 16 && !(s.ring fn r).filled.isEmpty then
      let t := s.rxFill fn r 8192
      match (t.ring fn r).queue with
      | x :: _ =>
        if (t.ring fn r).written ≥ x.bytes.length then
          ((t.rxComplete fn r x false 0 true (t.ring fn r).filled).rxPop fn r).ringDone fn r
        else t.rxGiveUp fn r
      | [] => t
    else s
  let s2 := s1.rxFlush fn r ((s1.ring fn r).queue.length)
  ((s2.setRing fn r { s2.ring fn r with rx := [], tx := [], begun := [] }).setB (fnPage fn) (R.RING_STAT_ACTIVE r) false).setB
    (fnPage fn) (R.RING_STAT_WAITING r) false

/-- EN is 0 and a copy in progress keeps the ring ACTIVE until it ends (R382). -/
def State.ringEnding (s : State) (fn r : Nat) : Bool := s.ringActive fn r && !s.flag (fnPage fn) (R.RING_CFG_EN r)

/-- A ring that only waits for the copy in progress stops once that has ended. -/
def State.ringEnded (s : State) (fn r : Nat) : State :=
  if s.ringEnding fn r && (s.ring fn r).filled.isEmpty then s.ringStop fn r else s

/-- The copies behind the head of a receive queue are dropped with RING_DISABLED. -/
def State.rxDropBehind (s : State) (fn r : Nat) : State :=
  let q := s.ring fn r
  let gone (t : State) (y : RxItem) : State := (match y.packet with
    | some k => t.unhold k
    | none => t).ringDrop fn r Code.RING_DISABLED
  (q.queue.drop 1).foldl gone (s.setRing fn r { q with queue := q.queue.take 1 })

/-- EN goes from 1 to 0 (R382): a receive copy in progress goes on while the host has posted descriptors for it, and the ring stops at its end;
otherwise it stops now. -/
def State.ringDisable (s : State) (fn r : Nat) : State :=
  let t := if r < 16 && !(s.ring fn r).filled.isEmpty then s.rxFill fn r 8192 else s
  let q := t.ring fn r
  let more : Bool := match q.queue with
    | x :: _ => r < 16 && !q.filled.isEmpty && Nat.blt q.written x.bytes.length && t.posted fn r != 0
    | [] => false
  if more then t.rxDropBehind fn r else t.ringStop fn r

/-- DMA serves the head of a receive ring. A PDU past its deadline drops before its first byte is written (R306). Otherwise it writes what the descriptors take; a whole copy is written back, otherwise the ring waits
or drops as POLICY says where the host has posted no further descriptor; each need has a wait of its own (R385). A ring whose EN is 0 abandons it
there (R382). -/
def State.rxServeHead (s : State) (fn r : Nat) : State :=
  let p := fnPage fn
  match (s.ring fn r).queue with
  | [] => s
  | x :: _ =>
    if s.past x.deadline && (s.ring fn r).filled.isEmpty then (s.rxPop fn r).relayDrop Code.RELAY_DEADLINE
    else
    let s0 := if (s.ring fn r).rx.isEmpty then s else s.rxGoOn fn r
    let s1 := s0.rxFill fn r 8192
    let q := s1.ring fn r
    if !q.filled.isEmpty && q.written ≥ x.bytes.length then
      ((s1.rxComplete fn r x false 0 true q.filled).rxPop fn r).ringDone fn r
    else if s1.posted fn r != 0 then s1.rxGoOn fn r
    else if s.flag p (R.RING_CFG_POLICY r) || s.ringEnding fn r then s1.rxGiveUp fn r
    else if s1.running (.ringWait (ringKey fn r)) then s1
    else (s1.setB p (R.RING_STAT_WAITING r) true).start (.ringWait (ringKey fn r)) (usT (10 * min 1000 (s.ringFld fn (R.RING_CFG_RING_WAIT r))))

/-- DMA serves a receive ring; one that stops does so at the end of the copy in progress (R382). -/
def State.rxServe (s : State) (fn r : Nat) : State := (s.rxServeHead fn r).ringEnded fn r

/-! ### Stopping (R380, R382, R383) -/

/-- What DMA has in flight at a ring is discarded (R469): the descriptors written of a receive copy are completed as abandoned and its queue is
let go; the transmit descriptors fetched and not admitted are written back with the code of the cause. -/
def State.ringDiscard (s : State) (code fn r : Nat) : State :=
  let q := s.ring fn r
  if r < 16 then
    let s1 := if q.filled.isEmpty then s else s.rxGiveUp fn r
    (s1.ring fn r).queue.foldl (fun t _ => t.rxPop fn r) s1
  else if q.fetched.isEmpty then s
  else
    let w : TxWait := { serial := q.serial, descs := q.fetched, ts := false, ports := [], status := code, stamp := none, known := true, since := s.time.tl }
    s.setRing fn r { q with tx := [], begun := [], waits := q.waits ++ [w], serial := q.serial + 1 }

/-- The same at every ring. -/
def State.dmaDiscard (s : State) (code : Nat) : State :=
  s.rings.foldl (fun t e => t.ringDiscard code (e.1 / 32) (e.1 % 32)) s

/-- A ring stops with a code (R380, R383). -/
def State.ringError (s : State) (fn r code : Nat) : State :=
  let p := fnPage fn
  let s1 := ((s.ringStop fn r).setB p (R.RING_STAT_STOPPED r) true).setF p (R.RING_STAT_CODE r) code
  s1.captureInternal p (ringBlock r) code

/-- EN goes from 0 to 1 (R381). The write-backs that frames of before still wait for are made no more: HEAD has left them (DEDUCED, log entry
173). -/
def State.ringStart (s : State) (fn r : Nat) : State :=
  let p := fnPage fn
  let q := s.ring fn r
  let s1 := s.setRing fn r { Ring.empty with serial := q.serial }
  let s2 := (s1.setF p (R.RING_HEAD r) 0).setF p (R.RING_TAIL r) 0
  s2.wr p (R.RING_STAT_ACTIVE r).off 1

/-! ### Register writes (R381) -/

/-- A write to register `i` (word index in the ring's block) of ring `r`: the state, and the code of a refusal. -/
def State.ringWrite (s : State) (fn r i : Nat) (v : Word) : State × Nat :=
  let p := fnPage fn
  let off := ringBlock r + 4 * i
  let act := s.ringActive fn r
  match i with
  | 0 => if act then (s, Code.RING_BUSY) else (s.wr p off (setBits 0 31 8 (getBits v 31 8)), 0)
  | 1 => if act then (s, Code.RING_BUSY) else (s.wr p off v, 0)
  | 2 =>
    let n := getBits v 12 0
    if act then (s, Code.RING_BUSY) else if n < 16 || n > 4096 then (s, Code.RING_CFG_BAD) else (s.wr p off (BitVec.ofNat 32 n), 0)
  | 3 =>
    let n := getBits v 11 0
    if n ≥ s.ringSize fn r then (s, Code.RING_CFG_BAD) else (s.wr p off (BitVec.ofNat 32 n), 0)
  | 5 =>
    if getBits v 14 12 ≥ 5 then (s, Code.RING_CFG_BAD)
    else
      let was := s.flag p (R.RING_CFG_EN r)
      let s1 := s.wr p off (setBits 0 17 0 (getBits v 17 0))
      (if v.getLsbD 0 && !was then (if act then s1.ringStop fn r else s1).ringStart fn r
       else if !(v.getLsbD 0) && was then s1.ringDisable fn r else s1, 0)
  | 6 => (s.wr p off (setBits 0 23 0 (getBits v 23 0)), 0)
  | 7 => (s.wr p off (setBits 0 17 0 (getBits v 17 0)), 0)
  | _ => (s, 0)

/-! ### Prefetch (R383) -/

def rxDesc (ix : Nat) (e : Entry) : RxDesc := { ix := ix, addr := eBits e 63 0, len := eBits e 79 64 }

def rxDescBad (d : RxDesc) : Bool := d.len < 64 || d.len > 16384 || d.len % 64 != 0

def txDesc (ix : Nat) (e : Entry) : TxDesc :=
  { ix := ix, addr := eBits e 63 0, len := eBits e 79 64, sop := eBit e 80, eop := eBit e 81, pduForm := eBit e 82, tsReq := eBit e 83
    prio := eBits e 86 84, vid := eBits e 107 96, id := eBits e 156 128, ide := eBit e 157, fmt := eBits e 161 160, brs := eBit e 162
    rtr := eBit e 163, sec := eBit e 165, sdt := eBits e 175 168, vcid := eBits e 183 176, af := eBits e 223 192 }

/-- The descriptors at the end of a list that belong to a frame without EOP yet. -/
def openFrame (l : List TxDesc) : List TxDesc := (l.reverse.takeWhile fun d => !d.eop).reverse

/-- A transmit descriptor that may not follow those before it. -/
def txDescBad (before : List TxDesc) (d : TxDesc) : Bool :=
  let o := openFrame before
  let len := (o.map (·.len)).sum + d.len
  if d.pduForm then !d.sop || !d.eop || d.len > 2048 || d.fmt == 3 || !o.isEmpty
  else d.len == 0 || d.len > 16384 || len > 10236 || d.sop != o.isEmpty || d.fmt == 3

/-- The descriptors that a prefetch asks for: those posted, at most what makes 8 (R383). -/
def State.wanted (s : State) (fn r : Nat) : Nat :=
  let q := s.ring fn r
  min (s.posted fn r) (8 - if r < 16 then q.rx.length else q.tx.length)

/-- A transmit frame that fills the 8 prefetched descriptors without an EOP is begun: the device reads it, and prefetches more. -/
def State.txBegin (s : State) (fn r : Nat) : State :=
  let q := s.ring fn r
  if q.tx.length < 8 || q.tx.any (·.eop) then s else s.setRing fn r { q with begun := q.begun ++ q.tx, tx := [] }

/-- The reads of `n` descriptors from the next one on; those before the end of the ring, then those at its start (R378). -/
def State.descReads (s : State) (fn r n : Nat) : State :=
  let ix := (s.ring fn r).fetch
  let a := min n (s.ringSize fn r - ix)
  (s.dmaFetch fn (s.ringBase fn r + 32 * ix) (32 * a)).dmaFetch fn (s.ringBase fn r) (32 * (n - a))

/-- Take fetched descriptors into the ring, oldest first. -/
def State.takeDescs (s : State) (fn r : Nat) (l : List Entry) : State :=
  match l with
  | [] => s
  | e :: t =>
    let q := s.ring fn r
    let room := if r < 16 then q.rx.length < 8 else q.tx.length < 8
    if s.posted fn r == 0 || !room || !s.ringActive fn r then s
    else
      let ix := q.fetch
      let next := if ix + 1 ≥ s.ringSize fn r then 0 else ix + 1
      if r < 16 then
        let d := rxDesc ix e
        if rxDescBad d then s.ringError fn r Code.DESC_BAD
        else (s.setRing fn r { q with rx := q.rx ++ [d], fetch := next }).takeDescs fn r t
      else
        let d := txDesc ix e
        if txDescBad q.fetched d then s.ringError fn r Code.DESC_BAD
        else (s.setRing fn r { q with tx := q.tx ++ [d], fetch := next }).takeDescs fn r t

/-- A fetch of descriptors is made and completes. A transmit frame without EOP before TAIL is bad. -/
def State.descFetch (s : State) (fn r : Nat) (l : List Entry) : State :=
  let n := min (s.wanted fn r) l.length
  let s1 := (s.descReads fn r n).takeDescs fn r (l.take n)
  if s1.ringActive fn r && r ≥ 16 && s1.posted fn r == 0 && !(openFrame (s1.ring fn r).fetched).isEmpty then s1.ringError fn r Code.DESC_BAD
  else s1.txBegin fn r

/-! ### Transmit (R386, R387) -/

/-- The first whole frame or PDU of a transmit ring. -/
def wholeFrame (l : List TxDesc) : List TxDesc := if l.any (·.eop) then l.takeWhile (fun d => !d.eop) ++ (l.dropWhile fun d => !d.eop).take 1 else []

/-- The transmit rings of P0 that hold a whole frame, in rising function and ring order. -/
def State.txReady (s : State) : List (Nat × Nat) :=
  ((List.range 10).flatMap fun fn => (List.range 16).map fun r => (fn, 16 + r)).filter fun e =>
    s.ringActive e.1 e.2 && s.fnOn e.1 && !(wholeFrame (s.ring e.1 e.2).fetched).isEmpty

/-- The ring served next (R386): the highest PRIO, then in turn. -/
def State.txNext (s : State) : Option (Nat × Nat) :=
  let l := s.txReady
  let prio (e : Nat × Nat) : Nat := s.ringFld e.1 (R.RING_CFG_PRIO e.2)
  let best := (l.map prio).foldl max 0
  let c := l.filter fun e => prio e == best
  match mget s.bridge.txPtr best with
  | some k => (c.find? fun e => ringKey e.1 e.2 > k).or c.head?
  | none => c.head?

/-- A PDU longer than its format allows (R251). -/
def pduTooLong (fmt len : Nat) : Bool := match fmt with
  | 0 => len > 8
  | 1 => len > 64
  | _ => len > 2048

/-- The next frame or PDU of the transmit rings enters the device with the bytes read from its buffers. -/
def State.txEnter (s : State) (bytes : List Byte) : State :=
  match s.txNext with
  | none => s
  | some (fn, r) =>
    let q := s.ring fn r
    let ds := wholeFrame q.fetched
    let len := (ds.map (·.len)).sum
    let data := padTo (bytes.take len) len
    match ds.head? with
    | some h =>
      let ts := (ds.any (·.tsReq)) && !h.pduForm
      let ref : TxRef := { fn := fn, ring := r, serial := q.serial, ts := ts }
      let w : TxWait := { serial := q.serial, descs := ds, ts := ts, ports := [], status := 0, stamp := none, known := false, since := s.time.tl }
      let s0 := ds.foldl (fun t d => t.dmaFetch fn d.addr d.len) s
      let s1 := s0.setRing fn r { q with tx := q.fetched.drop ds.length, begun := [], waits := q.waits ++ [w], serial := q.serial + 1 }
      let s2 := { s1 with bridge := { s1.bridge with txPtr := mset s1.bridge.txPtr (s.ringFld fn (R.RING_CFG_PRIO r)) (ringKey fn r) } }
      let refuse (code : Nat) : State := (s2.drop code).txAdmitted (some ref) code []
      if s.ingressCode != 0 then refuse s.ingressCode
      else if h.pduForm then
        let p : Pdu :=
          { src := 60, fmt := h.fmt, ide := h.ide, id := h.id, brs := h.brs, rtr := h.rtr, esi := false, sec := h.sec, sdt := h.sdt
            vcid := h.vcid, af := h.af, bus := 0, data := data, stamp := s.bareStamp .relay, epoch := s.heat.liveE, tx := some ref }
        if pduTooLong h.fmt data.length then refuse Code.RELAY_FORMAT else s2.pduComes p
      else if !s.up 8 then refuse Code.SHED_DOMAIN
      else
        let f : Frame :=
          { bytes := padTo data 60, oversize := false, early := false, bad := false, frag := false, src := 28, ended := s.time.tl, stamp := s.bareStamp .dma
            epoch := s.heat.liveE, vid := h.vid, pcp := h.prio, prio := h.prio, markDei := false, pacer := none, tx := some ref }
        { s2 with fwd := { s2.fwd with classQ := s2.fwd.classQ ++ [f] } }
    | none => s

/-- Write back the oldest frame of a transmit ring where its outcome is known. -/
def State.txWriteback (s : State) (fn r : Nat) : State :=
  let q := s.ring fn r
  match q.waits with
  | [] => s
  | w :: t =>
    if !w.known then s
    else
      let dom := s.ringFld fn (R.RING_CFG_TS_DOMAIN r)
      let head := match w.stamp with
        | some (_, st) => stampWords (st.read dom)
        | none => [0, 0, 0]
      let inv := match w.stamp with
        | some (_, st) => st.isInvalid dom
        | none => false
      let status := if w.stamp.isSome then 0 else w.status
      let ws := head ++ [BitVec.ofNat 32 (status + b2n (w.ts && w.stamp.isSome) * 2 ^ 16 + b2n inv * 2 ^ 17), 0, 0, 0, 0x80000000]
      let s1 := s.setRing fn r { q with waits := t }
      (w.descs.foldl (fun u d => u.writeBack fn r d.ix ws) s1).ringDone fn r

/-- No stamp within 100 ms (R387). -/
def State.txLost (s : State) (fn r : Nat) : State :=
  let q := s.ring fn r
  match q.waits with
  | w :: t =>
    if w.ts && !w.known && w.since + msT 100 ≤ s.time.tl then
      s.setRing fn r { q with waits := { w with known := true, status := Code.TS_LOST, stamp := none } :: t }
    else s
  | [] => s

/-! ### Resets (R389) -/

/-- The MSI-X table of a function returns to its reset value. -/
def State.msixReset (s : State) (fn : Nat) : State :=
  let mine (v : Nat) : Bool := (vectorOwner v).1 == fn
  { s with bridge := { s.bridge with
      msixEnabled := s.bridge.msixEnabled.filter (· != fn), unmasked := s.bridge.unmasked.filter fun v => !mine v
      msixPending := s.bridge.msixPending.filter fun v => !mine v, msixTable := mkeep s.bridge.msixTable fun k => k / 16384 != fn } }

/-- The endings of what a ring had in flight (R469), written while its link carries them: the descriptors of a receive copy in progress, then in ring
order the transmit frames whose outcome is known, those fetched and not admitted with RING_DISABLED. -/
def State.ringEndings (s : State) (fn r : Nat) : State :=
  let t := s.ringDiscard Code.RING_DISABLED fn r
  let w := (t.ring fn r).waits.filter (·.known)
  w.foldl (fun u _ => u.txWriteback fn r) (t.setRing fn r { t.ring fn r with waits := w })

/-- The rings of function `fn` are discarded and their registers reset (R389); `carries`: its link still carries write-backs (DESIGN CHOICE, log
entry 204). -/
def State.ringsReset (s : State) (fn : Nat) (carries : Bool) : State :=
  let p := fnPage fn
  let rings := (List.range 32).filter (ringExists fn)
  let s1 := rings.foldl (fun t r =>
    let n := (t.ring fn r).queue.length
    let u0 := (List.range n).foldl (fun (x : State) _ => x.drop Code.RING_DISABLED) (if carries then t.ringEndings fn r else t.rxFlush fn r n)
    let u := if carries then u0 else t.rxFlush fn r n
    let v := (u.stop (.ringWait (ringKey fn r))).stop (.ringMod (ringKey fn r))
    v.setRing fn r { Ring.empty with serial := (v.ring fn r).serial }) s
  let isRing (k : Nat) : Bool := k / 4096 == p && (k % 4096 ≥ 0x100 || (0x048 ≤ k % 4096 && k % 4096 < 0x058))
  ({ s1 with regs := mkeep s1.regs fun k => !isRing k }).msixReset fn

/-- The VFs are there no more: NumVFs and VF Enable are 0, their rings are discarded. -/
def State.vfsGone (s : State) : State :=
  let t := (List.range 8).foldl (fun t k => t.ringsReset (2 + k) false) s
  { t with bridge := { t.bridge with numVfs := 0, vfEnable := false } }

/-- A Function Level Reset of function `fn`; that of PF1 takes its VFs along (PRESUMED, log entry 203). -/
def State.fnReset (s : State) (fn : Nat) : State :=
  let t := s.ringsReset fn true
  if fn == 1 then t.vfsGone else t

/-- A hot reset or link down of link `k`: the rings of its functions (R389). -/
def State.linkReset (s : State) (k : Nat) : State :=
  if k == 0 then ((List.range 2).foldl (fun t fn => t.ringsReset fn false) s).vfsGone else s.ringsReset 10 false

end Sys2Proof.Machine
end

