-- ==== Sys2Proof/Machine/Units.lean ====
section
/-! DEFINITION. Units and their reserves (chapter 14): the scratch list, slice substitution and failure (R209, R210), the handovers of CAN
and LIN cores and MACsec engines (R274 to R276, R432, R433, R440), laps and verdicts (R426 to R431), full BIST, hard repair and the memory
failure log (R435 to R443). -/

namespace Sys2Proof.Machine

def pgSt : Nat := 0x1C0
def pgMbist : Nat := 0x1C2

/-! ### Unit codes (R424) -/

def unitClass (u : Nat) : Nat := u / 256
def unitIx (u : Nat) : Nat := u % 256

/-- The number of units of a class. -/
def unitCount (cls : Nat) : Nat :=
  match cls with
  | 1 => 3
  | 2 => 50
  | 3 => 13
  | 4 => 29
  | 5 => 6
  | 6 => 3
  | 7 => 2
  | _ => 0

/-- The code names a unit of classes 1 to 4. -/
def testable (u : Nat) : Bool := 1 ≤ unitClass u && unitClass u ≤ 4 && unitIx u < unitCount (unitClass u)

/-- The code names a unit. -/
def isUnit (u : Nat) : Bool :=
  u < 65536 && (unitIx u < unitCount (unitClass u) || unitClass u == 8 || (unitClass u == 10 && 3 ≤ unitIx u && unitIx u ≤ 15))

/-- The test slices of a unit. -/
def unitSlices (u : Nat) : Nat :=
  match unitClass u with
  | 1 => 12
  | 2 => 2
  | 3 => 1
  | _ => 3

/-- The units of full BIST: those of classes 1 to 4, and the islands, which report under the code of their domain (R443). -/
def bistable (u : Nat) : Bool := testable u || (unitClass u == 10 && 3 ≤ unitIx u && unitIx u ≤ 15)

/-- The page that reports a unit; the reserve MACsec engine has none. -/
def unitPage (u : Nat) : Option Nat :=
  let i := unitIx u
  match unitClass u with
  | 1 => some (0x098 + i)
  | 2 => some (0x100 + i)
  | 3 => some (0x140 + i)
  | 4 => if i < 28 then some (0x040 + i) else none
  | 5 => some 0x004
  | 6 => some 0x1A2
  | 7 => some 0x1A4
  | _ => none

/-- The pages that report a unit: with a forwarding slice's own the role page that has it as HOME (R424; DESIGN CHOICE, log entry 191). -/
def unitPages (u : Nat) : List Nat :=
  (unitPage u).toList ++ (if unitClass u == 1 && unitIx u < 2 then [0x090 + unitIx u] else [])

/-- A page that reports a unit of classes 1 to 4, and so not its domain. -/
def ownUnit (p : Nat) : Bool :=
  (0x040 ≤ p && p ≤ 0x05B) || p == 0x090 || p == 0x091 || (0x098 ≤ p && p ≤ 0x09A) || (0x100 ≤ p && p ≤ 0x131) || (0x140 ≤ p && p ≤ 0x14C)

/-- The pages that show the test result of a unit; a domain's is shown by every page of it that reports no unit of its own (R424). -/
def resultPages (u : Nat) : List Nat :=
  if unitClass u == 10 then (List.range 0x200).filter fun p => mapped p && pageDomain p == unitIx u && !ownUnit p else unitPages u

/-! ### Records -/

def State.setTest (s : State) (f : TestState → TestState) : State := { s with test := f s.test }

/-- A substitution record (R391). -/
def State.substRecord (s : State) (p : Nat) : State :=
  s.record { type := 8, page := p, tl := 0, tsInvalid := false, code := 0, arg0 := p, arg1 := (s.rd p R.RESERVE_MAP_HOME.off).toNat
             arg2 := 0, payload := [] }

/-- What a page shows of the unit `n` of its RESERVE_MAP that serves it, in place of `home`. -/
def State.servedBy (s : State) (p n home : Nat) : State :=
  let s1 := (s.setF p R.RESERVE_MAP_SERVING n).setB p R.RESERVE_MAP_SUBST (n != home)
  s1.setB p R.PAGE_STAT_ON_RESERVE (n != home && n != 15)

/-- A page is served by another unit from now on. -/
def State.serveBy (s : State) (p n home : Nat) : State := (s.servedBy p n home).substRecord p

/-- The run-time fields: what a restore of the configuration does not bring back. -/
def runTime (a : Acc) : Bool := a == .rov || a == .rc || a == .w1c

/-- Registers whose run-time value belongs to the device and not to the page's domain: the headers but events and errors, the role status
and the state of the slices. -/
def keepRunning (p off : Nat) : Bool :=
  (off < 0x040 && off != 0x010 && off != 0x020 && off != 0x024 && off != 0x028) || (p == 0x080 && off == 0x040)
    || (0x098 ≤ p && p ≤ 0x09A && off == 0x040) || ((p == 0x130 || p == 0x131 || p == 0x14C) && off == 0x040)

/-- The pages that satisfy `q` lose their run-time registers and counters. -/
def State.loseRunning (s : State) (q : Nat → Bool) : State :=
  let clean (e : Nat × Word) : Option (Nat × Word) :=
    let p := e.1 / 4096
    let off := e.1 % 4096
    if !q p || keepRunning p off then some e
    else
      let m := accMask runTime p off
      let v := (e.2 &&& ~~~ m) ||| (resetWord p off &&& m)
      if v = resetWord p off then none else some (e.1, v)
  { s with regs := s.regs.filterMap clean, wide := mkeep s.wide fun k => !q (k / 4096), snap := mkeep s.snap fun k => !q (k / 4096) }

/-! ### The scratch list (R440, R441) -/

/-- Queue the records of the scratch list that hold the entries from `k` on. -/
def State.journalScratch (s : State) (k : Nat) : State :=
  ((List.range 8).filter fun i => k / 16 ≤ i && 16 * i < s.test.scratch.length).foldl (fun t i =>
    t.nvQueue { pos := 1 + i, obj := .scratch ((t.test.scratch.drop (16 * i)).take 16), job := .none }) s

/-- The SCRATCHED mark of a unit's pages, and the marks of PLL_STAT (R89, R424). -/
def State.markPage (s : State) (u : Nat) (on : Bool) : State :=
  let i := unitIx u
  if unitClass u == 5 then
    if i == 5 then s.setB 4 R.PLL_STAT_RESERVE_SCRATCHED on
    else
      let m := s.fld 4 R.PLL_STAT_PLL_SCRATCHED
      s.setF 4 R.PLL_STAT_PLL_SCRATCHED (if bit m i == on then m else if on then m + 2 ^ i else m - 2 ^ i)
  else if unitClass u == 6 then s.setB 0x1A2 R.PAGE_STAT_SCRATCHED (on || [0x600, 0x601].any fun v => v != u && s.scratched v)
  else if unitClass u == 7 then s.setB 0x1A4 R.PAGE_STAT_SCRATCHED (if i == 0 then on else s.scratched 0x700)
  else (if testable u then unitPages u else []).foldl (fun t p => t.setB p R.PAGE_STAT_SCRATCHED on) s

/-- A domain is isolated and reset (R92, R440): its running registers, and what the hardware of a slice holds, are lost. The callers discard the
work in flight. -/
def State.isolate (s : State) (d : Nat) : State :=
  let s1 := s.loseRunning fun p => if 5 ≤ d && d ≤ 7 then p == slicePage (d - 5) else pageDomain p == d
  let s2 := { s1 with fwd := { s1.fwd with strays := mkeep s1.fwd.strays fun e => e / 2 ^ 40 != d - 5 || d < 5 || 7 < d }
                      power := { s1.power with restoring := s1.power.restoring.filter (· != d) } }
  s2.setF 1 R.PWR_STAT_DOMAIN_ON (s2.fld 1 R.PWR_STAT_DOMAIN_ON - (if s2.on d then 2 ^ d else 0))

/-- Scratch a unit: list, summary, journal, event and FAULT record. -/
def State.scratchUnit (s : State) (u cause : Nat) : State :=
  if s.scratched u then s
  else
    let s1 := s.setTest fun t => { t with scratch := t.scratch ++ [(u, cause)] }
    let s2 := (s1.setF 0 R.DEV_SCRATCH_COUNT s1.test.scratch.length).journalScratch s.test.scratch.length
    let s3 := s2.markPage u true
    let s4 := (s3.raise pgSt 2).record
      { type := 6, page := (unitPage u).getD pgSt, tl := 0, tsInvalid := false, code := cause, arg0 := (unitPage u).getD pgSt, arg1 := u
        arg2 := cause + 0xF * 2 ^ 16, payload := [] }
    let d := if unitClass u == 1 then 5 + unitIx u else unitIx u
    if s4.isolatedDomain d && (unitClass u == 1 || unitClass u == 10) then s4.isolate d else s4

/-- A scratched PLL that PLL5 replaces stands before the other PLLs in the scratch list, so that the list tells which one it is (R90; DESIGN
CHOICE, log entry 139). -/
def State.listFirst (s : State) (u : Nat) : State :=
  let l := s.test.scratch
  let pll (e : Nat × Nat) : Bool := unitClass e.1 == unitClass u
  match l.find? fun e => e.1 == u with
  | some x =>
    let m := l.takeWhile (fun e => !pll e) ++ x :: ((l.dropWhile fun e => !pll e).filter fun e => e.1 != u)
    if m == l then s else (s.setTest fun t => { t with scratch := m }).journalScratch 0
  | none => s

/-! ### Results (R430, R431) -/

/-- The verdict of a run: 1 PASS, 2 FAIL, 3 INCOMPLETE. -/
def verdict (r : SliceRun) : Nat := if r.patterns.toNat < r.target.toNat then 3 else if r.misr == r.golden then 1 else 2

def State.unitResult (s : State) (u : Nat) : UnitResult :=
  (mget s.test.units u).getD { result := 0, retried := false, untestable := false, slice := 0, lap := 0, misr := 0, patterns := 0, target := 0 }
def State.setResult (s : State) (u : Nat) (x : UnitResult) : State := s.setTest fun t => { t with units := mset t.units u x }

/-- Record the result of a unit: the unit table, TEST_RESULT, the counters, the events, the logbook. -/
def State.recordResult (s : State) (u res slice : Nat) (retried : Bool) (r : Option SliceRun) : State :=
  let lap := s.fld pgSt R.ST_LAP
  let old := s.unitResult u
  let x : UnitResult :=
    { result := res, retried := retried, untestable := false, slice := slice, lap := lap, misr := (r.map (·.misr)).getD old.misr
      patterns := (r.map (·.patterns.toNat)).getD 0, target := (r.map (·.target.toNat)).getD old.target }
  let s1 := s.setResult u x
  let s2 := s1.count pgSt (if res == 1 then R.ST_PASS else if res == 2 then R.ST_FAIL else R.ST_INCOMPLETE)
  let s3 := if res == 2 then s2.raise pgSt 1 else if res == 3 then s2.raise pgSt 3 else s2
  let page := (unitPage u).getD pgSt
  let word := res + slice * 2 ^ 8 + lap * 2 ^ 16
  let s4 := (resultPages u).foldl (fun t p => t.wr p R.TEST_RESULT_RESULT.off (BitVec.ofNat 32 word)) s3
  s4.record { type := 7, page := page, tl := 0, tsInvalid := false, code := 0, arg0 := page, arg1 := word, arg2 := 0, payload := [] }

def State.markUntestable (s : State) (u : Nat) : State :=
  (s.setResult u { s.unitResult u with untestable := true }).count pgSt R.ST_UNTESTABLE

/-! ### Forwarding slices (R209, R210) -/

def State.roleFld (r : Nat) : Fld := if r == 0 then R.FWD_ROLE_STAT_A_SLICE else R.FWD_ROLE_STAT_B_SLICE

def State.reserveSlice (s : State) : Nat := s.fld pgFwd R.FWD_ROLE_STAT_RESERVE

/-- Role `r` moves to slice `i` (3 none); where `fold` is not 0 the other role's slice serves it. -/
def State.moveRole (s : State) (r i serving : Nat) : State :=
  let s1 := (s.setF pgFwd (State.roleFld r) i).setB (rolePage r) R.PAGE_STAT_SCRATCHED (serving == 15 || s.scratched (0x100 + r))
  let s2 := s1.serveBy (rolePage r) serving r
  let s3 := if i < 3 then s2.setF (slicePage i) R.SLICE_STAT_STATE (1 + r) else s2
  s3.raise (rolePage r) 3

/-- Start a planned substitution of role `r` (R209): the learned entries are copied; changes go to both slices from now on. -/
def State.startCopy (s : State) (r : Nat) : State :=
  let a := s.roleSlice r
  let b := s.reserveSlice
  let s1 := (s.setB (slicePage a) R.SLICE_STAT_COPY_SRC true).setB (slicePage b) R.SLICE_STAT_COPY_DST true
  { (s1.copyLearned a b) with fwd := { (s1.copyLearned a b).fwd with copying := some (r, a, b) } }

/-- The copy flags end. -/
def State.endCopy (s : State) : State :=
  match s.fwd.copying with
  | none => s
  | some (_, a, b) =>
    let s1 := (s.setB (slicePage a) R.SLICE_STAT_COPY_SRC false).setB (slicePage b) R.SLICE_STAT_COPY_DST false
    { s1 with fwd := { s1.fwd with copying := none } }

/-- The frames of role `r` in the lookup pipeline are discarded (R210). -/
def State.discardLookups (s : State) (r : Nat) : State :=
  let mine (f : Frame) : Bool := s.roleOf f.epoch f.src == r
  let gone := s.fwd.lookQ.filter mine
  let s1 := { s with fwd := { s.fwd with lookQ := s.fwd.lookQ.filter fun f => !mine f } }
  gone.foldl (fun t f => (t.count (rolePage r) R.LOOKUP_DISCARD).txAdmitted f.tx Code.UNIT_FAILED []) s1

/-- Raise UNSERVED: a role is served by no slice (R210, R466). -/
def State.setUnserved (s : State) (code : Nat) : State :=
  let s1 := (s.setB 0 R.DEV_SCRATCH_UNSERVED true).assertFaultN
  ({ s1 with fault := { s1.fault with unserved := true } }).faultRecord 0 R.DEV_SCRATCH_UNSERVED.off code

/-- The fold changes: both role pages say so (log entry 90). -/
def State.setFold (s : State) (v : Nat) : State := ((s.setF pgFwd R.FWD_ROLE_STAT_FOLD v).raise (rolePage 0) 4).raise (rolePage 1) 4

/-- In LEAN, the reserve slice whose domain was shed, for a role that the lean set keeps (R77). -/
def State.leanReserve (s : State) (r : Nat) : Option Nat :=
  if s.mode.power == .lean && (s.rd 1 R.PWR_LEAN_CFG_BUDGET.off).getLsbD (16 + r) then
    (List.range 3).find? fun i => !s.on (5 + i) && !s.scratched (0x100 + i) && s.roleSlice 0 != i && s.roleSlice 1 != i
      && s.fld (slicePage i) R.SLICE_STAT_STATE != 5
  else none

/-- Slice `i`'s domain is powered in LEAN in place of another's: it is the reserve from now on (R77, log entry 89), and takes
nothing until it is restored (R81). -/
def State.powerInLean (s : State) (i : Nat) : State :=
  let s1 := (s.setF 1 R.PWR_STAT_DOMAIN_ON (s.fld 1 R.PWR_STAT_DOMAIN_ON + 2 ^ (5 + i))).setF pgFwd R.FWD_ROLE_STAT_RESERVE i
  { s1 with power := { s1.power with leanSet := s1.power.leanSet ++ [5 + i], restoring := s1.power.restoring ++ [5 + i] } }

/-- Role `r`, whose slice failed, finds another: the reserve, the other role's slice under FAIL_FOLD, or none. -/
def State.replaceRole (s0 : State) (r : Nat) : State :=
  let s := match s0.leanReserve r with
    | some i => if s0.reserveSlice < 3 then s0 else s0.powerInLean i
    | none => s0
  let b := s.reserveSlice
  let o := s.roleSlice (1 - r)
  if b < 3 then
    let s1 := ((s.purgeSlice b fun _ => true).1).setF pgFwd R.FWD_ROLE_STAT_RESERVE 3
    let s2 := s1.moveRole r b b
    if s2.power.restoring.contains (5 + b) then s2.setF (slicePage b) R.SLICE_STAT_STATE 6 else s2
  else if s.flag pgFwd R.FWD_MISC_CFG_FAIL_FOLD && o < 3 && s.on (5 + o) then
    (s.moveRole r 3 o).setFold (if r == 1 then 1 else 2)
  else
    let t := s.moveRole r 3 15
    if t.fld pgFwd R.FWD_ROLE_STAT_FOLD == 0 then t else t.setFold 0

/-- The slice whose test is cut or passed becomes the reserve, its learned entries deleted. -/
def State.becomeReserve (s : State) (i : Nat) : State :=
  (((s.purgeSlice i fun _ => true).1).setF (slicePage i) R.SLICE_STAT_STATE 3).setF pgFwd R.FWD_ROLE_STAT_RESERVE i

/-! ### CAN and LIN cores, MACsec engines -/

def corePage (k : Nat) : Nat := 0x130 + k
def pgLinCore : Nat := 0x14C

/-- CAN reserve core `k` serves nothing and is fit to serve. -/
def State.canCoreFree (s : State) (k : Nat) : Bool :=
  s.up 13 && !s.scratched (0x230 + k) && s.fld (corePage k) R.CORE_STAT_CHANNEL == 0x3F && !s.flag (corePage k) R.CORE_STAT_TESTING

/-- The lower-numbered free reserve core, as its number in RESERVE_MAP. -/
def State.freeCanCore (s : State) : Option Nat := ([0, 1].find? s.canCoreFree).map (· + 1)

def State.linCoreFree (s : State) : Bool :=
  s.up 14 && !s.scratched 0x30C && s.fld pgLinCore R.CORE_STAT_CHANNEL == 0x3F && !s.flag pgLinCore R.CORE_STAT_TESTING

/-- The reserve MACsec engine serves no port and is not under test. -/
def State.engineFree (s : State) : Bool :=
  !s.scratched 0x41C && !(s.test.run.any fun r => r.unit == 0x41C) && (List.range 28).all fun n => s.fld (macPage n) R.RESERVE_MAP_SERVING != 1

/-- Free the reserve core that channel `c` used. -/
def State.freeCore (s : State) (c : Nat) : State :=
  [0, 1].foldl (fun t k => if t.fld (corePage k) R.CORE_STAT_CHANNEL == c then t.setF (corePage k) R.CORE_STAT_CHANNEL 0x3F else t) s

/-! ### The run -/

def State.setRun (s : State) (r : Option TestRun) : State := s.setTest fun t => { t with run := r }

/-- The channel that CAN core `i` of R424 serves: a channel's own core that channel, a reserve core the one it stands in for. -/
def State.coreChan (s : State) (i : Nat) : Option Nat :=
  let c := if i < 48 then i else s.fld (corePage (i - 48)) R.CORE_STAT_CHANNEL
  if c < 48 && s.fld (canPage c) R.RESERVE_MAP_SERVING == (if i < 48 then 0 else i - 47) then some c else none

/-- The number in RESERVE_MAP of the CAN core under test. -/
def TestRun.ownCore (r : TestRun) : Nat := if unitIx r.unit < 48 then 0 else unitIx r.unit - 47

/-- A test of unit `u` begins in phase `ph`, with reserve `k`. -/
def State.newRun (s : State) (u : Nat) (ph : TestPhase) (k : Nat) : State :=
  s.setRun (some { unit := u, phase := ph, slice := 0, repeating := false, retried := false, reserve := k, attached := false
                   chan := if unitClass u == 2 then (s.coreChan (unitIx u)).getD 48 else unitIx u })

/-- The page of the unit whose test slice runs (R111). -/
def State.inTest (s : State) (p : Nat) : Bool :=
  match s.test.run with
  | some r => (r.phase == .slice || r.phase == .gap) && (unitPages r.unit).contains p
  | none => false

/-- Whether a unit can be tested now, and how (R427, R428): `none` no; otherwise the phase its test begins in and its reserve. -/
def State.testStart (s : State) (u : Nat) : Option (TestPhase × Nat) :=
  let i := unitIx u
  if !s.clocked (if unitClass u == 2 || unitClass u == 3 then 1 else 0) then none
  else match unitClass u with
  | 1 =>
    if s.reserveSlice == i then some (.slice, 3)
    else if s.up (5 + i) && s.reserveSlice < 3 && s.fld pgFwd R.FWD_ROLE_STAT_FOLD == 0 && (s.roleSlice 0 == i || s.roleSlice 1 == i) then
      some (.out, s.reserveSlice)
    else none
  | 2 =>
    if i ≥ 48 then
      if s.canCoreFree (i - 48) then some (.slice, 0)
      else if (s.coreChan i).isSome && s.canCoreFree (49 - i) then some (.out, 50 - i)
      else none
    else if s.up (pageDomain (canPage i)) && s.fld (canPage i) R.RESERVE_MAP_SERVING == 0 then s.freeCanCore.map fun k => (.out, k)
    else none
  | 3 =>
    if i == 12 then if s.linCoreFree then some (.slice, 0) else none
    else if s.up 14 && s.fld (linPage i) R.RESERVE_MAP_SERVING == 0 && s.linCoreFree then some (.out, 1)
    else none
  | 4 =>
    if i == 28 then if s.engineFree then some (.slice, 0) else none
    else if s.up (portDomain i) && s.fld (macPage i) R.RESERVE_MAP_SERVING == 0 && s.engineFree then some (.out, 1)
    else none
  | _ => none

/-- Begin the test of a unit (R427). -/
def State.beginTest (s : State) (u : Nat) (ph : TestPhase) (k : Nat) : State :=
  let i := unitIx u
  let s1 := s.newRun u ph k
  match unitClass u, ph with
  | 1, .slice => (s1.setF pgFwd R.FWD_ROLE_STAT_RESERVE 3).setF (slicePage i) R.SLICE_STAT_STATE 4
  | 2, .slice => s1.setB (corePage (i - 48)) R.CORE_STAT_TESTING true
  | 3, .slice => s1.setB pgLinCore R.CORE_STAT_TESTING true
  | 3, .out => (s1.setF pgLinCore R.CORE_STAT_CHANNEL i).start (.linHandover i) (msT 100)
  | _, _ => s1

/-- Self-test laps may run (R55, R444). -/
def State.lapMode (s : State) : Bool :=
  (s.mode.power == .full || s.mode.power == .trim) && s.mode.service != .maintain && s.mode.rest == .awake

/-- The order of a lap (R426). -/
def State.lapOrder (s : State) : List Nat :=
  let slices := ([s.reserveSlice, s.roleSlice 0, s.roleSlice 1].filter (· < 3)).map (0x100 + ·)
  let all := slices ++ [2, 3, 4].flatMap fun c => (List.range (unitCount c)).map (256 * c + ·)
  let fit := all.filter fun u => !s.scratched u
  let rising := (List.range 3).map (0x100 + ·) ++ [2, 3, 4].flatMap fun c => (List.range (unitCount c)).map (256 * c + ·)
  let inc := rising.filter fun u => !s.scratched u && (s.unitResult u).result == 3
  let unt := rising.filter fun u => !s.scratched u && (s.unitResult u).result != 3 && (s.unitResult u).untestable
  inc ++ unt ++ fit.filter fun u => !inc.contains u && !unt.contains u

/-- The lap period in counter units. -/
def State.lapPeriod (s : State) : Nat := s.fld pgSt R.ST_CFG_LAP_PERIOD * (60 * secUnit)

/-- Go on with the lap: the next unit that can be tested; those that cannot are UNTESTABLE (R428). `list` is what is left. -/
def State.nextUnit (s : State) (list : List Nat) : State :=
  match list with
  | [] =>
    let lap := s.test.op == 1
    let s1 := s.setTest fun t => { t with op := 0, todo := [], run := none }
    if lap then s1.raise pgSt 0 else s1
  | u :: t =>
    match (if s.scratched u then none else s.testStart u) with
    | some (ph, k) => (s.setTest fun x => { x with todo := t }).beginTest u ph k
    | none => (if s.scratched u then s else s.markUntestable u).nextUnit t

/-- ST_CFG has been written, `a` being the state before: the next lap is due LAP_PERIOD after the last one started (R429, log entry 80). -/
def State.lapRetimed (a s : State) : State :=
  let on (t : State) : Bool := t.flag pgSt R.ST_CFG_LAPS_EN && t.lapPeriod != 0
  if !on s then s.stop .lap
  else if on a && a.lapPeriod == s.lapPeriod then s
  else s.start .lap (s.test.lapAt + s.lapPeriod - s.time.tl)

/-- Start a lap (R429). -/
def State.startLap (s : State) : State :=
  let s1 := (s.count pgSt R.ST_LAP).setTest fun t => { t with op := 1, lapDue := false, lapAt := s.time.tl }
  let s2 := if s.flag pgSt R.ST_CFG_LAPS_EN && s.lapPeriod != 0 then s1.start .lap s.lapPeriod else s1.stop .lap
  s2.nextUnit s2.lapOrder

/-- The unit under test has its work again: the controller goes on. -/
def State.unitDone (s : State) : State :=
  let s1 := (s.setRun none).stop .tsGap
  s1.nextUnit s1.test.todo

/-- Give the work of the unit under test back at once: a test cut short, or a failure that needs the reserve (R433). -/
def State.takeBack (s : State) (r : TestRun) : State :=
  let i := unitIx r.unit
  match unitClass r.unit with
  | 1 =>
    if r.phase == .out then
      match s.fwd.copying with
      | some (_, _, b) => (s.endCopy.purgeSlice b fun _ => true).1
      | none => s
    else s.becomeReserve i
  | 2 =>
    let c := r.chan
    let s0 := if i ≥ 48 then s.setB (corePage (i - 48)) R.CORE_STAT_TESTING false else s
    if c ≥ 48 then s0
    else
      let s1 := ((s0.setChan c { s0.chan c with attached := none }).freeCore c).stop (.canHandover c)
      let s2 := if i ≥ 48 then s1.setF (corePage (i - 48)) R.CORE_STAT_CHANNEL c else s1
      if s.fld (canPage c) R.RESERVE_MAP_SERVING == r.ownCore then s2 else s2.serveBy (canPage c) r.ownCore 0
  | 3 =>
    if i == 12 then s.setB pgLinCore R.CORE_STAT_TESTING false
    else
      let s1 := (s.setF pgLinCore R.CORE_STAT_CHANNEL 0x3F).stop (.linHandover i)
      if s.fld (linPage i) R.RESERVE_MAP_SERVING == 0 then s1 else s1.serveBy (linPage i) 0 0
  | _ =>
    if i == 28 || s.fld (macPage i) R.RESERVE_MAP_SERVING == 0 then s else s.serveBy (macPage i) 0 0

/-- End the test in progress INCOMPLETE, its unit back in service (R430, R431). -/
def State.cutRun (s : State) : State :=
  match s.test.run with
  | none => s
  | some r =>
    let s1 := if r.phase == .slice || r.phase == .gap then s.recordResult r.unit 3 r.slice r.retried none else s
    ((s1.takeBack r).setRun none).stop .tsGap

/-- The soft repairs that are not in fuses, in the order in which they were found. -/
def State.unburnt (s : State) : List Repair := s.test.soft.filter fun r => !s.test.fuses.contains r

/-- Hard repair programs `n` of the soft repairs that are not in fuses, as far as there is room (R438, R439). Their records stay in the store. -/
def State.burnRepairs (s : State) (n : Nat) : State :=
  let burnt := s.unburnt.take (min n (256 - s.test.fuses.length))
  let log (e : MbEntry) : MbEntry :=
    if burnt.any fun r => r.mem == e.mem && r.addr == e.addr && r.bit == e.bit then { e with hard := true } else e
  s.setTest fun t => { t with fuses := t.fuses ++ burnt, mbLog := t.mbLog.map log }

/-- The domains PD3 to PD15 that are off, those of scratched units among them, are powered (R438); they take nothing until they are restored
(R81). -/
def State.powerAll (s : State) : State :=
  let off := (List.range 16).filter fun d => Nat.ble 3 d && !s.on d
  let s1 := s.setF 1 R.PWR_STAT_DOMAIN_ON (off.foldl (fun a d => a + 2 ^ d) (s.fld 1 R.PWR_STAT_DOMAIN_ON))
  { s1 with power := { s1.power with restoring := s1.power.restoring ++ off } }

/-- The domains of units that are still scratched are isolated again after a hard repair. -/
def State.isolateAgain (s : State) : State :=
  ((List.range 16).filter fun d => s.isolatedDomain d && s.on d).foldl State.isolate s

/-- The units of a full BIST pass (R443). -/
def State.bistUnits (s : State) : List Nat :=
  ([1, 2, 3, 4].flatMap (fun c => (List.range (unitCount c)).map (256 * c + ·)) ++ (List.range 13).map (0xA03 + ·)).filter fun u => !s.scratched u

/-- End the lap, the single test, the full BIST or the hard repair in progress (R54, R430). A BIST pass leaves its units INCOMPLETE; how many
fuse entries a hard repair had made valid by then, the step in progress among them, is a free value (log entry 141). -/
def State.cutTests (s : State) : State :=
  let s1 := s.cutRun
  let s2 := if s.test.op == 3 && s.mode.power == .full then
      (s1.burnRepairs ((Config.freeValue s1.freeIx).toNat % (s1.unburnt.length + 1))).draw
    else s1
  let s3 := if s.test.op == 2 || s.test.op == 3 then s2.bistUnits.foldl (fun t u => t.recordResult u 3 0 false none) s2 else s2
  let s4 := s3.setTest fun t => { t with op := 0, todo := [] }
  if s.test.op == 3 then s4.isolateAgain else s4

/-- The clock of islands is lost (R89, R430): that of PLL0 (`q0`), which feeds the test controller too, or of PLL1. A test slice in them is cut
short, and the lap goes on with the next unit once the controller has its clock. A full BIST or a hard repair ends. -/
def State.testsStop (s : State) (q0 q1 : Bool) : State :=
  if s.test.op == 2 || s.test.op == 3 then (if q0 || q1 then s.cutTests else s)
  else if q0 then s.cutRun
  else if q1 && s.test.run.any (fun r => unitClass r.unit == 2 || unitClass r.unit == 3) then s.cutRun.nextUnit s.cutRun.test.todo
  else s

/-- The test controller has its clock again: a lap or a test that was cut short goes on with the next unit. -/
def State.testsGoOn (s : State) : State :=
  if (s.test.op == 1 || s.test.op == 4) && s.test.run.isNone && s.clocked 0 then s.nextUnit s.test.todo else s

/-- The unit under test passed: its work comes back, or it is the reserve now (R431). -/
def State.unitPassed (s : State) (r : TestRun) : State :=
  let i := unitIx r.unit
  let back (t : State) : State := t.setRun (some { r with phase := .back, attached := false })
  match unitClass r.unit with
  | 1 => (s.becomeReserve i).unitDone
  | 2 =>
    let t := if i ≥ 48 then s.setB (corePage (i - 48)) R.CORE_STAT_TESTING false else s
    if r.chan < 48 then back t else t.unitDone
  | 3 => if i == 12 then (s.setB pgLinCore R.CORE_STAT_TESTING false).unitDone else (back s).start (.linHandover i) (msT 100)
  | _ => if i == 28 then s.unitDone else back s

/-- The unit under test failed: it is scratched and the reserve keeps its work. -/
def State.unitFailed (s : State) (r : TestRun) : State :=
  let i := unitIx r.unit
  let s1 := s.scratchUnit r.unit Code.UNIT_FAILED
  let s2 := match unitClass r.unit with
    | 1 => ((s1.purgeSlice i fun _ => true).1).setF (slicePage i) R.SLICE_STAT_STATE 5
    | 2 => if i ≥ 48 then s1.setB (corePage (i - 48)) R.CORE_STAT_TESTING false else s1
    | 3 => if i == 12 then s1.setB pgLinCore R.CORE_STAT_TESTING false else s1
    | _ => s1
  s2.unitDone

/-- A test slice ends (R430). -/
def State.sliceEnd (s : State) (x : SliceRun) : State :=
  match s.test.run with
  | none => s
  | some r =>
    if r.phase != .slice then s
    else if verdict x == 3 then
      let s1 := s.recordResult r.unit 3 r.slice r.retried (some x)
      s1.unitPassed r
    else if verdict x == 2 then
      if s.flag pgSt R.ST_CFG_RETRY_EN && !r.repeating then s.setRun (some { r with repeating := true })
      else (s.recordResult r.unit 2 r.slice r.retried (some x)).unitFailed r
    else
      let r1 := { r with repeating := false, retried := r.retried || r.repeating }
      let s0 := if r.repeating then s.count pgSt R.ST_TRANSIENT else s
      if r.slice + 1 == unitSlices r.unit then (s0.recordResult r.unit 1 r.slice r1.retried (some x)).unitPassed r1
      else
        let gap := s.fld pgSt R.ST_CFG_TS_GAP
        (s0.setRun (some { r1 with phase := .gap })).start .tsGap (msT (if gap == 0 then 1 else gap))

/-- TS_GAP has passed: the next test slice starts. -/
def State.gapEnd (s : State) : State :=
  match s.test.run with
  | some r => if r.phase == .gap then (s.setRun (some { r with phase := .slice, slice := r.slice + 1 })).stop .tsGap else s
  | none => s

/-! ### Handovers -/

/-- The unit under test's work is with the reserve: its test slices begin. -/
def State.handedOut (s : State) (r : TestRun) : State := s.setRun (some { r with phase := .slice, attached := false })

/-- The run is about unit `u` and moves its work in one direction. -/
def State.moving (s : State) (u : Nat) : Option TestRun :=
  match s.test.run with
  | some r => if r.unit == u && (r.phase == .out || r.phase == .back) then some r else none
  | none => none

/-- SLICE_SUBSTITUTION and SLICE_COPY_DONE (R209). -/
def State.sliceSubstitute (s : State) : State :=
  match s.test.run with
  | some r =>
    if unitClass r.unit == 1 && r.phase == .out && s.fwd.copying.isNone && s.reserveSlice < 3 then
      s.startCopy (if s.roleSlice 0 == unitIx r.unit then 0 else 1)
    else s
  | none => s

/-- The role moves; what the old slice has queued to learn is learned by the new one (R209; DEDUCED, log entry 195). -/
def State.sliceCopied (s : State) : State :=
  match s.fwd.copying, s.test.run with
  | some (r, a, b), some x =>
    let s0 := { s with fwd := { s.fwd with learnQ := s.fwd.learnQ.map fun (q : LearnReq) => if q.slice == a then { q with slice := b } else q } }
    let s1 := (s0.endCopy.setF pgFwd R.FWD_ROLE_STAT_RESERVE 3).moveRole r b b
    (s1.setF (slicePage a) R.SLICE_STAT_STATE 4).handedOut x
  | _, _ => s

/-- The run moves the work of CAN channel `c` in one direction. -/
def State.movingCan (s : State) (c : Nat) : Option TestRun :=
  match s.test.run with
  | some r => if unitClass r.unit == 2 && r.chan == c && (r.phase == .out || r.phase == .back) then some r else none
  | none => none

/-- Reserve core `k` (1 A, 2 B) gives up its channel. -/
def State.vacate (s : State) (k : Nat) : State := if k == 0 then s else s.setF (corePage (k - 1)) R.CORE_STAT_CHANNEL 0x3F

/-- The core that takes over channel `c` is attached in bus monitoring (R274). Where a failure has taken the reserve core meanwhile, the unit stays
untested (R428, R433), or the work stays where it is. -/
def State.canAttach (s : State) (c core : Nat) : State :=
  match s.movingCan c with
  | none => s
  | some r =>
    let k := s.chan c
    if k.attached.isSome || core != (if r.phase == .out then r.reserve else r.ownCore) then s
    else if core != 0 && !s.canCoreFree (core - 1) then (if r.phase == .out then s.markUntestable r.unit else s).unitDone
    else
      let s1 := (s.setChan c { k with attached := some core }).start (.canHandover c) (msT 10)
      if core == 0 then s1 else s1.setF (corePage (core - 1)) R.CORE_STAT_CHANNEL c

/-- A point suitable for the move: the error state moves and CANn_TX switches (R274, R275). A reserve core under test is then free for its test
slices. -/
def State.canMove (s : State) (c : Nat) : State :=
  match s.movingCan c, (s.chan c).attached with
  | some r, some core =>
    if (s.chan c).locked.isSome then s
    else
      let s1 := ((s.setChan c { s.chan c with attached := none }).stop (.canHandover c)).serveBy (canPage c) core 0
      if r.phase == .out then
        let s2 := s1.vacate r.ownCore
        (if r.ownCore == 0 then s2 else s2.setB (corePage (r.ownCore - 1)) R.CORE_STAT_TESTING true).handedOut r
      else (s1.vacate r.reserve).unitDone
  | _, _ => s

/-- No such point came within 10 ms (R274, R434). A return that finds none is asked for again (DESIGN CHOICE, log entry 60). -/
def State.canAbandon (s : State) (c : Nat) : State :=
  match s.movingCan c, (s.chan c).attached with
  | some r, some core =>
    if !s.due (.canHandover c) then s
    else
      let s1 := ((s.setChan c { s.chan c with attached := none }).stop (.canHandover c)).vacate core
      if r.phase == .out then (s1.markUntestable r.unit).unitDone else s1
  | _, _ => s

/-- The LIN reserve core takes channel `n`, or gives it back, in bus idle; after 100 ms the handover is abandoned (R276). -/
def State.linHandover (s : State) (n : Nat) : State :=
  match s.moving (0x300 + n) with
  | none => s
  | some r =>
    if (s.linChan n).slot.isNone then
      let s1 := s.stop (.linHandover n)
      if r.phase == .out then (s1.serveBy (linPage n) 1 0).handedOut r
      else ((s1.serveBy (linPage n) 0 0).setF pgLinCore R.CORE_STAT_CHANNEL 0x3F).unitDone
    else if s.due (.linHandover n) then
      if r.phase == .out then
        (((s.stop (.linHandover n)).setF pgLinCore R.CORE_STAT_CHANNEL 0x3F).markUntestable r.unit).unitDone
      else s.start (.linHandover n) (msT 100)
    else s

/-- The engine that takes over attaches to port `n` (R432). A reserve that a failure has taken meanwhile leaves the unit untested (R428, R433). -/
def State.engineAttach (s : State) (n : Nat) : State :=
  match s.moving (0x400 + n) with
  | none => s
  | some r =>
    if r.attached then s
    else if r.phase == .out && !s.engineFree then (s.markUntestable r.unit).unitDone
    else (s.serveBy (macPage n) (if r.phase == .out then 1 else 0) 0).setRun (some { r with attached := true })

/-- The old engine holds no frame and is released. -/
def State.engineRelease (s : State) : State :=
  match s.test.run with
  | some r =>
    if unitClass r.unit == 4 && r.attached && (r.phase == .out || r.phase == .back) then
      if r.phase == .out then s.handedOut r else s.unitDone
    else s
  | none => s

/-! ### Failures (R210, R275, R433, R440) -/

/-- A unit of class `cls` is under test. -/
def State.testsClass (s : State) (cls : Nat) : Bool := s.test.run.any fun r => unitClass r.unit == cls

/-- Where the only reserve of a class serves the unit under test, or is itself under test, that test ends (R433). -/
def State.freeReserve (s : State) (cls : Nat) : State := if s.testsClass cls then s.cutRun else s

/-- The controller goes on after such an end, once the reserve has its new work. `t` is the state before the test ended. -/
def State.goOn (s t : State) (cls : Nat) : State :=
  if t.testsClass cls && s.test.run.isNone then s.nextUnit s.test.todo else s

/-- Slice `i` fails (R210). -/
def State.sliceFail (s0 : State) (i cause : Nat) : State :=
  if i ≥ 3 || s0.scratched (0x100 + i) then s0
  else
    let active := s0.roleSlice 0 == i || s0.roleSlice 1 == i
    let tested := match s0.test.run with
      | some r => unitClass r.unit == 1 && (unitIx r.unit == i || r.phase == .out)
      | none => false
    let s := if tested || (active && s0.reserveSlice == 3) then s0.freeReserve 1 else s0
    let s1 := if s.reserveSlice == i then s.setF pgFwd R.FWD_ROLE_STAT_RESERVE 3 else s
    let folded := s1.fld pgFwd R.FWD_ROLE_STAT_FOLD != 0
    let s1a := { s1 with fwd := { s1.fwd with learnQ := s1.fwd.learnQ.filter fun x => x.slice != i } }
    let s2 := ((s1a.purgeSlice i fun _ => true).1).setF (slicePage i) R.SLICE_STAT_STATE 5
    let hit := [0, 1].filter fun r => s.roleSlice r == i || (folded && active && s.roleSlice r ≥ 3)
    let s3 := ([0, 1].filter fun r => s.servingSlice r == i).foldl (fun t r => t.discardLookups r) s2
    let s4 := hit.foldl (fun t r => t.setF pgFwd (State.roleFld r) 3) s3
    let s5 := hit.foldl (fun t r => t.replaceRole r) s4
    let s6 := { s5 with power := { s5.power with leanSet := s5.power.leanSet.filter (· != 5 + i) } }
    (s6.scratchUnit (0x100 + i) cause).goOn s0 1

/-- The core serving channel `c` fails (R275, R433). -/
def State.canCoreFail (s0 : State) (c cause : Nat) : State :=
  let p := canPage c
  let serving := s0.fld p R.RESERVE_MAP_SERVING
  if serving > 2 then s0
  else
    let unit := if serving == 0 then 0x200 + c else 0x230 + (serving - 1)
    let mine := match s0.test.run with
      | some r => unitClass r.unit == 2 && r.chan == c
      | none => false
    let sa := ((s0.attemptFails c).scratchUnit unit cause)
    let sb := if serving == 0 then sa else sa.setF (corePage (serving - 1)) R.CORE_STAT_CHANNEL 0x3F
    if mine && s0.test.run.any (fun r => r.ownCore != serving) then (sb.freeReserve 2).goOn sb 2
    else
      let sc := if sb.freeCanCore.isNone || mine then sb.freeReserve 2 else sb
      let sd := match sc.freeCanCore with
        | some k => (sc.setF (corePage (k - 1)) R.CORE_STAT_CHANNEL c).serveBy p k 0
        | none => (sc.serveBy p 15 0).dropHeld c Code.CAN_CHANNEL_LOST fun _ => true
      sd.goOn sb 2

/-- The core serving LIN channel `n` fails (R433, R440). -/
def State.linCoreFail (s0 : State) (n cause : Nat) : State :=
  let p := linPage n
  let serving := s0.fld p R.RESERVE_MAP_SERVING
  if serving > 1 then s0
  else
    let mine := match s0.test.run with
      | some r => r.unit == 0x300 + n
      | none => false
    let sa := s0.scratchUnit (if serving == 0 then 0x300 + n else 0x30C) cause
    if mine && serving == 1 then (sa.freeReserve 3).goOn sa 3
    else
      let sb := if serving == 0 then (if sa.linCoreFree then sa else sa.freeReserve 3) else sa
      let sc := if serving == 0 && sb.linCoreFree then (sb.setF pgLinCore R.CORE_STAT_CHANNEL n).serveBy p 1 0 else sb.serveBy p 15 0
      sc.goOn sa 3

/-- The MACsec engine serving port `n` fails (R433, R440). -/
def State.engineFail (s0 : State) (n cause : Nat) : State :=
  let p := macPage n
  let serving := s0.fld p R.RESERVE_MAP_SERVING
  if serving > 1 then s0
  else
    let mine := match s0.test.run with
      | some r => r.unit == 0x400 + n
      | none => false
    let sa := s0.scratchUnit (if serving == 0 then 0x400 + n else 0x41C) cause
    if mine && serving == 1 then (sa.freeReserve 4).goOn sa 4
    else
      let sb := if serving == 0 then (if sa.engineFree && !mine then sa else sa.freeReserve 4) else sa
      let sc := if serving == 0 && sb.engineFree then sb.serveBy p 1 0
        else { (sb.serveBy p 15 0) with eth := { sb.eth with engineLost := n :: sb.eth.engineLost } }
      sc.goOn sa 4

/-- A unit of classes 2 to 4 fails that serves nothing: its test, if it is the one under test or the one that a handover goes to, ends; a reserve
that serves the tested channel or port keeps its work. -/
def State.idleFail (s : State) (u cause : Nat) (taking : Bool) : State :=
  match s.test.run with
  | some r =>
    if r.unit == u then
      let s1 := if r.phase == .slice || r.phase == .gap then s.recordResult u 3 r.slice r.retried none else s
      let i := unitIx u
      let s2 := match unitClass u with
        | 2 =>
          let t := if i < 48 then s1 else s1.setB (corePage (i - 48)) R.CORE_STAT_TESTING false
          if r.chan < 48 then (t.setChan r.chan { t.chan r.chan with attached := none }).stop (.canHandover r.chan) else t
        | 3 => if i < 12 then s1.stop (.linHandover i) else s1.setB pgLinCore R.CORE_STAT_TESTING false
        | _ => s1
      (s2.scratchUnit u cause).unitDone
    else if taking && r.phase == .out && unitClass r.unit == unitClass u then (s.cutRun.scratchUnit u cause).goOn s (unitClass u)
    else s.scratchUnit u cause
  | none => s.scratchUnit u cause

/-- A unit of classes 1 to 4 fails. One that serves fails under the rules of its class; any other leaves the work where it is. -/
def State.unitFail (s : State) (u cause : Nat) : State :=
  let i := unitIx u
  let home (p : Nat) : Bool := s.fld p R.RESERVE_MAP_SERVING == 0
  if !testable u then s
  else match unitClass u with
  | 1 => s.sliceFail i cause
  | 2 =>
    if i < 48 then if home (canPage i) then s.canCoreFail i cause else s.idleFail u cause false
    else
      let k := i - 48
      let c := s.fld (corePage k) R.CORE_STAT_CHANNEL
      if c < 48 && s.fld (canPage c) R.RESERVE_MAP_SERVING == k + 1 then s.canCoreFail c cause else s.idleFail u cause (c < 48)
  | 3 =>
    if i < 12 then if home (linPage i) then s.linCoreFail i cause else s.idleFail u cause false
    else
      let c := s.fld pgLinCore R.CORE_STAT_CHANNEL
      if c < 12 && s.fld (linPage c) R.RESERVE_MAP_SERVING == 1 then s.linCoreFail c cause else s.idleFail u cause (c < 12)
  | _ =>
    if i < 28 then if home (macPage i) then s.engineFail i cause else s.idleFail u cause false
    else match (List.range 28).find? fun n => s.fld (macPage n) R.RESERVE_MAP_SERVING == 1 with
      | some n => s.engineFail n cause
      | none => s.idleFail u cause true

/-! ### Commands (R429, R438, R443, R444) -/

/-- The master may give test commands (R442). -/
def State.testMaster (s : State) (m : Nat) : Bool := if s.mode.life == .blank then m == 0 else m ≤ 1

/-- POWER, MAINT_PENDING and no entry to REST let a test start now (R444). -/
def State.testPower (s : State) : Bool :=
  (s.mode.power == .full || s.mode.power == .trim) && !s.mode.maintPending && s.mode.rest == .awake

/-- Start an operation whose checks have passed. -/
def State.runTest (s : State) (op unit : Nat) : State × Nat :=
  match op with
  | 1 => (s.startLap, 0)
  | 3 => match s.testStart unit with
    | some (ph, k) => ((s.setTest fun t => { t with op := 4, todo := [] }).beginTest unit ph k, 0)
    | none => (s.markUntestable unit, Code.ST_NO_RESERVE)
  | 4 => (s.setTest fun t => { t with op := 2 }, 0)
  | _ => ((s.setTest fun t => { t with op := 3 }).powerAll, 0)

/-- A write of ST_CMD by master `m`: the state, and the code of a refusal. -/
def State.stCmd (s : State) (m op unit : Nat) : State × Nat :=
  if op == 0 || op > 5 then (s, 0)
  else if !s.testMaster m then (s, Code.ST_MODE)
  else if op == 2 then (s.cutTests.setTest fun t => { t with waiting := none }, 0)
  else if s.test.op != 0 || s.test.waiting.isSome then (s, Code.ST_BUSY)
  else if op == 3 && (!testable unit || s.scratched unit) then (s, Code.ST_UNIT_BAD)
  else if op == 1 || op == 3 then
    if s.mode.service == .maintain && !s.mode.maintPending then (s, Code.ST_MODE)
    else if s.testPower then s.runTest op unit
    else (s.setTest fun t => { t with waiting := some (op, unit) }, 0)
  else if s.mode.service != .maintain then (s, Code.ST_MODE)
  else if op == 5 && s.mode.trust == .quarantine then (s, Code.REPAIR_IN_QUARANTINE)
  else if s.testPower then s.runTest op unit
  else (s.setTest fun t => { t with waiting := some (op, unit) }, 0)

/-- The mode changed: a waiting command or a lap that is due starts where the mode now lets it (R429, R444). A hard repair that QUARANTINE finds
waiting is refused then (R61; DEDUCED, log entry 188). -/
def State.testResume (s : State) : State :=
  match s.test.waiting with
  | some (op, unit) =>
    if op == 5 && s.mode.trust == .quarantine then
      (s.setTest fun t => { t with waiting := none }).captureInternal pgSt 0x044 Code.REPAIR_IN_QUARANTINE
    else if s.testPower && (s.mode.service == .maintain) == (op ≥ 4) then
      ((s.setTest fun t => { t with waiting := none }).runTest op unit).1
    else s
  | none => if s.test.lapDue && s.lapMode && s.test.op == 0 then s.startLap else s

/-- LAP_PERIOD has passed since the last lap started. -/
def State.lapComes (s : State) : State :=
  let s1 := s.stop .lap
  if !s.flag pgSt R.ST_CFG_LAPS_EN || s.lapPeriod == 0 then s1
  else if s.lapMode && s.test.op == 0 && s.test.waiting.isNone then s1.startLap
  else s1.setTest fun t => { t with lapDue := true }

/-! ### Memory failures (R435 to R437) -/

/-- Enter a memory failure in the MBIST log; in a full log it is lost. -/
def State.mbEnter (s : State) (x : MbEntry) : State :=
  if s.test.mbLog.length < 32 then s.setTest fun t => { t with mbLog := t.mbLog ++ [x] } else s.countSat pgMbist R.MB_LOST

/-- The unit that an unrepairable memory scratches where the command names none: the slice of PD5 to PD7, or else the domain (R436). -/
def memoryUnitOf (mem : Nat) : Nat :=
  let d := mem / 4096
  if 5 ≤ d && d ≤ 7 then 0x100 + (d - 5) else 0xA00 + d

/-- The unit, or else the domain, that the memory of a failure scratches. -/
def memoryHolder (f : MemFailure) : Nat := (f.holder.map (·.toNat)).getD (memoryUnitOf f.memory.toNat)

/-- The repair covers the failing bit. -/
def Repair.covers (r : Repair) (f : MemFailure) : Bool :=
  r.mem == f.memory.toNat && (if r.column then r.bit == f.bit.toNat else r.addr == f.address.toNat)

/-- The spare that repairs failure `f` of a BIST whose failures are `all`, beside the repairs `old` (R435): one of these that covers it; a column
where the bits of two words or more that failed in the memory are one; otherwise a row, 2 of each kind per memory (DESIGN CHOICE, log entry 94);
`none` where the memory has no spare left (R436). -/
def spareFor (old : List Repair) (all : List MemFailure) (f : MemFailure) : Option Repair :=
  let mine := old.eraseDups.filter fun r => r.mem == f.memory.toNat
  let same := all.filter fun e => e.memory == f.memory
  let line := same.all fun e => e.bit == f.bit
  let cols := (mine.filter (·.column)).length
  let row : Repair := { mem := f.memory.toNat, addr := f.address.toNat, bit := f.bit.toNat, column := false }
  match mine.find? fun r => r.covers f with
  | some r => some r
  | none =>
    if line && cols < 2 && same.any (fun e => e.address != f.address) then some { row with column := true }
    else if mine.length - cols < 2 then some row
    else if line && cols < 2 then some { row with column := true }
    else none

/-- The memories of which `l` takes more than 2 rows or 2 columns (R436). -/
def overSpared (l : List Repair) : List Nat :=
  let n (m : Nat) (c : Bool) : Nat := (l.eraseDups.filter fun r => r.mem == m && r.column == c).length
  (l.map (·.mem)).eraseDups.filter fun m => 2 < n m false || 2 < n m true

/-- The MBIST log shows a failure and what repairs it (R437). -/
def State.mbFailure (s : State) (f : MemFailure) (r : Option Repair) : State :=
  s.mbEnter { mem := f.memory.toNat, addr := f.address.toNat, bit := f.bit.toNat, column := r.any (·.column), repaired := r.isSome
              hard := r.any s.test.fuses.contains }

/-- A failing unit of classes 1 to 4 is replaced where it serves; other units are scratched. -/
def State.memoryUnit (s : State) (u : Nat) : State :=
  if s.scratched u then s else (s.unitFail u Code.MBIST_FAIL).scratchUnit u Code.MBIST_FAIL

/-- Failure `f` of a memory BIST that found `all`. -/
def State.memoryFails (s : State) (all : List MemFailure) (f : MemFailure) : State :=
  let r := spareFor (s.test.fuses ++ s.test.soft) all f
  let s1 := s.mbFailure f r
  match r with
  | some x => s1.keepRepair x
  | none => s1.memoryUnit (memoryHolder f)

/-- A read of MB_LOG0 pops the oldest entry (R437). -/
def State.mbPop (s : State) : State × Word :=
  match s.test.mbLog with
  | [] => (s, 0)
  | x :: t =>
    let s1 := (s.setTest fun y => { y with mbLog := t }).setF pgMbist R.MB_LOG1_ADDR x.addr
    (s1, BitVec.ofNat 32 (x.mem + x.bit * 2 ^ 16 + b2n x.column * 2 ^ 23 + b2n x.repaired * 2 ^ 24 + b2n x.hard * 2 ^ 25 + 2 ^ 31))

/-! ### Full BIST and hard repair (R438, R443) -/

/-- The verdict of a unit's runs, and whether a repeat passed. -/
def unitVerdict (retry : Bool) (l : List (SliceRun × Option SliceRun)) : Nat × Bool :=
  let one (e : SliceRun × Option SliceRun) : Nat :=
    if verdict e.1 == 2 && retry then match e.2 with
      | some r => verdict r
      | none => 2
    else verdict e.1
  let v := l.map one
  (if v.contains 2 then 2 else if v.contains 3 || v.isEmpty then 3 else 1,
    l.any fun e => verdict e.1 == 2 && one e == 1)

/-- Record the result of a unit in full BIST; a unit that fails is scratched. -/
def State.bistUnit (s : State) (x : UnitRun) : State :=
  let (v, again) := unitVerdict (s.flag pgSt R.ST_CFG_RETRY_EN) x.runs
  let u := x.unit.toNat
  let s0 := if again then s.count pgSt R.ST_TRANSIENT else s
  let s1 := s0.recordResult u v (x.runs.length - 1) again (x.runs.getLast?.map fun e => e.2.getD e.1)
  if v == 2 && !s1.scratched u then (s1.unitFail u Code.UNIT_FAILED).scratchUnit u Code.UNIT_FAILED else s1

/-- Full BIST ends. -/
def State.bistDone (s : State) (l : List UnitRun) : State :=
  (l.foldl (fun t x => if bistable x.unit.toNat then t.bistUnit x else t) s).setTest fun t => { t with op := 0 }

/-- A unit whose scratch mark is cleared serves its page again (R438). -/
def State.restoreUnit (s : State) (u : Nat) : State :=
  let i := unitIx u
  let s1 := s.markPage u false
  match unitClass u with
  | 1 => s1.setF (slicePage i) R.SLICE_STAT_STATE 0
  | 5 =>
    let s2 := if s1.fld 4 R.PLL_STAT_SUBST == i then s1.setF 4 R.PLL_STAT_SUBST 7 else s1
    let s3 := s2.setF 4 R.PLL_STAT_LOCKED ((List.range 6).foldl (fun a n => a + 2 ^ n * b2n (n == i || bit (s2.fld 4 R.PLL_STAT_LOCKED) n)) 0)
    { s3 with power := { s3.power with heldPlls := s3.power.heldPlls.filter (· != i) } }
  | 6 => ({ s1 with key := { s1.key with reserveBank := none } }).servedBy 0x1A2 0 0
  | 7 => (s1.setB 0x1A4 R.DRBG_STAT_ON_RESERVE false).servedBy 0x1A4 0 0
  | 2 => if i < 48 then (s1.freeCore i).serveBy (canPage i) 0 0 else s1
  | 3 => if i < 12 then (s1.setF pgLinCore R.CORE_STAT_CHANNEL 0x3F).serveBy (linPage i) 0 0 else s1
  | 4 => if i < 28 then { (s1.serveBy (macPage i) 0 0) with eth := { s1.eth with engineLost := s1.eth.engineLost.filter (· != i) } } else s1
  | _ => s1

/-- The slices after a hard repair: those fit take the roles, the first of the rest is the reserve (DESIGN CHOICE, log entry 61). -/
def State.resettleSlices (s : State) : State :=
  let fit := (List.range 3).filter fun i => !s.scratched (0x100 + i)
  let a := fit.getD 0 3
  let b := fit.getD 1 3
  let c := fit.getD 2 3
  let s1 := ((s.setF pgFwd R.FWD_ROLE_STAT_A_SLICE a).setF pgFwd R.FWD_ROLE_STAT_B_SLICE b).setF pgFwd R.FWD_ROLE_STAT_RESERVE c
  let s2 := s1.setF pgFwd R.FWD_ROLE_STAT_FOLD (if a < 3 && b ≥ 3 && s.flag pgFwd R.FWD_MISC_CFG_FAIL_FOLD then 1 else 0)
  let st (t : State) (i v : Nat) : State := if i < 3 then t.setF (slicePage i) R.SLICE_STAT_STATE v else t
  let s3 := st (st (st s2 a 1) b 2) c 3
  let sv (i : Nat) : Nat := if i < 3 then i else if s2.fld pgFwd R.FWD_ROLE_STAT_FOLD == 1 then a else 15
  let mark (t : State) (r i : Nat) : State := t.setB (rolePage r) R.PAGE_STAT_SCRATCHED (sv i == 15 || t.scratched (0x100 + r))
  mark (mark ((s3.serveBy (rolePage 0) (sv a) 0).serveBy (rolePage 1) (sv b) 1) 0 a) 1 b

/-- A scratched unit whose work nothing serves: no reserve is free, or the class has none (DEV_SCRATCH.UNSERVED; R466). -/
def State.unservedUnit (s : State) (u : Nat) : Bool :=
  let i := unitIx u
  let none_ (p : Nat) : Bool := s.fld p R.RESERVE_MAP_SERVING == 15
  match unitClass u with
  | 1 => none_ (rolePage 0) || none_ (rolePage 1)
  | 2 => i < 48 && none_ (canPage i)
  | 3 => i < 12 && none_ (linPage i)
  | 4 => i < 28 && none_ (macPage i)
  | 5 => i < 5 && s.fld 4 R.PLL_STAT_SUBST != i
  | 6 => i < 2 && s.key.reserveBank != some i
  | 7 => i == 0 && s.scratched 0x701
  | 10 => true
  | _ => false

/-- Hard repair ends: new failures, the fuses, the results, and the marks of units that are sound again (R438). Units that have no test slices are
judged by their memories alone. -/
def State.repairDone (s : State) (fails : List MemFailure) (l : List UnitRun) : State :=
  let s1 := fails.foldl (fun t f => t.memoryFails fails f) s
  let full := s1.test.fuses.length + s1.unburnt.length > 256
  let s2 := s1.burnRepairs s1.unburnt.length
  let s3 := l.foldl (fun t x => if bistable x.unit.toNat then t.bistUnit x else t) s2
  let all := s3.test.fuses ++ s3.test.soft
  let bad (u : Nat) : Bool := (fails.any fun f => memoryHolder f == u && (spareFor all fails f).isNone) || (overSpared all).any fun m => memoryUnitOf m == u
  let sound := s3.test.scratch.filter fun e => !bad e.1 &&
    (!bistable e.1 || l.any fun x => x.unit.toNat == e.1 && (unitVerdict (s.flag pgSt R.ST_CFG_RETRY_EN) x.runs).1 == 1)
  let s4 := s3.setTest fun t => { t with scratch := t.scratch.filter (fun e => !sound.contains e), op := 0, soft := s3.unburnt }
  let s5 := (sound.foldl (fun t e => t.restoreUnit e.1) s4).isolateAgain
  let s6 := if sound.any fun e => unitClass e.1 == 1 then s5.resettleSlices else s5
  let s7 := (s6.setF 0 R.DEV_SCRATCH_COUNT s6.test.scratch.length).setB 0 R.DEV_SCRATCH_UNSERVED
    (s6.test.scratch.any fun e => s6.unservedUnit e.1)
  let s8 := { s7 with fault := { s7.fault with unserved := s7.flag 0 R.DEV_SCRATCH_UNSERVED } }
  let list (t : State) : State := (List.range 8).foldl (fun u i =>
    u.nvQueue { pos := 1 + i, obj := .scratch ((u.test.scratch.drop (16 * i)).take 16), job := .none }) t
  let recs (t : State) : State := (List.range 33).foldl (fun u i =>
    u.nvQueue { pos := repairPos i, obj := .repairs (((u.test.soft.drop (8 * i)).take 8).map Repair.code), job := .none }) t
  let s9 := (recs (list s8)).raise pgSt 4
  if full then s9.captureInternal pgSt R.ST_STAT_STATE.off Code.REPAIR_FUSE_FULL else s9

end Sys2Proof.Machine
end

