-- ==== Sys2Proof/Machine/Contain.lean ====
section
/-! DEFINITION. The discard rule (R41, R469, R470): what is in flight in each block and what becomes of it when forwarding stops, a domain
is isolated, an island is held, or the live configuration is lost. -/

namespace Sys2Proof.Machine

/-! ### Frames -/

/-- Frames on their way to the lookup are discarded; those of transmit rings are written back with `code`. -/
def State.clearPipe (s : State) (code : Nat) : State :=
  let l := s.fwd.classQ ++ s.fwd.lookQ ++ s.fwd.acfIn.map (·.2)
  l.foldl (fun t f => t.txAdmitted f.tx code []) { s with fwd := { s.fwd with classQ := [], lookQ := [], acfIn := [] } }

/-- Frames behind flow pacers are discarded. -/
def State.clearPacers (s : State) (code : Nat) : State :=
  let l := s.fwd.pacers.flatMap (·.2)
  l.foldl (fun t p => t.txAdmitted p.tx code []) { s with fwd := { s.fwd with pacers := [] } }

/-- The copies in the lanes of the ports that satisfy `q` are discarded. -/
def State.clearLanes (s : State) (q : Nat → Bool) (code : Nat) : State :=
  let hit := (s.fwd.lanes.filter fun e => q (e.1 / 8)).flatMap fun e => e.2.q.map fun c => (e.1, c)
  let keep (e : Nat × Lane) : Nat × Lane := if q (e.1 / 8) then (e.1, { e.2 with q := [], deficit := 0 }) else e
  let s1 := { s with fwd := { s.fwd with lanes := s.fwd.lanes.map keep } }
  hit.foldl (fun t e => ((t.unhold e.2.packet).txDropped e.2.tx (e.1 / 8) code).noteLevel (e.1 / 8) (e.1 % 8)) s1

/-- The frames on the wire of those ports are ended; no frame is delivered. -/
def State.clearWires (s : State) (q : Nat → Bool) (code : Nat) : State :=
  let one (t : State) (n : Nat) (pre : Bool) (x : Option Sending) : State := match x with
    | some y => (t.clearLine n pre y).txDropped y.copy.tx n code
    | none => t
  (s.fwd.ports.filter fun e => q e.1).foldl (fun t e => one (one t e.1 true e.2.preempt) e.1 false e.2.express) s

/-- What a port's MAC holds of frames not yet whole is discarded, and its running timers end. -/
def State.clearMac (s : State) (q : Nat → Bool) : State :=
  let mine (t : Tmr) : Bool := match t with
    | .mmVerify n => q n
    | .pause n => q (n / 16)
    | .pauseRepeat n => q (n / 16)
    | .beacon n => q (24 + n)
    | _ => false
  { s with
    eth := { s.eth with asm := mkeep s.eth.asm fun n => !q n, tries := mkeep s.eth.tries fun n => !q n
                        xoff := mkeep s.eth.xoff fun n => !q n, attempts := mkeep s.eth.attempts fun n => !q n
                        plca := mkeep s.eth.plca fun i => !q (24 + i), mPackets := mkeep s.eth.mPackets fun n => !q n }
    timers := s.timers.filter fun e => !mine e.1 }

/-- Everything in flight at the ports that satisfy `q`. -/
def State.clearPorts (s : State) (q : Nat → Bool) (code : Nat) : State :=
  ((s.clearLanes q code).clearWires q code).clearMac q

/-- The head of a receive ring is a frame of the packet buffer and leaves it: its written descriptors are completed as abandoned (R469). -/
def State.clearHead (s : State) (fn r : Nat) : State :=
  let q := s.ring fn r
  if (q.queue.head?).all fun x => x.packet.isNone then s else if q.filled.isEmpty then s.rxPop fn r else s.rxGiveUp fn r

/-- The packet buffer loses what it holds: every lane, wire, pacer, and the ring copies that refer to it. -/
def State.clearBuffer (s : State) (code : Nat) : State :=
  let s0 := s.rings.foldl (fun t e => t.clearHead (e.1 / 32) (e.1 % 32)) s
  let s1 := ((s0.clearPorts (fun _ => true) code).clearPacers code)
  let clean (e : Nat × Ring) : Nat × Ring := (e.1, { e.2 with queue := e.2.queue.filter fun x => x.packet.isNone })
  { s1 with fwd := { s1.fwd with packets := [] }, rings := s1.rings.map clean }

/-! ### PDUs -/

/-- PDUs in the relay engine and copies not handed off are discarded. -/
def State.clearRelay (s : State) (code : Nat) : State :=
  let l := (s.relay.coming ++ s.relay.inq).map (·.tx)
  let isAcf (t : Tmr) : Bool := match t with
    | .acf _ => true
    | _ => false
  let s1 := ({ s with relay := { s.relay with coming := [], waiting := [], builders := [] }
                      timers := s.timers.filter fun e => !isAcf e.1 }).setInq []
  l.foldl (fun t r => t.txAdmitted r code []) s1

/-- The frame on the bus of a CAN channel is discarded; a locked frame stays buffered (R275). -/
def State.clearCanBus (s : State) (c : Nat) : State :=
  let k := s.chan c
  match k.locked with
  | some b => (s.setChan c { k with locked := none, sof := none, delay := none }).setB (canPage c) (R.TXB_CTRL_LOCKED b) false
  | none => s

/-- The response under way on a LIN channel is discarded. -/
def State.clearLinBus (s : State) (n : Nat) : State := (s.setLin n { s.linChan n with slot := none }).stop (.linResponse n)

/-! ### Forwarding stops (R50 to R52) -/

/-- The transition to HALT: frames in the pipeline, behind pacers and in lanes are dropped with NOT_RUNNING, and learn requests are discarded (R213); the frame on a wire is
finished within the 10 µs of R50 (DEDUCED, log entry 62). -/
def State.stopForwarding (s : State) : State :=
  let n := s.fwd.classQ.length + s.fwd.lookQ.length + (s.fwd.pacers.map fun e => e.2.length).sum + (s.fwd.lanes.map fun e => e.2.q.length).sum
  let s1 := (((s.clearPipe Code.NOT_RUNNING).clearPacers Code.NOT_RUNNING).clearLanes (fun _ => true) Code.NOT_RUNNING).clearRelay Code.NOT_RUNNING
  (List.range n).foldl (fun t _ => t.drop Code.NOT_RUNNING) { s1 with fwd := { s1.fwd with learnQ := [] } }

/-! ### Domains (R45, R47, R81, R92) -/

/-- A slice loses its power: its learned entries, its lookups. -/
def State.sliceOff (s : State) (i : Nat) : State :=
  let s1 := (s.purgeSlice i fun _ => true).1
  let s2 := if s1.reserveSlice == i then s1.setF pgFwd R.FWD_ROLE_STAT_RESERVE 3 else s1
  let s3 := { s2 with fwd := { s2.fwd with learnQ := s2.fwd.learnQ.filter (fun r => r.slice != i)
                                           strays := mkeep s2.fwd.strays fun e => e / 2 ^ 40 != i } }
  if s3.fld (slicePage i) R.SLICE_STAT_STATE == 5 then s3 else s3.setF (slicePage i) R.SLICE_STAT_STATE 0

/-- The Ethernet side of a domain loss: classifier and buffer (PD8), ports (PD9 to PD11), pacers (PD10). -/
def State.loseEth (s : State) (q : Nat → Bool) (code : Nat) : State :=
  let port (n : Nat) : Bool := q (portDomain n)
  let s1 := if q 8 then
      let t := (s.clearPipe code).clearBuffer code
      { t with fwd := { t.fwd with matched := [], dropped := [], blocked := [], gates := [], gateDrops := [], meters := [], yellow := [], red := [] } }
    else s
  let s2 := if q 10 then
      let t := s1.clearPacers code
      { t with fwd := { t.fwd with pacerLv := [], pacerDrops := [] } }
    else s1
  let s3 := s2.clearPorts port code
  let s4 := { s3 with fwd := { s3.fwd with lanes := mkeep s3.fwd.lanes fun k => !port (k / 8), ports := mkeep s3.fwd.ports fun n => !port n } }
  let s5 := ((List.range 28).filter port).foldl (fun t n => t.stopList n) s4
  (List.range 4).foldl (fun t k => match t.slavePort k with
    | some n => if port n then t.toHoldover k else t
    | none => t) s5

/-- The bus side: CAN (PD12, PD13), LIN (PD14), relay engine (PD12), authentication (PD15). With PD13 a channel of PD12 that a reserve core serves
stops (R276). -/
def State.loseBus (s : State) (q : Nat → Bool) (code : Nat) : State :=
  let s1 := (List.range 48).foldl (fun t c =>
    if q (pageDomain (canPage c)) then (t.canReset c).setChan c CanChan.empty
    else if q 13 && [1, 2].contains (t.fld (canPage c) R.RESERVE_MAP_SERVING) then (t.attemptFails c).integrate c
    else t) s
  let s2 := (List.range 12).foldl (fun t n => if q 14 then (t.linReset n).setLin n LinChan.empty else t) s1
  let s3 := if q 12 then
      let t := s2.clearRelay code
      { t with relay := { t.relay with images := [], monitors := [], seqs := [], frames := [] } }
    else s2
  if q 15 then ({ s3 with relay := { s3.relay with waiting := [] } }).fvcRestart false else s3

/-- The running state of page `p` is in the domains that satisfy `q`; that of the common forwarding pages is lost with the last slice. -/
def State.runsIn (s : State) (q : Nat → Bool) (p : Nat) : Bool :=
  if 0x080 ≤ p && p ≤ 0x08F then [5, 6, 7].any q && [5, 6, 7].all fun d => q d || !s.on d
  else match s.reachedBy p with
    | some d => q d && Nat.ble 5 d
    | none => false

/-- The domains that satisfy `q` lose their running state; their in-flight work is discarded (R41, R92). -/
def State.loseDomains (s : State) (q : Nat → Bool) (code : Nat) : State :=
  let s1 := (List.range 3).foldl (fun t i => if q (5 + i) && s.on (5 + i) then t.sliceOff i else t) s
  let s2 := (s1.loseEth q code).loseBus q code
  s2.loseRunning (s.runsIn q)

/-- The domains that satisfy `q` and are on are isolated (R45). -/
def State.discardDomains (s : State) (q : Nat → Bool) : State := s.loseDomains (fun d => d ≥ 5 && s.on d && q d) Code.SHED_DOMAIN

/-! ### Folds (R170, R171) -/

/-- The lean set keeps the slice of role `r`. -/
def State.roleKept (s : State) (r : Nat) : Bool := s.roleSlice r < 3 && s.power.leanSet.contains (5 + s.roleSlice r)

/-- At LEAN entry, from FULL or TRIM or out of a boot, the slice of the kept role takes the sources of a shed role where LEAN_FOLD = 1 (R170). -/
def State.foldForLean (s : State) : State :=
  if !s.flag pgFwd R.FWD_MISC_CFG_LEAN_FOLD || s.fld pgFwd R.FWD_ROLE_STAT_FOLD != 0 then s
  else if s.roleKept 0 && !s.roleKept 1 then s.setFold 1
  else if s.roleKept 1 && !s.roleKept 0 then s.setFold 2
  else s

/-- The slices whose domains a list names are powered and being loaded (R211). -/
def State.slicesLoad (s : State) (ds : List Nat) : State :=
  ((List.range 3).filter fun i => ds.contains (5 + i) && s.fld (slicePage i) R.SLICE_STAT_STATE != 5).foldl
    (fun t i => t.setF (slicePage i) R.SLICE_STAT_STATE 6) s

/-- A slice is powered and loaded again: it takes its role, ending a fold, or is the reserve. -/
def State.sliceOn (s : State) (i : Nat) : State :=
  if s.scratched (0x100 + i) then s
  else if s.roleSlice 0 == i || s.roleSlice 1 == i then
    let r := if s.roleSlice 0 == i then 0 else 1
    let s1 := s.setF (slicePage i) R.SLICE_STAT_STATE (1 + r)
    if s.fld pgFwd R.FWD_ROLE_STAT_FOLD == (if r == 1 then 1 else 2) then
      let s2 := s1.setFold 0
      (s2.purgeSlice (s2.roleSlice (1 - r)) fun e => s2.roleOf s2.heat.liveE (l2Port e) == r).1
    else s1
  else
    let s1 := s.setF (slicePage i) R.SLICE_STAT_STATE 3
    if s.reserveSlice == 3 then s1.setF pgFwd R.FWD_ROLE_STAT_RESERVE i else s1

/-! ### Islands held (R89 to R91) -/

/-- The islands fed by the PLLs that satisfy `q` are held; their in-flight work is discarded: PLL0 feeds the Ethernet path and the
relay engine, PLL1 the buses, PLL3 and PLL4 the SerDes lanes (R87). -/
def State.discardIslands (s : State) (q : Nat → Bool) (code : Nat) : State :=
  let s1 := if q 0 then
      let t := ((((s.clearPipe code).clearPacers code).clearPorts (fun _ => true) code).clearBuffer code).clearRelay code
      { t with fwd := { t.fwd with learnQ := [] } }
    else s
  let s2 := if q 1 then
      let t := (List.range 48).foldl (fun t c => t.clearCanBus c) s1
      (List.range 12).foldl (fun t n => t.clearLinBus n) t
    else s1
  s2.clearPorts (fun n => n < 24 && q (if n < 8 then 3 else 4)) code

/-! ### The live configuration (R49, R52) -/

/-- Every staged copy is lost: the open heat, the heat under check, the armed heats. -/
def State.loseStaged (s : State) : State := { s with heat := { s.heat with opn := Changes.empty, checking := none, armed := [] } }

/-- The live configuration of the islands is lost: staged fields at their reset values, tables empty, HEAT_LIVE 0, armed heats
discarded, running state reset, pistols at their inactive level; servos that gPTP or CAN steered enter holdover. -/
def State.loseLive (s : State) : State :=
  let s1 := s.stopPistols
  let s2 := (s1.loseEth (fun d => d ≥ 8) Code.NOT_RUNNING).loseBus (fun d => d ≥ 8) Code.NOT_RUNNING
  let s3 := s2.resetFields (fun _ => true) (· == .rws)
  let kept (e : Nat × Slot) : Bool := e.2.rsv &&
    s3.heat.opn.tbls.any fun r => r.newSlots.any fun x => slotKey x.1 x.2 == e.1
  let s4 := { s3 with slots := s3.slots.filter kept
                      heat := { s3.heat with checking := none, armed := [], live := 0, settling := none, old := [], bounds := []
                                             latest := [], states := [] }
                      key := { s3.key with heatDigest := 0 }
                      fwd := { s3.fwd with learnQ := [], learned := [], copying := none, strays := [] } }
  (List.range 4).foldl (fun t k => if [1, 4].contains (t.fld (pgDom k) R.DOM_CFG_SRC) then t.toHoldover k else t) s4

/-- A full BIST, a hard repair or a test slice is in progress (R50). -/
def State.repairBusy (s : State) : Bool := s.test.op == 2 || s.test.op == 3

/-- From a REST request on the T1S ports transmit nothing; a coordinator, which sends no BEACON any more, is not active (R158, R454). -/
def State.silenceT1s (s : State) : State :=
  (List.range 4).foldl (fun t i =>
    let u := t.clearWires (· == 24 + i) Code.SHED_DOMAIN
    if u.fld (t1sPage i) R.T1S_PLCA_CFG_NODE_ID == 0 then u.setPlca i false else u) s

end Sys2Proof.Machine
end

