-- ==== Sys2Proof/Machine/Modes.lean ====
section
/-! DEFINITION. The mode arbiter of chapter 02: the mode report, the three axes and their transitions, the QUARANTINE record and
what a REST or MAINTAIN entry loses. -/

namespace Sys2Proof.Machine

def Power.num : Power → Nat
  | .full => 0
  | .trim => 1
  | .lean => 2
  | .rest => 3

def Service.num : Service → Nat
  | .halt => 0
  | .run => 1
  | .diagnose => 2
  | .maintain => 3

def Trust.num : Trust → Nat
  | .unmeasured => 0
  | .opn => 1
  | .sealed => 2
  | .quarantine => 3
  | .retrn => 4

/-- The debug port (R56, R61). -/
inductive Jtag where
  | closed
  | opn
  | unpowered
  deriving DecidableEq, Repr

/-- DEV_MODE as the state gives it (R34). -/
def State.modeWord (s : State) : Word :=
  BitVec.ofNat 32 (s.mode.power.num + s.mode.service.num * 2 ^ 4 + s.mode.trust.num * 2 ^ 8
    + b2n s.mode.maintPending * 2 ^ 12 + b2n s.mode.diagPending * 2 ^ 13 + b2n s.mode.trimDroop * 2 ^ 14
    + b2n s.mode.trimThermal * 2 ^ 15 + s.fld 0 R.DEV_MODE_REQ_TRIM_REQ * 2 ^ 16
    + s.mode.life.num % 4 * 2 ^ 17 + b2n s.mode.tamper * 2 ^ 20 + s.mode.quarCause * 2 ^ 24)

/-- The DEV_MODE fields whose change R37 reports: [16:0] and [31:24]. -/
def reportedMode : Word := 0xFF01FFFF

/-- Report a change of mode between `a` and `b` with its trigger (R37, R391). -/
def reportMode (trigger : Nat) (a b : State) : State :=
  if a.modeWord &&& reportedMode = b.modeWord &&& reportedMode then b
  else
    (b.raise 0 0).record
      { type := 1, page := 0, tl := 0, tsInvalid := false, code := 0, arg0 := trigger, arg1 := a.modeWord.toNat
        arg2 := b.modeWord.toNat, payload := timeTriple b.time.t0 ++ [BitVec.ofNat 32 (b2n (b.domainValid 0))] }

/-- Change the mode state and report what changed. -/
def State.modeTo (s : State) (trigger : Nat) (f : ModeState → ModeState) : State :=
  reportMode trigger s { s with mode := f s.mode }

/-! ### The power axis -/

/-- A TRIM cause is present (R42). -/
def State.trimCause (s : State) : Bool :=
  s.mode.trimDroop || s.mode.trimThermal || s.flag 0 R.DEV_MODE_REQ_TRIM_REQ

/-- A hold time in its unit; the value 0 acts as 1. -/
def atLeast1 (n : Nat) : Nat := if n == 0 then 1 else n

/-- Settle the power axis after the TRIM causes changed: FULL to TRIM at once (R42); with no cause left, TRIM_HOLD starts; in
LEAN only the flags change (R44). -/
def State.evalTrim (s : State) : State :=
  match s.mode.power with
  | .full => if s.trimCause then { s with mode := { s.mode with power := .trim } } else s
  | .trim =>
    if s.trimCause then s.stop .trimHold
    else if s.running .trimHold then s
    else s.start .trimHold (usT (100 * atLeast1 (s.fld 0 R.DEV_MODE_CFG_TRIM_HOLD)))
  | _ => s

/-- The power state on leaving LEAN or REST with PG_MAIN high (R43). -/
def State.fullOrTrim (s : State) : Power := if s.trimCause then .trim else .full

/-- The LEAN maximum of a domain in mW (R80). -/
def leanMax (pd : Nat) : Nat :=
  match pd with
  | 0 => 5
  | 1 => 60
  | 2 => 40
  | 3 => 450
  | 4 => 700
  | 5 => 350
  | 6 => 350
  | 7 => 350
  | 8 => 550
  | 9 => 700
  | 10 => 420
  | 11 => 90
  | 12 => 180
  | 13 => 170
  | 14 => 25
  | 15 => 350
  | _ => 0

/-- The domains PD8 to PD15 that a PWR_LEAN_CFG value keeps. -/
def pdSetOf (v : Word) : List Nat := ((List.range 8).filter fun i => v.getLsbD (19 + i)).map (· + 8)

/-- The lean set at this instant (R45, R76): PD0 to PD4, the domains of the slices that hold the kept roles, and PD_SET. -/
def State.leanSetNow (s : State) : List Nat :=
  let v := s.rd 1 R.PWR_LEAN_CFG_BUDGET.off
  let role (keep : Bool) (sl : Nat) : List Nat := if keep && sl < 3 then [5 + sl] else []
  let a := role (v.getLsbD 16) (s.fld 0x080 R.FWD_ROLE_STAT_A_SLICE)
  let b := role (v.getLsbD 17) (s.fld 0x080 R.FWD_ROLE_STAT_B_SLICE)
  [0, 1, 2, 3, 4] ++ a ++ b ++ pdSetOf v

/-- The sum of LEAN maxima that a PWR_LEAN_CFG value would keep, 350 mW for each role bit (R78). -/
def leanCost (v : Word) : Nat :=
  (([0, 1, 2, 3, 4] ++ pdSetOf v).map leanMax).sum + 350 * b2n (v.getLsbD 16) + 350 * b2n (v.getLsbD 17)

/-- Set the DOMAIN_ON bits of the domains that satisfy `q`; clear the others of PD3 to PD15. -/
def State.setDomains (s : State) (q : Nat → Bool) : State :=
  s.setF 1 R.PWR_STAT_DOMAIN_ON ((List.range 16).foldl (fun a d => if q d then a + 2 ^ d else a) 0)

/-- Place domain `d` in the first group that has room under 2,000 mW (R82). -/
def placeGroup (gs : List (List Nat)) (d : Nat) : List (List Nat) :=
  match gs with
  | [] => [[d]]
  | g :: t => if (g.map leanMax).sum + leanMax d ≤ 2000 then (g ++ [d]) :: t else g :: placeGroup t d

/-- Insert into a list in falling order of LEAN maximum, the lower number first among equals. -/
def insertByCost (l : List Nat) (d : Nat) : List Nat :=
  match l with
  | [] => [d]
  | e :: t => if leanMax e < leanMax d || (leanMax e == leanMax d && d < e) then d :: e :: t else e :: insertByCost t d

/-- The groups in which domains are switched on (R82). -/
def startGroups (ds : List Nat) : List (List Nat) := (ds.foldl insertByCost []).foldl placeGroup []

/-- Switch on the next group: its domains become powered and wait for their restore (R81); the next group starts 20 µs later. -/
def State.startGroup (s : State) : State :=
  match s.power.groups with
  | [] => s.stop .group
  | g :: t =>
    let s1 := (s.setDomains fun d => s.on d || g.contains d).slicesLoad g
    let s2 := { s1 with power := { s1.power with groups := t, restoring := s1.power.restoring ++ g } }
    if t.isEmpty then s2.stop .group else s2.start .group (usT 20)

/-- Switch on the domains of a list that are off, in groups. -/
def State.switchOn (s : State) (ds : List Nat) : State :=
  let off := ds.filter fun d => !s.on d
  ({ s with power := { s.power with groups := startGroups off } }).startGroup

/-- The level of the diagnostic activation line: an input with EN = 1 and ROLE = ACTIVATION whose LEVEL is 1 (R447, R451). -/
def State.activation (s : State) : Bool :=
  (List.range 16).any fun n =>
    s.flag 0x1D1 (R.WK_CFG_EN n) && s.fld 0x1D1 (R.WK_CFG_ROLE n) == 1 && s.flag 0x1D1 (R.WK_STAT_LEVEL n)

/-- DIAG_PENDING as R451 gives it for the present service state. -/
def State.evalDiag (s : State) : State :=
  let d := match s.mode.service with
    | .halt => s.activation
    | .maintain => s.activation
    | _ => false
  { s with mode := { s.mode with diagPending := d } }

/-- Set the service state. -/
def State.serviceTo (s : State) (v : Service) : State := ({ s with mode := { s.mode with service := v } }).evalDiag

/-- Leave MAINTAIN to HALT (R50, R54); a full BIST or a repair that still waits for its mode does not run. -/
def State.leaveMaintain (s : State) : State :=
  let waits := s.test.waiting.filter fun w => Nat.blt w.1 4
  ({ s with mode := { s.mode with maintPending := false, leaving := false }, test := { s.test with waiting := waits } }).serviceTo .halt

/-- A LEAVE_MAINTAIN that waited for the test or repair step in progress acts when the step has ended (R50). -/
def State.leaveWaiting (s : State) : State := if s.mode.leaving then s.leaveMaintain else s

/-- The same, reported (R37). -/
def State.thenLeave (s : State) : State := reportMode 3 s s.leaveWaiting

/-- Enter LEAN (R42, R45, R54, R55): isolate every domain outside the lean set, discard its work; the groups still to be switched on keep
their domains of the lean set (R82); a MAINTAIN in progress becomes pending, unless LEAVE_MAINTAIN waited for the step that ends. -/
def State.enterLean (s : State) : State :=
  let set := s.leanSetNow
  let s1 := (s.stop .trimHold).cutTests.leaveWaiting.lcCut
  let s2 := s1.discardDomains fun d => !set.contains d
  let s3 := s2.setDomains fun d => s.on d && set.contains d
  let groups := (s3.power.groups.map fun g => g.filter set.contains).filter fun g => !g.isEmpty
  let s4 := { s3 with power := { s3.power with leanSet := set, groups := groups, restoring := s3.power.restoring.filter set.contains } }
  let m := s4.mode
  reportMode 4 s ({ s4.foldForLean with mode := { m with
    power := .lean, maintPending := m.maintPending || m.service == .maintain } })

/-- Leave LEAN (R42, R43, R54): the shed domains are switched on again and wait for their restore. -/
def State.leaveLean (s : State) : State :=
  let s1 := { s with mode := { s.mode with power := s.fullOrTrim, maintPending := false } }
  reportMode 4 s (s1.switchOn (List.range 16 |>.filter fun d => !s1.isolatedDomain d))

/-! ### The service axis -/

/-- Enter MAINTAIN, pending where POWER is LEAN or REST (R52, R54). The live configuration is lost, HEAT_LIVE becomes 0 and
every armed heat is discarded; the open heat stays; what DMA has in flight is discarded (R398). The lanes go to electrical idle and the links fall (R166). -/
def State.enterMaintain (s : State) : State :=
  let pend := s.mode.power == .lean || s.mode.power == .rest
  let s1 := (List.range 28).foldl (fun t n => t.restartLane n) (s.cutTests.dmaDiscard Code.NOT_RUNNING).stopForwarding.loseLive
  let s2 := (List.range 4).foldl (fun t i => t.setPlca i false) s1
  ({ s2 with mode := { s2.mode with maintPending := s2.mode.maintPending || pend } }).serviceTo .maintain

/-- The service axis at the moment a heat goes live (R50): HALT becomes RUN, or DIAGNOSE where DIAG_PENDING is 1. -/
def State.serviceAtHeat (s : State) : State :=
  match s.mode.service with
  | .halt => s.serviceTo (if s.mode.diagPending then .diagnose else .run)
  | _ => s

/-! ### The trust axis -/

/-- Write a QUARANTINE record into the journaled store (R57). -/
def State.writeQuarRecord (s : State) (cause : Nat) (reported : Bool) : State :=
  ({ s with mode := { s.mode with quarRecord := some { cause := cause, reported := reported } } }).nvQueue
    { pos := 0, obj := .quarantine { cause := cause, reported := reported }, job := .none }

/-- The FAULT record of entering QUARANTINE, for a tamper event or for a mismatch (R475). -/
def State.quarFault (s : State) (tamper : Bool) : State :=
  s.faultRecord 0 R.DEV_MODE_TRUST.off (if tamper then Code.TAMPER else Code.MEASURE_MISMATCH)

/-- Enter QUARANTINE at run time (R57), with the FAULT record of R475. -/
def State.enterQuarantine (s : State) (cause trigger : Nat) : State :=
  let s1 := s.writeQuarRecord cause true
  (reportMode trigger s { s1 with mode := { s1.mode with trust := .quarantine, quarCause := cause } }).quarFault (cause == 3)

/-- The debug port as the mode tables show it (R56, R61). -/
def State.jtag (s : State) : Jtag := if s.mode.power == .rest then .unpowered else if s.mode.jtagOpen then .opn else .closed

/-- A scan chain of island unit `u` (its unit code, of page domain `d`) is open to an IEEE 1149.1 or 1687 access: while the debug port is open, and the
unit is under test or SERVICE is MAINTAIN. KEY (PD2), PD0 and PD1 have no chain that an access reaches (R400, R442). -/
def State.scanOpen (s : State) (u d : Nat) : Bool :=
  s.jtag == .opn && 3 ≤ d && (s.mode.service == .maintain || s.test.run.any fun r => r.unit == u && (r.phase == .slice || r.phase == .gap))

/-- What such an access reads of the bits `l` of a chain: zeros where it is not open. It changes the bits of an open chain alone. -/
def State.scanReads (s : State) (u d : Nat) (l : List Bool) : List Bool := if s.scanOpen u d then l else l.map fun _ => false
def State.scanKeeps (s : State) (u d : Nat) (l shifted : List Bool) : List Bool := if s.scanOpen u d then shifted else l

/-- The trust axis and the debug port at the end of a boot (R56, R57), from the life-cycle state, the boot measurement and the record. A
record that a mismatching boot finds keeps its mark: QUAR_CAUSE reports the mismatch and not the record. -/
def State.setTrust (s : State) (ok : Bool) : State :=
  let m := { s.mode with measuresMatch := ok, jtagOpen := false }
  match m.life with
  | .blank => { s with mode := { m with trust := .opn, quarCause := 0 } }
  | .dev => { s with mode := { m with trust := .opn, quarCause := 0, jtagOpen := true } }
  | .rma => { s with mode := { m with trust := .retrn, quarCause := 0, jtagOpen := true } }
  | .fin => s
  | .prod =>
    if ok then
      match m.quarRecord with
      | none => { s with mode := { m with trust := .sealed, quarCause := 0 } }
      | some r => { s with mode := { m with trust := .quarantine, quarCause := if r.reported then 4 else r.cause
                                            quarRecord := some { r with reported := true } } }
    else { s with mode := { m with trust := .quarantine, quarCause := 1
                                   quarRecord := some (m.quarRecord.getD { cause := 1, reported := true }) } }

/-! ### Requests through DEV_MODE_REQ -/

/-- What a request of the arbiter does: a state, and the code it refuses with (0 where it takes the request). -/
abbrev Asked := State × Nat

/-- SERVICE_REQ = HALT (R50, R497). -/
def State.askHalt (s : State) : Asked :=
  match s.mode.service with
  | .run => (reportMode 3 s (s.stopForwarding.serviceTo .halt), 0)
  | .diagnose => (reportMode 3 s ((s.stopForwarding.stop .diagExit).serviceTo .halt), 0)
  | _ => (s, 0)

/-- SERVICE_REQ = MAINTAIN (R50, R53, R54, R497). -/
def State.askMaintain (s : State) : Asked :=
  match s.mode.service with
  | .diagnose => (s, Code.MAINTAIN_FORBIDDEN)
  | .maintain => (s, 0)
  | _ => (reportMode 3 s s.enterMaintain, 0)

/-- SERVICE_REQ = LEAVE_MAINTAIN (R50, R54, R497): at once where nothing is in progress, otherwise after the step. -/
def State.askLeave (s : State) : Asked :=
  match s.mode.service with
  | .maintain =>
    if s.mode.maintPending || !s.repairBusy then (reportMode 3 s s.leaveMaintain, 0)
    else ({ s with mode := { s.mode with leaving := true } }, 0)
  | _ => (s, 0)

/-- QUAR_CLEAR from M1 (R58). -/
def State.askQuarClear (s : State) : Asked :=
  if s.mode.trust == .quarantine && s.mode.measuresMatch && !s.mode.tamper then
    ((s.modeTo 10 fun m => { m with trust := .sealed, quarCause := 0, quarRecord := none }).nvQueue { pos := 0, obj := .gone, job := .none }, 0)
  else (s, Code.QUAR_CLEAR_REFUSED)

/-- A source can wake the device (R457). -/
def State.canWake (s : State) : Bool :=
  (List.range 16).any (fun n => s.flag 0x1D1 (R.WK_CFG_EN n) && s.fld 0x1D1 (R.WK_CFG_ROLE n) != 3)
  || (List.range 48).any (fun c => s.fld 0x1D2 (R.PN_CFG_MODE c) != 0)
  || (List.range 4).any (fun i => s.flag 0x1D3 (R.T1S_WAKE_CFG_WAKE_EN i))

/-- The wake sources are armed from here on: WAKE_PEND, the filter error counters and MATCHED are cleared (R453, R456, R458). -/
def State.wakeArm (s : State) : State :=
  let t := (List.range 48).foldl (fun t c => (t.setF 0x1D2 (R.PN_STAT_FEC c) 0).setF 0x1D2 (R.PN_STAT_MATCHED c) 0) (s.setF 0x1D0 R.WAKE_PEND 0)
  { t with mode := { t.mode with wakeSeen := false } }

/-- REST_REQ (R53, R457, R458): refused, or taken: the wake sources are armed, ingress closes, the PHY sleep slots are written. -/
def State.askRest (s : State) : Asked :=
  if s.mode.rest != .awake then (s, 0)
  else if s.mode.service == .diagnose then (s, Code.REST_IN_DIAGNOSE)
  else if !s.canWake then (s, Code.REST_NO_WAKE)
  else
    let s3 := (List.range 8).foldl (fun t k =>
      if t.flag 0x1D3 (R.PHY_SLP_ADDR_EN k) then
        let pair := t.fld 0x1D3 (R.PHY_SLP_ADDR_PAIR k)
        let phy := t.fld 0x1D3 (R.PHY_SLP_ADDR_PHYAD k)
        let dev := t.fld 0x1D3 (R.PHY_SLP_ADDR_DEVAD k)
        let c45 := t.flag 0x1D3 (R.PHY_SLP_ADDR_C45 k)
        let t1 := if c45 then t.emit (.mdio pair 0 true phy dev (t.fld 0x1D3 (R.PHY_SLP_ADDR_REGAD k))) else t
        t1.emit (.mdio pair 1 c45 phy dev (t.fld 0x1D3 (R.PHY_SLP_VAL k)))
      else t) s.wakeArm
    ({ s3.silenceT1s.journalFreshness with mode := { s3.mode with rest := .requested } }, 0)

/-- The commit of a REST entry (R49, R458): POWER becomes REST, SERVICE HALT, or MAINTAIN pending; the live heat, every armed
heat and all staged data are lost. -/
def State.commitRest (s : State) (trigger : Nat) : State :=
  let s1 := (s.cutTests.leaveWaiting.lcCut.stopForwarding.loseLive.loseStaged).setB 0 R.DEV_MODE_REQ_REST_REQ false
  let m := s1.mode
  let maint := m.service == .maintain
  let m1 := { m with power := .rest, service := if maint then .maintain else .halt
                     maintPending := m.maintPending || maint, leaving := false, rest := .committed }
  let s2 := ({ s1 with mode := m1 }).evalDiag
  reportMode trigger s ((s2.stop .trimHold).start .restOff (usT 40))

/-- A forced entry to REST: the commit without PHY slots and journal records, armed from the trigger on (R42, R456, R458). -/
def State.forceRest (s : State) : State :=
  let s1 := if s.mode.rest == .requested then s else s.wakeArm
  s1.commitRest 4

end Sys2Proof.Machine
end

