-- ==== Sys2Proof/Machine/Attest.lean ====
section
/-! DEFINITION. Attestation (R413 to R415), the random bit generator (R417), life-cycle transitions and the rollback counter (R418 to R421),
and what the key commands report (R405). -/

namespace Sys2Proof.Machine

/-! ### KEY_CMD -/

/-- A write of KEY_CMD with what KEY_STAT shows of a refused command (R405). -/
def State.keyCommand (s : State) (m : Nat) (v : Word) : State × Nat :=
  let (t, code) := s.keyCmd m v
  if code == 0 || code == Code.KEY_BUSY then (t, code)
  else ((t.setF pgKeyCtrl R.KEY_STAT_DONE 1).setF pgKeyCtrl R.KEY_STAT_CODE code, code)

/-! ### Attestation -/

/-- A word of DEV_FW_VER, DEV_PART. -/
def State.devWord (s : State) (off : Nat) : Nat := (s.rd 0 off).toNat

/-- The nonce bytes. -/
def State.nonceBytes (s : State) : List Byte :=
  ((List.range 16).flatMap fun k => beBytes (s.rd pgAttest (R.ATT_NONCE k).off).toNat 4).take (s.fld pgAttest R.ATT_CFG_NONCE_LEN)

/-- The payload of a statement made now (R413). -/
def State.attestation (s : State) : List Byte :=
  let dom := s.fld pgAttest R.ATT_CFG_TIME_DOMAIN
  attPayload s.key.uid.toNat (s.devWord R.DEV_PART_PART.off) s.key.bodyHash.toNat s.key.runHash.toNat (s.fld 0 R.DEV_FW_VER_SECVER)
    (s.devWord R.DEV_FW_VER_SECVER.off) s.heat.live.toNat s.key.heatDigest.toNat s.mode.life.num s.mode.trust.num s.mode.quarCause
    s.nonceBytes dom (s.clock dom) (s.domainValid dom) s.modeWord.toNat

/-- The refusal of GO; 0 where it is taken (R404, R415). -/
def State.attRefusal (s : State) : Nat :=
  if s.flag pgAttest R.ATT_STAT_BUSY then Code.ATTEST_BUSY
  else if s.mode.life == .blank || s.mode.life == .rma then Code.KEY_LIFECYCLE
  else if !s.up 15 then Code.SHED_DOMAIN
  else if s.drbgDown then Code.DRBG_FAIL
  else s.keyCheck 1 8 [5]

/-- A write of ATT_CMD (R415). -/
def State.attGo (s : State) (v : Word) : State × Nat :=
  if !v.getLsbD 0 then (s, 0)
  else
    let code := s.attRefusal
    if code == Code.ATTEST_BUSY then (s, code)
    else if code != 0 then
      let s1 := if code == s.keyCheck 1 8 [5] && code != Code.KEY_LIFECYCLE then s.useRefused else s
      ((s1.setF pgAttest R.ATT_STAT_DONE 1).setF pgAttest R.ATT_STAT_CODE code, code)
    else
      let s1 := { s with key := { s.key with attPayload := some s.attestation } }
      (((s1.setF pgAttest R.ATT_STAT_BUSY 1).setF pgAttest R.ATT_STAT_DONE 0).setF pgAttest R.ATT_STAT_CODE 0, 0)

/-- The attestation under way ends with a code. -/
def State.attEnd (s : State) (code : Nat) : State :=
  let s1 := { s with key := { s.key with attPayload := none } }
  (((s1.setF pgAttest R.ATT_STAT_BUSY 0).setF pgAttest R.ATT_STAT_DONE 1).setF pgAttest R.ATT_STAT_CODE code).raise pgAttest 0 |>.disown pgAttest

/-- The attestation under way ends without effect (R469). -/
def State.attVoid (s : State) : State :=
  if s.key.attPayload.isNone then s
  else (({ s with key := { s.key with attPayload := none } }).setF pgAttest R.ATT_STAT_BUSY 0).disown pgAttest

/-- The statement under way is signed (R413, R415). Where the generator has failed meanwhile, or PD15 is off, it ends with the code. -/
def State.attDone (s : State) : State :=
  match s.key.attPayload with
  | none => s
  | some payload =>
    if !s.up 15 then s.attEnd Code.SHED_DOMAIN
    else if s.drbgDown then s.attEnd Code.DRBG_FAIL
    else
      let sig := Config.sign384 s.key.aliasKey (attToSign payload) s.random
      let st := attStatement s.key.uid.toNat payload (beBytes sig.toNat 96)
      let s1 := s.drbgTake false
      let s2 := { s1 with key := { s1.key with statement := st } }
      (s2.setF pgAttest R.ATT_STAT_LEN st.length).attEnd 0

/-! ### The random bit generator (R417) -/

/-- A read of DRBG_OUT: the next 32 random bits, or 0 (R417). -/
def State.drbgRead (s : State) : State × Word :=
  if s.drbgDown then (s, 0)
  else (s.drbgTake (s.flag pgDrbg R.DRBG_CFG_PR), BitVec.ofNat 32 s.random.toNat)

/-- A health test fails (R417). -/
def State.drbgFail (s : State) : State :=
  if s.drbgDown then s
  else
    let s1 := (s.setB pgDrbg R.DRBG_STAT_FAIL true).countSat pgDrbg R.DRBG_FAILS
    ((s1.captureInternal pgDrbg R.DRBG_STAT_FAIL.off Code.DRBG_FAIL).start .drbg secUnit)

/-- The generator runs again. -/
def State.drbgUp (s : State) : State :=
  let s1 := (s.setB pgDrbg R.DRBG_STAT_FAIL false).setB pgDrbg R.DRBG_STAT_READY true
  ({ s1 with key := { s1.key with restarts := 0, requests := 0 } }).stop .drbg

/-- The noise source in use is scratched; the reserve takes over where it is fit. -/
def State.noiseScratched (s : State) : State :=
  if s.flag pgDrbg R.DRBG_STAT_ON_RESERVE then
    (s.scratchUnit 0x0701 Code.DRBG_FAIL).serveBy pgDrbg 0xF 0
  else if s.scratched 0x701 then (s.scratchUnit 0x0700 Code.DRBG_FAIL).serveBy pgDrbg 0xF 0
  else
    ((s.scratchUnit 0x0700 Code.DRBG_FAIL).setB pgDrbg R.DRBG_STAT_ON_RESERVE true).serveBy pgDrbg 1 0

/-- The noise source restarts 1 s after a failure; the third failed restart in a row scratches it (R417). -/
def State.drbgRestart (s : State) (ok : Bool) : State :=
  if !s.due .drbg then s
  else if ok then s.drbgUp
  else
    let s1 := (s.countSat pgDrbg R.DRBG_FAILS).captureInternal pgDrbg R.DRBG_STAT_FAIL.off Code.DRBG_FAIL
    if s.key.restarts + 1 < 3 then
      ({ s1 with key := { s1.key with restarts := s.key.restarts + 1 } }).start .drbg secUnit
    else if s.flag pgDrbg R.DRBG_STAT_ON_RESERVE || s.scratched 0x701 then s1.noiseScratched.stop .drbg
    else s1.noiseScratched.drbgUp

/-! ### Life cycle (R418 to R421) -/

/-- The conditions on the mode for a fuse command. -/
def State.fuseMode (s : State) : Bool := s.mode.service == .maintain && !s.mode.maintPending && s.mode.power == .full

/-- Factory firmware runs. -/
def State.factory (s : State) : Bool := match s.boot.image with
  | some f => f.factory
  | none => false

/-- The master may write a fuse command: M1, or M0 with factory firmware. -/
def State.fuseMaster (s : State) (m : Nat) : Bool := m == 1 || (m == 0 && s.factory)

/-- The bytes of LC_TOKEN. -/
def State.tokenBytes (s : State) : List Byte := (List.range 28).flatMap fun k => beBytes (s.rd pgLife (R.LC_TOKEN k).off).toNat 4

/-- The return token serves this boot of this device and verifies (R419). -/
def State.tokenGood (s : State) : Bool :=
  let t := s.tokenBytes
  t.take 16 == beBytes s.key.uid.toNat 8 ++ beBytes s.key.nonce.toNat 8 && Config.tokenOk (t.take 16) (t.drop 16)

/-- The transition from the present state to `target` (1 DEV, 2 PROD, 3 RMA, 4 END) is allowed to master `m` (R418); whether it needs a
token. -/
def State.lcAllowed (s : State) (m target : Nat) : Bool :=
  match s.mode.life, target with
  | .blank, 1 => m == 0 && s.factory && Config.otpReady
  | .dev, 2 => m == 1
  | .prod, 3 => m == 1
  | .dev, 4 => m == 1
  | .prod, 4 => m == 1
  | .rma, 4 => m == 1
  | _, _ => false

/-- The refusal of a request; 0 where it is accepted. While a transition is under way (BUSY) every other is refused (DESIGN CHOICE, log 206). -/
def State.lcRefusal (s : State) (m : Nat) (v : Word) : Nat :=
  let target := getBits v 2 0
  if s.mode.service == .diagnose then Code.MAINTAIN_FORBIDDEN
  else if !s.fuseMode || !s.fuseMaster m || getBits v 31 16 != 0x1C5A || !s.lcAllowed m target || s.key.lcRun.isSome then Code.LC_REFUSED
  else if target == 3 && !s.tokenGood then Code.LC_TOKEN_BAD
  else 0

/-- Wipe what a transition wipes: every slot; the whole store, or its keys, ceilings and QUARANTINE record. Writes of the wiped records that
wait are over, with the commands that wait for them (DEDUCED, log entry 177). -/
def State.lcWipe (s : State) (whole : Bool) : State :=
  let empty (e : Nat × KeySlot) : Nat × KeySlot := (e.1, KeySlot.empty e.2.nextGen)
  let kept (k : Nat) : Bool := !whole && (let p := k % 256; (1 ≤ p && p ≤ 15) || (102 ≤ p && p ≤ 127))
  let t : State := { s with
    key := { s.key with
      slots := s.key.slots.map empty, nvm := mkeep s.key.nvm kept, writes := s.key.writes.filter fun w => kept w.pos
      buf0 := LoadBuf.empty, buf1 := LoadBuf.empty }
    mode := { s.mode with quarRecord := none } }
  (s.key.writes.filter fun w => !kept w.pos).foldl (fun u w => match w.job with
    | .port => u.portDone 0
    | .cmd => u.keyCmdDone 0
    | _ => u) t

/-- A write of LC_REQ by master `m` (R418 to R420): what the table names is wiped, then the fuses of the target's row are blown, which takes up to
60 ms with BUSY = 1; the new state takes effect at the next power-on reset. -/
def State.lcRequest (s : State) (m : Nat) (v : Word) : State × Nat :=
  let target := getBits v 2 0
  let code := s.lcRefusal m v
  let s0 := s.setF pgLife R.LC_STAT_CODE code
  if code != 0 then (s0, code)
  else
    let wipes := s.mode.life != .blank
    let s1 := if wipes then (s0.lcWipe (target != 2)).setB pgLife R.LC_STAT_WIPED true else s0
    let pending := max s.key.lcPending target
    let run := (target, (Config.fuseTime s.time.tl).toNat % (usT 60000 + 1))
    (({ s1 with key := { s1.key with lcPending := pending, lcRun := some run } }).setF pgLife R.LC_STAT_PENDING pending, 0)

/-- A write of LC_ROLLBACK_CMD by master `m` (R421). -/
def State.rollbackAdvance (s : State) (m : Nat) (v : Word) : State × Nat :=
  let sv := s.fld 0 R.DEV_FW_VER_SECVER
  if !v.getLsbD 0 then (s, 0)
  else if s.mode.service == .diagnose then (s, Code.MAINTAIN_FORBIDDEN)
  else if !s.fuseMode || !s.fuseMaster m || sv ≤ s.key.rollback || sv > 64 || s.mode.life != .prod then (s, Code.LC_REFUSED)
  else (({ s with key := { s.key with rollback := sv } }).setF pgLife R.LC_ROLLBACK sv, 0)

/-! ### The nonvolatile store's reserve bank (R410, R440) -/

/-- A program-verify failure: the failing bank is scratched and the reserve serves it, where it is free. -/
def State.nvFail (s : State) : State :=
  if s.key.writes.isEmpty then s
  else
    let t := s.nvVerifyFail
    match s.key.reserveBank, t.key.reserveBank with
    | none, some b => (t.scratchUnit (0x0600 + b) Code.NVM_FAIL).serveBy pgNvm (b + 1) 0
    | _, _ => t

/-! ### SA entries (R405, R416) -/

/-- The code with which a WRITE_DIRECT of an SA entry is refused; 0 where it is taken. `normal`: the master is M2, M3 or M4. -/
def State.saRefusal (s : State) (d : Entry) (normal : Bool) : Nat :=
  let k := s.keySlot (eBits d 71 64)
  if !eBit d 72 then 0
  else if k.usage != 1 then Code.KEY_USAGE
  else if normal && !k.world then Code.KEY_WORLD
  else 0

end Sys2Proof.Machine
end

