-- ==== Sys2Proof/Machine/HeatTbl.lean ====
section
/-! DEFINITION. The table records of heats: reservation of slots at staging (R183), loading (R122, R132, R184), settling (R133),
removal (R134), and the configuration that a heat would make live. -/

namespace Sys2Proof.Machine

/-- The role page whose counters slice `i` uses now. -/
def State.pageOfSlice (s : State) (i : Nat) : Option Nat :=
  ((List.range 2).find? fun r => s.servingSlice r == i).map rolePage

/-- Reserve a slot for key `k` in one array of table `p` (R180, R183); an evicted learned entry is counted. -/
def State.reserveIn (s : State) (p tid : Nat) (e : Entry) : Option (State × Nat) :=
  match s.insertion p tid { v := false, e := false, b := false, rsv := true, data := e } true with
  | none => none
  | some pl =>
    let s1 := (s.applyWrites tid pl.writes).setSlot tid pl.own { Slot.empty with rsv := true }
    let page := if p == pgL2 then s.pageOfSlice (tid - 0x200) else none
    some (match page, pl.evicts with
      | some q, true => s1.count q R.LEARN_EVICT
      | _, _ => s1, pl.own)

/-- Reserve a slot for a staged entry in every array that holds the table; none where that of a powered slice has no room, and then no
array keeps a reservation. -/
def State.reserveAll (s : State) (p : Nat) (e : Entry) : Option (State × List (Nat × Nat)) :=
  (s.arraysOf p).foldl (fun a tid => match a with
    | none => none
    | some (t, l) => match t.reserveIn p tid e with
      | none => if tid ≥ 0x200 && !s.on (5 + (tid - 0x200)) then a else none
      | some (u, i) => some (u, l ++ [(tid, i)])) (some (s, []))

/-- Free a list of slots. -/
def State.freeSlots (s : State) (l : List (Nat × Nat)) : State := l.foldl (fun t x => t.setSlot x.1 x.2 Slot.empty) s

/-- Mark a list of slots. -/
def State.markSlots (s : State) (l : List (Nat × Nat)) (f : Slot → Slot) : State :=
  l.foldl (fun t x => t.setSlot x.1 x.2 (f (t.slot x.1 x.2))) s

/-- Take the reservation away from the records of key `k` of page `p` in a list; what it was. -/
def takeReservation (l : List TblRec) (p k : Nat) : List TblRec × List (Nat × Nat) :=
  (l.map fun r => if r.page == p && r.key == k then { r with newSlots := [] } else r,
    (l.filter fun r => r.page == p && r.key == k).flatMap (·.newSlots))

/-- Add a record to the open heat (R118). A change of a table reached by key reserves its slots, or keeps those that an earlier record of
the same key in the open heat holds; a deletion gives them back. `none` where there is no slot. -/
def State.addRecord (s : State) (r : TblRec) : Option State :=
  let (old, held) := takeReservation s.heat.opn.tbls r.page r.key
  let put (t : State) (x : TblRec) (l : List TblRec) : State :=
    { t with heat := { t.heat with opn := { t.heat.opn with tbls := l ++ [x] } } }
  if !keyed r.page then some (put s r s.heat.opn.tbls)
  else if r.del then some (put (s.freeSlots held) r old)
  else if held != [] then some (put s { r with newSlots := held } old)
  else match s.reserveAll r.page r.data with
    | some (t, l) => some (put t { r with newSlots := l } s.heat.opn.tbls)
    | none => none

/-- The keys of the static L2 entries in the staged view. -/
def State.staticKeys (s : State) : List Nat :=
  let live := (s.slots.filter fun e => e.1 / 2 ^ 24 == 0x200 + s.staticSlice && e.2.matches s.heat.liveE && l2Static e.2.data).map
    fun e => keyOf pgL2 e.2.data
  let staged := (s.stagedChanges.flatMap (·.tbls)).filterMap fun r => if r.page == pgL2 then some r.key else none
  ((live ++ staged).eraseDups).filter fun k => (s.stagedEntry pgL2 k).isSome

/-- Remove the reservations of an open heat that is emptied (R183). -/
def State.releaseOpen (s : State) (c : Changes) : State := c.tbls.foldl (fun t r => t.freeSlots r.newSlots) s

/-! ### Loading and settling -/


/-- The slots that hold the live entry that a record replaces or deletes. -/
def State.liveSlots (s : State) (r : TblRec) : List (Nat × Nat) :=
  if keyed r.page then
    (s.arraysOf r.page).filterMap fun tid => (s.findKey r.page (tid - 0x200) r.key s.heat.liveE).map fun i => (tid, i)
  else ((s.pairSlot r.page r.idx s.heat.liveE).map fun i => (r.page, i)).toList

/-- The slots into which a record's entry is loaded. -/
def State.freePair (s : State) (r : TblRec) : List (Nat × Nat) :=
  if r.del then []
  else if keyed r.page then r.newSlots
  else match s.pairSlot r.page r.idx s.heat.liveE with
    | some i => [(r.page, if i % 2 == 0 then i + 1 else i - 1)]
    | none => [(r.page, 2 * r.idx)]

/-- Load one record (R132). -/
def State.loadRecord (s : State) (r : TblRec) : State × TblRec :=
  let old := s.liveSlots r
  let new_ := s.freePair r
  let s1 := s.markSlots old fun t => { t with b := false, e := s.heat.liveE }
  let s2 := s1.markSlots new_ fun _ => { v := true, e := !s.heat.liveE, b := false, rsv := false, data := r.data }
  (s2, { r with oldSlots := old, newSlots := new_ })

/-- The record is the last of its entry in a list. -/
def lastOf (l : List TblRec) (r : TblRec) : Bool :=
  ((l.filter fun x => x.page == r.page && x.key == r.key).getLast?).any (· == r)

/-- Load a heat's table records: of several about one entry, the last (R122). The others stay in the list for the digest (R414). -/
def State.loadTables (s : State) (c : Changes) : State × Changes :=
  let step (a : State × List TblRec) (r : TblRec) : State × List TblRec :=
    if !lastOf c.tbls r then (a.1, a.2 ++ [{ r with newSlots := [] }])
    else if a.1.pageUnserved r.page then (a.1.freeSlots r.newSlots, a.2 ++ [{ r with newSlots := [] }])
    else
      let (t, x) := a.1.loadRecord r
      (t, a.2 ++ [x])
  let (s1, l) := c.tbls.foldl step (s, [])
  (s1, { c with tbls := l })

/-- Settle a heat's table records (R133): a new entry is then in both epochs, and an old one has lost V and nothing else. -/
def State.settleTables (s : State) (c : Changes) : State :=
  c.tbls.foldl (fun t r => (t.markSlots r.newSlots fun x => { x with b := true }).markSlots r.oldSlots fun x => { x with v := false }) s

/-- Remove a heat's loaded changes and, where it is not restored to the open heat, its reservations. -/
def State.unloadTables (s : State) (c : Changes) (loaded : Bool) : State :=
  c.tbls.foldl (fun t r =>
    let t1 := t.freeSlots r.newSlots
    if loaded then t1.markSlots r.oldSlots fun x => { x with b := true } else t1) s

/-- A refused heat's changes as they go back into the open heat: loaded slots are emptied, and reserved again for the tables reached by
key (R123). -/
def State.restoreTables (s : State) (c : Changes) (loaded : Bool) : State × Changes :=
  if !loaded then (s, c)
  else
    let s1 := s.unloadTables c true
    let back (r : TblRec) : TblRec := { r with newSlots := if keyed r.page then r.newSlots else [], oldSlots := [] }
    let l := c.tbls.map back
    (l.foldl (fun t r => t.markSlots r.newSlots fun _ => { Slot.empty with rsv := true }) s1, { c with tbls := l })

/-! ### Registers at the swap -/

/-- The value of a register after the swap: its staged fields from the record, the others as they stand. -/
def State.swapped (s : State) (a : Nat) (v : Word) : Word :=
  let m := accMask (· == .rws) (a / 4096) (a % 4096)
  (s.rd (a / 4096) (a % 4096) &&& ~~~ m) ||| (v &&& m)

/-- The registers after the swap of a heat (R127). -/
def State.swapRegs (s : State) (c : Changes) : State :=
  c.regs.foldl (fun t e => if t.pageUnserved (e.1 / 4096) then t else t.wr (e.1 / 4096) (e.1 % 4096) (t.swapped e.1 e.2)) s

/-- Swap a loaded heat in: registers, and the live epoch (R127, R132). -/
def State.swapConfig (s : State) (c : Changes) : State :=
  let s1 := s.swapRegs c
  { s1 with heat := { s1.heat with liveE := !s1.heat.liveE } }

/-- The configuration after a heat has been loaded, swapped and settled. -/
def State.wouldBe (s : State) (c : Changes) (loaded : Bool) : State :=
  let (s1, c1) := if loaded then (s, c) else s.loadTables c
  (s1.swapConfig c1).settleTables c1

/-- The configuration that results once the live heat has settled and every armed heat has gone live (R347). -/
def State.afterArmed (s : State) : State :=
  let s0 := match s.heat.settling with
    | some (c, _) => s.settleTables c
    | none => s
  s0.heat.armed.foldl (fun t h => t.wouldBe h.chg h.loaded) s0

end Sys2Proof.Machine
end

