-- ==== Sys2Proof/Machine/Checks.lean ====
section
/-! DEFINITION. What the heat manager refuses at commit beyond R121's own conditions: device times (R5), port settings (R135, R152),
CAN timing (R247), LIN schedules (R277), relay tables (R290, R295, R299), pistols (R334), time-triggered schedules (R340). Each check
reads the configuration that the heat would make live, given as a state. -/

namespace Sys2Proof.Machine

/-- The entries of an indexed table that are valid in the live epoch, by rising index. -/
def State.liveEntries (s : State) (tid : Nat) : List (Nat × Entry) :=
  s.slots.filterMap fun e =>
    if e.1 / 2 ^ 24 == tid && e.2.matches s.heat.liveE then some (e.1 % 2 ^ 24 / 2, e.2.data) else none

/-- The valid entries of a table reached by key, by rising slot (for the L2 table, the static ones, which every slice holds, whatever is powered:
R348). -/
def State.keyedEntries (s : State) (p : Nat) : List (Nat × Entry) :=
  s.slots.filterMap fun e =>
    if e.1 / 2 ^ 24 == keyedArray p s.staticSlice && e.2.matches s.heat.liveE && isStatic p e.2.data then
      some (e.1 % 2 ^ 24, e.2.data)
    else none

/-! ### Device times (R5, R121) -/

/-- A nanoseconds field above 999,999,999 would become live. -/
def State.badTime (c : State) : Bool :=
  ((List.range 28).any fun n => (c.rd (lanePage n) R.HL_BASE_NS.off).toNat > 999999999)
    || (c.liveEntries pgGate).any (fun e => eBits e.2 127 96 > 999999999)
    || ((List.range 16).any fun p => c.pstNs p / 4 > 999999999)
    || (c.liveEntries pgTt).any (fun e => e.1 ≥ 1024 && eBits e.2 125 96 > 999999999)

/-- An enabled pistol breaks R334. Times are in quarter-nanoseconds. -/
def State.pistolBad (c : State) (p : Nat) : Bool :=
  let n := c.pstPeriod p / 4 % 2 ^ 16
  let perSecond := n == 0 || c.pstNs p * n ≥ secQ || (c.pstWidth p + 10) * n > secQ
  c.pstEn p && (c.pstMode p == 3 || c.pstDomain p > 4 || c.pstWidth p < 8
    || (c.pstMode p == 1 && c.pstPeriod p < c.pstWidth p + 8) || (c.pstMode p == 2 && perSecond))

/-- An enabled time-triggered schedule breaks R340. -/
def State.scheduleBad (c : State) (ch : Nat) : Bool :=
  match c.ttSchedule ch with
  | none => false
  | some e =>
    let len := ttLength e
    let entryBad (j : Nat) : Bool :=
      let x := c.ttEntryAt ch j
      ttWindow x < 1000 || ttOffset x + ttWindow x > ttCycle e || ttTxb x > 2 || !c.hostOwned ch (ttTxb x)
    ttCycle e < 10000 || ttCycle e > 1000000000 || ttDomain e > 4 || len == 0 || len > 16 || (List.range len).any entryBad

/-! ### Ports (R135, R152, and the settings of chapter 05 refused at commit) -/

/-- A SPEED and MODE pair of R135. With MODE OFF, for which the table has no row, any of the speeds 0 to 5 may stand (DESIGN CHOICE, log entry
198). -/
def pairOk (n speed mode : Nat) : Bool :=
  if n ≥ 24 then speed == 5
  else if mode == 0 then speed < 6
  else if mode == 1 then speed < 2
  else if n ≥ 8 then false
  else if mode == 5 then speed < 5
  else (mode == 2 && speed == 2) || (mode == 3 && speed == 3) || (mode == 4 && speed == 4)

def State.portBad (c : State) (n : Nat) : Bool :=
  let m := macPage n
  let pause := c.flag m R.FC_CFG_PAUSE_RX || c.flag m R.FC_CFG_PAUSE_TX
  let pfc := c.flag m R.FC_CFG_PFC_RX || c.flag m R.FC_CFG_PFC_TX
  !pairOk n (c.speed n) (c.laneMode n)
    || (n < 24 && c.laneMode n == 0 && c.portEnabled n)
    || (n ≥ 24 && (c.flag m R.MM_CFG_EN || pause || pfc)) || (pause && pfc)
    || c.fld m R.MACSEC_CTRL_CONF_OFFSET == 3 || c.fld m R.MACSEC_CTRL_VALIDATE == 3

/-! ### CAN timing (R247) -/

/-- BRP, TSEG1, TSEG2 and SJW of a timing register, as quanta and clocks. -/
structure BitTiming where
  brp : Nat
  t1 : Nat
  t2 : Nat
  sjw : Nat

def BitTiming.quanta (b : BitTiming) : Nat := 1 + b.t1 + b.t2
def BitTiming.clocks (b : BitTiming) : Nat := b.brp * b.quanta

def State.nominal (c : State) (ch : Nat) : BitTiming :=
  let p := canPage ch
  ⟨c.fld p R.CAN_NBT_BRP + 1, c.fld p R.CAN_NBT_TSEG1 + 1, c.fld p R.CAN_NBT_TSEG2 + 1, c.fld p R.CAN_NBT_SJW + 1⟩
def State.fdTiming (c : State) (ch : Nat) : BitTiming :=
  let p := canPage ch
  ⟨c.fld p R.CAN_DBT_BRP + 1, c.fld p R.CAN_DBT_TSEG1 + 1, c.fld p R.CAN_DBT_TSEG2 + 1, c.fld p R.CAN_DBT_SJW + 1⟩
def State.xlTiming (c : State) (ch : Nat) : BitTiming :=
  let p := canPage ch
  ⟨c.fld p R.CAN_XBT_BRP + 1, c.fld p R.CAN_XBT_TSEG1 + 1, c.fld p R.CAN_XBT_TSEG2 + 1, c.fld p R.CAN_XBT_SJW + 1⟩

/-- SJW of a phase is greater than TSEG1 or TSEG2 (R247). -/
def BitTiming.jumps (b : BitTiming) : Bool := b.sjw > b.t1 || b.sjw > b.t2

/-- A data phase in use breaks R247: `least` is the fewest clocks that a bit may last. -/
def phaseBad (n d : BitTiming) (least : Nat) (tdc : Bool) : Bool :=
  d.clocks < least || d.clocks > n.clocks || d.brp != n.brp || (d.clocks < 80 && !tdc)

def State.canBadTiming (c : State) (ch : Nat) : Bool :=
  let p := canPage ch
  let n := c.nominal ch
  let tdc := c.flag p R.CAN_TDC_TDC_EN
  let fd := c.canCtl ch R.CAN_CTRL_FD_EN
  let xl := c.canCtl ch R.CAN_CTRL_XL_EN
  let pwms := c.fld p R.CAN_XL_CFG_PWMS
  let pwml := c.fld p R.CAN_XL_CFG_PWML
  c.flag p R.PAGE_CTRL_ENABLE &&
    (n.clocks < 160 || n.quanta < 8 || n.jumps || [c.fdTiming ch, c.xlTiming ch].any (fun d => d.quanta < 5 || d.jumps)
      || (fd && phaseBad n (c.fdTiming ch) 20 tdc) || (xl && phaseBad n (c.xlTiming ch) 8 tdc)
      || (c.canCtl ch R.CAN_CTRL_TMS && (c.canCtl ch R.CAN_CTRL_XL_ERRS || pwms + pwml != (c.xlTiming ch).clocks))
      || c.fld p R.CAN_CTRL_TS_DOMAIN > 4 || (xl && (pwms == 0 || pwml == 0)))

/-! ### LIN schedules (R277) -/

/-- The bits of the maximum frame time of a frame of `n` data bytes. -/
def linFrameBits (n : Nat) : Nat := ceilDiv (14 * (34 + 10 * (n + 1))) 10

/-- An entry of the schedule table breaks R277. -/
def State.linEntryBad (c : State) (n : Nat) (e : Entry) : Bool :=
  let len (id : Nat) : Nat := c.linLen n id
  let longest := if lsType e == 1 || lsType e == 2 then ((lsAssoc e).map len).foldl max 0 else if lsType e == 0 then len (lsId e) else 8
  lfDir (c.linFrame n (lsId e)) == 0 || lsDelay e * 100 * c.fld (linPage n) R.LIN_CFG_BAUD < linFrameBits longest * 1000000

/-- The LIN channel's configuration is refused: R277, and BAUD outside its range. -/
def State.linBad (c : State) (n : Nat) : Bool :=
  let p := linPage n
  let baud := c.fld p R.LIN_CFG_BAUD
  let named (k : Nat) : Bool := c.fld p R.LIN_SCHED_REQ_SCHED == k
  let schedBad (k : Nat) : Bool := c.linFirst n k + c.linLength n k > 128 || (c.linLength n k == 0 && named k)
  baud < 1000 || baud > 20000
    || (c.flag p R.PAGE_CTRL_ENABLE && c.linCommander n && ((List.range 4).any schedBad
      || (c.liveEntries p).any fun e => e.1 ≥ 256 && c.linEntryBad n e.2))

/-! ### Relay tables (R290, R295, R299) -/

/-- Bit positions that an instruction writes. -/
def spWrites (e : Entry) : List Nat :=
  match spOp e with
  | 2 => fieldPositions (eBit e 39) (eBits e 31 18) (eBits e 37 32 + 1)
  | 3 => fieldPositions (eBit e 24) (eBits e 17 4) (eBits e 23 18 % 32 + 1)
  | 4 => if eBit e 36 then [] else [eBits e 31 18]
  | _ => []

/-- The program at `prog` meets R295; a monitor's default program holds CONST only and writes below bit 512 too (R299). -/
def State.programOk (c : State) (prog : Nat) (constOnly : Bool) : Bool :=
  let h := c.spInstr c.heat.liveE prog
  let n := spCount h
  let lim := if constOnly then min 512 (spOutLen h * 8) else spOutLen h * 8
  let ok (k : Nat) : Bool :=
    let e := c.spInstr c.heat.liveE (prog + 1 + k)
    let op := spOp e
    let skipOk := op != 4 || k + 1 + max 1 (eBits e 34 32) ≤ n
    (if constOnly then op == 3 else op == 2 || op == 3 || op == 4) && (spWrites e).all (· < lim) && skipOk
  spOp h == 1 && prog + n < 16384 && (List.range n).all ok

/-- A route (R290). -/
def State.routeBad (c : State) (e : Entry) : Bool :=
  rtFirst e + (rtCount e - 1) > 32767 || (rtVerify e && (c.profile c.heat.liveE (rtProf e)).isNone)

/-- A destination record (R290). -/
def State.recordBad (c : State) (d : Entry) : Bool :=
  let kind := drKind d
  let receives := match c.pairGet pgAcf (drPort d) c.heat.liveE with
    | some a => acRx a
    | none => false
  (kind == 0 && drPort d > 47) || (kind == 1 && drPort d > 11) || (kind == 2 && receives)
    || (kind == 1 && lfDir (c.linFrame (drPort d) (drNewId d % 64)) != 1)
    || (drSplEn d && !c.programOk (drProg d) false)
    || (drImgEn d && drSplEn d && spOutLen (c.spInstr c.heat.liveE (drProg d)) > 64)
    || (drImgEn d && kind > 1) || (drGen d && (c.profile c.heat.liveE (drGprof d)).isNone)

/-- A monitor (R299). -/
def State.monitorBad (c : State) (e : Entry) : Bool :=
  let sends := match c.pairGet pgDrec (tmDrec e) c.heat.liveE with
    | some d => drImgEn d && drImg d == tmImage e && drSend d && drKind d < 2
    | none => false
  eBit e 16 && (eBits e 15 0 == 0 || !c.programOk (tmProg e) true || (tmAction e == 2 && !sends))

def State.relayBad (c : State) : Bool :=
  (c.keyedEntries pgExact).any (fun e => c.routeBad e.2) || (c.liveEntries 0x152).any (fun e => c.routeBad e.2)
    || (c.liveEntries pgDrec).any (fun e => c.recordBad e.2) || (c.liveEntries pgTmon).any (fun e => c.monitorBad e.2)

/-- What the heat manager refuses in the configuration that a commit would make live, after the conditions of R121 (the order among these
checks and the codes of settings refused without one are log entry 63); 0 for nothing. -/
def State.configRefusal (c : State) : Nat :=
  if c.badTime || (List.range 16).any c.pistolBad || (List.range 48).any c.scheduleBad
    || (List.range 28).any (fun n => c.hlDomain n > 4) then Code.HEAT_TIME_BAD
  else if (List.range 28).any c.portBad then Code.HEAT_PORT_MODE
  else if (List.range 48).any c.canBadTiming then Code.HEAT_CAN_TIMING
  else if (List.range 12).any c.linBad then Code.HEAT_LIN_SCHED
  else if c.relayBad then Code.HEAT_RELAY_BAD
  else 0

end Sys2Proof.Machine
end

