-- ==== Sys2Proof/Machine/Referee.lean ====
section
/-! DEFINITION. The referee (chapter 11): the verdict on a heat (R347 to R350), its arithmetic (R351 to R364) and the contract states
(R365). Every function reads the configuration from the state `c` it is given: for a verdict, the one that the heat would make live. Times
are in picoseconds, `none` is INF; data is in bits; rates are in kb/s. -/

namespace Sys2Proof.Machine

def pgRef : Nat := 0x011
def pgContract : Nat := 0x012

/-! ### Contracts (R345) -/

def ctKind (e : Entry) : Nat := eBits e 2 0
def ctEn (e : Entry) : Bool := eBit e 3
def ctTrim (e : Entry) : Bool := eBit e 4
def ctSrc (e : Entry) : Nat := eBits e 11 5
def ctDst (e : Entry) : Nat := eBits e 17 12
def ctLane (e : Entry) : Nat := eBits e 20 18
def ctStream (e : Entry) : Nat := eBits e 26 21
def ctFpEn (e : Entry) : Bool := eBit e 27
def ctDeadline (e : Entry) : Nat := eBits e 63 32
def ctLmax (e : Entry) : Nat := eBits e 77 64
def ctSigma (e : Entry) : Nat := eBits e 119 96
def ctId (e : Entry) : Nat := eBits e 124 96
def ctRho (e : Entry) : Nat := eBits e 151 128
def ctPeriod (e : Entry) : Nat := eBits e 151 128
def ctJitter (e : Entry) : Nat := eBits e 183 160
def ctFpacer (e : Entry) : Nat := eBits e 201 192
def ctLen (e : Entry) : Nat := eBits e 202 192
def ctFmt (e : Entry) : Nat := eBits e 204 203
def ctIde (e : Entry) : Bool := eBit e 205
def ctBrs (e : Entry) : Bool := eBit e 206
def ctBus (e : Entry) : Nat := eBits e 211 207

/-- The kinds of a contract. -/
def kETH : Nat := 0
def kCAN : Nat := 1
def kC2E : Nat := 2
def kE2C : Nat := 3
def kLIN : Nat := 4
def kFOREIGN : Nat := 5

/-- The enabled contracts, from contract 0 upward. -/
def State.contracts (c : State) : List (Nat × Entry) := (c.liveEntries pgContract).filter fun e => ctEn e.2

/-! ### Times -/

def inf : Nat := 2 ^ 47

/-- A time, INF from 2^47 ps on (R351). -/
def ps (t : Nat) : Option Nat := if t < inf then some t else none

def addPs (a b : Option Nat) : Option Nat :=
  match a, b with
  | some x, some y => ps (x + y)
  | _, _ => none

/-- A bound as it is reported, in ns (R351). -/
def reportNs (t : Option Nat) : Nat :=
  match t with
  | some x => min (ceilDiv x 1000) 0xFFFFFFFF
  | none => 0xFFFFFFFF

/-! ### Constants (R352) -/

/-- A constant at FULL or TRIM. -/
def ft (trim : Bool) (full trim_ : Nat) : Nat := if trim then trim_ else full

def kCore (n : Nat) (trim : Bool) : Nat :=
  if n < 8 then ft trim 100 190 else if n < 24 then ft trim 130 210 else ft trim 320 400
def kAcf (n : Nat) (trim : Bool) : Nat :=
  if n < 8 then ft trim 392 482 else if n < 24 then ft trim 422 502 else ft trim 612 692
def kRin (trim : Bool) : Nat := ft trim 120 210
def kCan (trim : Bool) : Nat := ft trim 150 195
def kDest (trim : Bool) : Nat := ft trim 4 8
def kMove (trim : Bool) : Nat := ft trim 2 4

/-- One CMAC over `n` blocks. -/
def kCmac (n : Nat) : Nat := 40 + 25 * (n - 1)
def cmacBlocks (bytes : Nat) : Nat := ceilDiv (10 + bytes) 16

def mSec (n : Nat) : Nat := if n < 8 then 40 else 120
def State.mRx (c : State) (n : Nat) : Nat := if c.secRx n then mSec n else 0
def State.mTx (c : State) (n : Nat) : Nat := if c.secTx n then mSec n else 0

/-- C_rx and C_tx in picoseconds. -/
def State.cRx (c : State) (n : Nat) : Nat := (portDelay n (c.laneMode n) (c.speed n)).1 * 100
def State.cTx (c : State) (n : Nat) : Nat := (portDelay n (c.laneMode n) (c.speed n)).2 * 100

/-- The byte time in picoseconds, and the rate in kb/s. -/
def State.bytePs (c : State) (n : Nat) : Nat := c.byteTime n * 100
def State.kbps (c : State) (n : Nat) : Nat := 8000000000 / c.bytePs n

def giga : Nat := 1000000000

/-- Reception of a whole frame at the ingress port, with C_rx and M_rx (R353, R362). -/
def State.receptionPs (c : State) (n len : Nat) : Nat := ceilDiv (8 * len * giga) (c.kbps n) + c.cRx n + c.mRx n * 1000

/-! ### Lanes (R354 to R359) -/

/-- The contracts of a lane. -/
def State.laneContracts (c : State) (n q : Nat) : List Entry :=
  (c.contracts.map (·.2)).filter fun e => (ctKind e == kETH || ctKind e == kC2E) && ctDst e == n && ctLane e == q

/-- The transmit or receive stream of a contract, and its MAXLEN. -/
def State.ctAcf (c : State) (e : Entry) : Entry := (c.pairGet pgAcf (ctStream e) c.heat.liveE).getD 0

/-- LMAX of a contract of a lane: MAXLEN of its stream for C2E (R354). -/
def State.lmaxOf (c : State) (e : Entry) : Nat := if ctKind e == kC2E then acMaxLen (c.ctAcf e) else ctLmax e

/-- The flow pacer of a contract, where it has one that is enabled. -/
def State.ctPacer (c : State) (e : Entry) : Option Entry :=
  if ctKind e == kETH && ctFpEn e then (c.pairGet pgPacer (ctFpacer e) c.heat.liveE).filter fpEn else none

/-- D_fp in picoseconds (R358). -/
def State.pacerDelay (c : State) (e : Entry) : Nat :=
  match c.ctPacer e with
  | some f => ceilDiv ((8 * ((ctSigma e : Int) + ctLmax e + fpOvh f)).toNat * giga) (fpRate f)
  | none => 0

/-- SIGMA' and RHO' (R358, R363). -/
def State.sigmaOf (c : State) (e : Entry) : Nat :=
  if ctKind e == kC2E then (acMaxLen (c.ctAcf e) + 20) * (1 + ceilDiv (ctJitter e * 1000) (ctPeriod e * 1000000))
  else ctSigma e + ceilDiv (ctRho e * c.pacerDelay e) (8 * giga)
def State.rhoOf (c : State) (e : Entry) : Nat :=
  if ctKind e == kC2E then ceilDiv (8 * (acMaxLen (c.ctAcf e) + 20) * 1000) (ctPeriod e) else ctRho e

def State.laneDeclared (c : State) (n q : Nat) : Bool := bit (c.fld pgRef (R.REF_LANE_DECL n)) q

def State.longestOf (c : State) (n q : Nat) : Nat := ((c.laneContracts n q).map c.lmaxOf).foldl max 0

/-- Lm_j. -/
def State.laneLm (c : State) (n j : Nat) : Nat := if c.laneDeclared n j then c.longestOf n j else c.maxLen n

def State.pacerOn (c : State) (n j : Nat) : Bool := c.flag (lanePage n) (R.LANE_CTRL_PACER_EN j)
def State.cbsOn (c : State) (n j : Nat) : Bool := c.flag (lanePage n) (R.LANE_CTRL_CBS_EN j)

/-- 8 × (bytes + length + OVH) bits. -/
def State.withOvh (c : State) (n j bytes len : Nat) : Nat := (8 * ((bytes : Int) + len + c.laneOvh n j)).toNat

/-- The arrival curve of lane `j`; none where it is neither shaped nor declared (R354). -/
def State.laneCurve (c : State) (n j : Nat) : Option (Nat × Nat) :=
  let p := lanePage n
  if c.pacerOn n j then some (c.withOvh n j (c.fld p (R.PACER_BURST j)) (c.laneLm n j), c.fld p (R.PACER_RATE j))
  else if c.cbsOn n j then some (c.withOvh n j (c.fld p (R.CBS_HICREDIT j)) (c.laneLm n j), c.fld p (R.CBS_IDLE j))
  else if c.laneDeclared n j then
    some (((c.laneContracts n j).map fun e => 8 * c.sigmaOf e).sum, ((c.laneContracts n j).map c.rhoOf).sum)
  else none

/-- The lanes of `q`'s class, and its position in it. -/
def State.classOf (c : State) (n q : Nat) : List Nat := (List.range 8).filter fun j => c.preemptable n j == c.preemptable n q

/-- The lanes of `q`'s class that interfere with it: those at higher positions and the other members of its weighted group (R355). -/
def State.aboveIn (c : State) (n q : Nat) : List Nat :=
  let cls := c.classOf n q
  cls.filter fun j => j != q && c.position n cls j ≥ c.position n cls q

/-- The interfering set of lane `q`; `true` marks the lanes whose curve counts 9/7. -/
def State.interfering (c : State) (n q : Nat) : List (Nat × Bool) :=
  let own := (c.aboveIn n q).map fun j => (j, false)
  if c.preemptable n q then own ++ ((List.range 8).filter fun j => !c.preemptable n j).map fun j => (j, true) else own

def scaled (s : Bool) (x : Nat) : Nat := if s then ceilDiv (9 * x) 7 else x

/-- The blocking term of lane `q`, in bits (R355). -/
def State.blocking (c : State) (n q : Nat) : Nat :=
  let cls := c.classOf n q
  let lower := cls.filter fun j => c.position n cls j < c.position n cls q
  let lb := if lower.isEmpty then 0 else 8 * ((lower.map (c.laneLm n)).foldl max 0 + 20)
  if c.flag (macPage n) R.MM_CFG_EN && !c.preemptable n q then max (8 * (c.fmin n + 79)) lb else lb

/-- σ_H and ρ_H; a lane without a curve counts nothing here (step 3 has refused it). -/
def State.interference (c : State) (n q : Nat) : Nat × Nat :=
  let l := (c.interfering n q).map fun x => ((c.laneCurve n x.1).getD (0, 0), x.2)
  ((l.map fun x => scaled x.2 x.1.1).sum, (l.map fun x => scaled x.2 x.1.2).sum)

/-! ### The gate service curve (R356, R359) -/

/-- The start and length of an entry of the list, in picoseconds. -/
def State.entryPs (c : State) (n j : Nat) : Nat × Nat :=
  (entryStart (c.hlInterval n) j * 1000, c.hlDuration n j * 1000)

/-- The maximal open runs of lane `q`, as start and length, in cycle order, before the run across the cycle end is joined. -/
def State.openRuns (c : State) (n q : Nat) : List (Nat × Nat) :=
  (List.range (c.hlLen n)).foldl (fun l j =>
    let (o, w) := c.entryPs n j
    if !bit (c.hlStates n j) q then l
    else match l.getLast? with
      | some (a, b) => if a + b == o then l.dropLast ++ [(a, b + w)] else l ++ [(o, w)]
      | none => [(o, w)]) []

/-- The windows of lane `q` in a cycle of `tc`. -/
def State.windows (c : State) (n q tc : Nat) : List (Nat × Nat) :=
  match c.openRuns n q with
  | (0, w) :: rest =>
    match rest.getLast? with
    | some (a, b) => if a + b == tc then rest.dropLast ++ [(a, b + w)] else (0, w) :: rest
    | none => [(0, w)]
  | l => l

/-- The guard of R356. -/
def State.guardPs (c : State) (n q : Nat) : Nat :=
  let b := c.bytePs n
  let whole := (8 + c.longestOf n q) * b
  if c.preemptable n q then min whole ((8 + c.fmin n) * b + c.holdAdvance n * 1000) else whole

/-- theta of the windows: for each, the later windows with the time they give. `l` is (o_i, u_i). -/
def gateTheta (l : List (Nat × Nat)) (tc u : Nat) : Nat :=
  let n := l.length
  let at_ (k : Nat) : Nat × Nat := l.getD (k % n) (0, 0)
  let one (i : Nat) : Int :=
    let (oi, ui) := at_ i
    ((List.range n).foldl (fun (a : Int × Nat) k =>
      let (oj, uj) := at_ (i + k + 1)
      let d : Int := if k + 1 == n then (tc : Int) - ui else ((oj : Int) - oi - ui) % (tc : Int)
      (max a.1 (d - (a.2 * tc / u : Nat)), a.2 + uj)) (0, 0)).1
  ((List.range n).foldl (fun (a : Int) i => max a (one i)) 0).toNat

/-- r_g and theta_g of lane `q`; none where no window is long enough. -/
def State.gateCurve (c : State) (n q : Nat) : Option (Nat × Nat) :=
  if n ≥ 24 then
    let p := 0x078 + (n - 24)
    let k := 1 + c.fld p R.T1S_PLCA_CFG_BURST_CNT
    let nodes := c.t1sNodes (n - 24)
    let y := 20 + nodes * c.fld p R.T1S_PLCA_CFG_TO_TIMER + nodes * k * 8 * (c.fld p R.T1S_PLCA_CFG2_SEG_MAXLEN + 20)
    some (10000 * (k * 8 * 84) / y, ceilDiv (y * giga) 10000)
  else if !c.hlEn n then some (c.kbps n, 0)
  else
    let tc := c.hlCycle n * 1000
    let g := c.guardPs n q
    let w := c.windows n q tc
    let u := w.map fun x => (x.1, x.2 - g)
    let sum := (u.map (·.2)).sum
    if (w.map (·.2)).foldl max 0 < g then none
    else if sum == 0 then some (0, 0)
    else some (c.kbps n * sum / tc, gateTheta u tc sum)

/-! ### Delay at the lane (R357) -/

/-- The state of the analysis of a lane: the rate left and the latency, or the code of the refusal. -/
def State.laneDelay (c : State) (n q : Nat) : Except Nat Nat :=
  let p := lanePage n
  let l := c.laneContracts n q
  let sq := (l.map fun e => 8 * c.sigmaOf e).sum
  let rq := (l.map c.rhoOf).sum
  match c.gateCurve n q with
  | none => .error Code.CONTRACT_NO_FIT
  | some (rg, tg) =>
    let (sh, rh) := c.interference n q
    let r := rg - rh
    if r ≤ rq then .error Code.OVERLOAD
    else
      let t := ceilDiv (rg * tg + (sh + c.blocking n q) * giga) r
      let shape (on : Bool) (rate : Nat) (x : Nat × Nat) : Nat × Nat :=
        if on then (min x.1 rate, x.2 + ceilDiv (c.withOvh n q 0 (c.longestOf n q) * giga) rate) else x
      let a := shape (c.cbsOn n q) (c.fld p (R.CBS_IDLE q)) (r, t)
      let b := shape (c.pacerOn n q) (c.fld p (R.PACER_RATE q)) a
      if a.1 ≤ rq || b.1 ≤ rq then .error Code.OVERLOAD else .ok (b.2 + ceilDiv (sq * giga) b.1)

/-! ### Routes of contracts -/

/-- The PDU that a contract's source sends, as far as routing asks. -/
def State.ctPdu (c : State) (e : Entry) : Pdu :=
  { src := if ctKind e == kE2C then 64 + ctStream e else ctSrc e, fmt := ctFmt e, ide := ctIde e, id := ctId e, brs := false
    rtr := false, esi := false, sec := false, sdt := 0, vcid := 0, af := 0, bus := if ctKind e == kE2C then ctBus e else 0, data := []
    stamp := { t0 := 0, t1 := 0, t2 := 0, t3 := 0, tl := 0, invalid := 0, island := .relay }, epoch := c.heat.liveE, tx := none }

/-- The KIND and PORT of the record that a contract names. -/
def ctTarget (e : Entry) : Nat × Nat :=
  if ctKind e == kC2E then (2, ctStream e) else if ctKind e == kLIN then (1, ctDst e) else (0, ctDst e)

/-- The records of a route, with their positions. -/
def State.recordsOf (c : State) (r : Entry) : List (Nat × Entry) :=
  (List.range (rtCount r)).filterMap fun i => (c.drec c.heat.liveE (rtFirst r + i)).map fun d => (i, d)

/-- The route of a contract, and the position and content of its record. -/
def State.ctCopy (c : State) (e : Entry) : Option (Entry × Nat × Entry) :=
  match c.routeOf (c.ctPdu e) with
  | none => none
  | some r =>
    ((c.recordsOf r).find? fun x => drSend x.2 && drKind x.2 == (ctTarget e).1 && drPort x.2 == (ctTarget e).2).map
      fun x => (r, x.1, x.2)

/-! ### Copies on CAN (R360 to R362) -/

def fmtLimit (f : Nat) : Nat := if f == 0 then 8 else if f == 1 then 64 else if f == 2 then 2048 else 8

/-- The authenticator bytes that a record adds. -/
def State.genBytes (c : State) (d : Entry) : Nat :=
  if drGen d then ((c.profile c.heat.liveE (drGprof d)).map apBytes).getD 0 else 0

/-- The payload of a copy before its authenticator: what is left of the source's (R291), spliced, cut under TRUNC and padded for LIN (R292). -/
def State.copyPayload (c : State) (e r d : Entry) : Nat :=
  let strip := if drStrip d && rtVerify r then ((c.profile c.heat.liveE (rtProf r)).map apBytes).getD 0 else 0
  let len := if drSplEn d then spOutLen (c.spInstr c.heat.liveE (drProg d)) else ctLen e - strip
  let limit := match drKind d with
    | 0 => fmtLimit (drFmt d)
    | 1 => lfLen (c.linFrame (drPort d) (drNewId d % 64))
    | 2 => acfRoom ((c.pairGet pgAcf (drPort d) c.heat.liveE).getD 0) (ctFmt e)
    | _ => len + c.genBytes d
  let room := limit - c.genBytes d
  if drKind d == 1 && len < room then room else if drTrunc d then min len room else len

/-- The payload bytes of a copy on CAN, padded to a coded length for FD. -/
def State.copyLen (c : State) (e r d : Entry) : Nat :=
  let s := c.copyPayload e r d + c.genBytes d
  if drFmt d == 1 then fdLength s else s

/-- A frame on a CAN bus as the analysis sees it. -/
structure BusFrame where
  contract : Nat
  rank : List Bool
  time : Nat
  period : Nat
  jitter : Nat

/-- Nominal bits N and data-phase bits X (R360). -/
def frameBits (fmt : Nat) (ide brs : Bool) (s : Nat) : Nat × Nat :=
  let crc := if s ≤ 16 then 28 else 33
  let stuffed (g n : Nat) : Nat := g + n + 13 + (g + n - 1) / 4
  if fmt == 2 then (37, 3 + (112 + 8 * s) + ceilDiv (112 + 8 * s) 10)
  else if fmt == 1 && brs then
    let a := if ide then 36 else 17
    let d := 5 + 8 * s
    (a + (a - 1) / 4 + 13, d + (d - 1) / 4 + crc)
  else if fmt == 1 then (stuffed (if ide then 41 else 22) (8 * s + crc), 0)
  else (stuffed (if ide then 54 else 34) (8 * s), 0)

/-- A nominal and a data-phase bit in picoseconds. -/
def State.bitPs (c : State) (ch : Nat) : Nat := (c.nominal ch).clocks * 6250
def State.frameTime (c : State) (ch fmt : Nat) (ide brs : Bool) (s : Nat) : Nat :=
  let (n, x) := frameBits fmt ide brs s
  let td := (if fmt == 2 then c.xlTiming ch else c.fdTiming ch).clocks * 6250
  n * c.bitPs ch + x * td

/-- A frame's rank from its identifier (R261). -/
def rankOf (fmt : Nat) (ide : Bool) (id : Nat) : List Bool :=
  CanFrame.rank { fmt := fmt, ide := ide, id := id, brs := false, rtr := false, esi := false, sec := false, sdt := 0, vcid := 0, af := 0
                  data := [] }

/-- The relay part of a fixed part, in picoseconds (R362): `k` is K_can or K_acf. -/
def State.relayPs (c : State) (e r : Entry) (i k : Nat) (trim : Bool) : Nat :=
  let upTo := (c.recordsOf r).filter fun x => x.1 ≤ i
  let moves := (upTo.map fun x => if drSplEn x.2 then spCount (c.spInstr c.heat.liveE (drProg x.2)) else 0).sum
  let ver := if rtVerify r then
      kCmac (cmacBlocks (ctLen e - ((c.profile c.heat.liveE (rtProf r)).map apBytes).getD 0))
    else 0
  let gen := (upTo.map fun x => if drGen x.2 then kCmac (cmacBlocks (c.copyPayload e r x.2)) else 0).sum
  (k + kDest trim * i + kMove trim * moves + ver + gen) * 1000

/-- The fixed part of a CAN, E2C or LIN contract (R362). -/
def State.fixedPs (c : State) (e r : Entry) (i : Nat) (trim : Bool) : Nat :=
  let relay := c.relayPs e r i (kCan trim) trim
  if ctKind e == kE2C then c.receptionPs (ctSrc e) (ctLmax e) + kRin trim * 1000 + relay else relay

/-- A frame of channel `ch`'s set (R361); none where the contract's own route is missing. -/
def State.busFrame (c : State) (ch : Nat) (x : Nat × Entry) : Option BusFrame :=
  let e := x.2
  let tp := ctPeriod e * 1000000
  if ctKind e == kFOREIGN then
    some { contract := x.1, rank := rankOf (ctFmt e) (ctIde e) (ctId e)
           time := c.frameTime ch (ctFmt e) (ctIde e) (ctBrs e) (ctLen e), period := tp, jitter := ctJitter e * 1000 }
  else
    (c.ctCopy e).map fun (r, i, d) =>
      let fmt := drFmt d
      let ide := fmt != 2 && (if drIdKeep d then ctIde e && ctFmt e != 3 else drIde d)
      let id0 := if drIdKeep d then ctId e else drNewId d
      let brs := drBrs d && c.canCtl ch R.CAN_CTRL_BRS_EN
      { contract := x.1, rank := rankOf fmt ide (if ide then id0 else id0 % 2 ^ 11)
        time := c.frameTime ch fmt ide brs (c.copyLen e r d), period := tp
        jitter := ctJitter e * 1000 + (c.fixedPs e r i true - 12500) }

/-- The set of frames on a channel. -/
def State.busFrames (c : State) (ch : Nat) : List BusFrame :=
  (c.contracts.filter fun x => (ctKind x.2 == kCAN || ctKind x.2 == kE2C || ctKind x.2 == kFOREIGN) && ctDst x.2 == ch).filterMap
    (c.busFrame ch)

/-- The utilisation of a channel is 1 or more, computed exactly. -/
def busFull (l : List BusFrame) : Bool :=
  let (a, b) := l.foldl (fun (x : Nat × Nat) f => (x.1 * f.period + f.time * x.2, x.2 * f.period)) (0, 1)
  a ≥ b

/-- The iteration of R361. -/
def rtaLoop (hp : List BusFrame) (blk tau own fuel w : Nat) : Option Nat :=
  match fuel with
  | 0 => none
  | fuel + 1 =>
    let w2 := blk + tau + (hp.map fun j => ceilDiv (w + j.jitter + tau) j.period * j.time).sum
    if w2 == w then ps (w + own) else if w2 ≥ inf then none else rtaLoop hp blk tau own fuel w2

/-- The response time of contract `k`'s frame on a channel (R361). -/
def State.rta (c : State) (ch k : Nat) : Option Nat :=
  let l := c.busFrames ch
  match l.find? fun f => f.contract == k with
  | none => none
  | some m =>
    let hp := l.filter fun f => f.contract != k && outranks f.rank m.rank
    let lp := l.filter fun f => f.contract != k && outranks m.rank f.rank
    let blk := (lp.map (·.time)).foldl max 0
    let tau := c.bitPs ch
    rtaLoop hp blk tau m.time 64 (blk + tau)

/-! ### LIN (R364) -/

/-- A schedule entry carries frame `id` of the commander for certain: an UNCOND slot of it, the MRF slot for 0x3C, and a SPORADIC slot
that names it first (DEDUCED, log entry 64). -/
def carries (x : Entry) (id : Nat) : Bool :=
  (lsType x == 0 && lsId x == id) || (lsType x == 3 && id == 0x3C) || (lsType x == 2 && (lsAssoc x).head? == some id)

/-- The longest interval between carrying slots of a list of (delay, carries), in units of 100 µs, across the wrap. -/
def longestGap (l : List (Nat × Bool)) : Option Nat :=
  let step (a : Nat × List Nat) (x : Nat × Bool) : Nat × List Nat := (a.1 + x.1, if x.2 then a.2 ++ [a.1] else a.2)
  let (total, starts) := l.foldl step (0, [])
  match starts with
  | [] => none
  | s0 :: rest =>
    let ends := rest ++ [s0 + total]
    some (((starts.zip ends).map fun p => p.2 - p.1).foldl max 0)

/-- Schedule `k` of channel `n` as delays and whether each slot carries frame `id`. -/
def State.scheduleOf (c : State) (n k id : Nat) : List (Nat × Bool) :=
  (List.range (c.linLength n k)).map fun j =>
    let x := c.linSched n (c.linFirst n k + j)
    (lsDelay x, carries x id)

/-- The LIN part of a bound. -/
def State.linPs (c : State) (n id : Nat) : Option Nat :=
  let gaps := (List.range 4).filterMap fun k => longestGap (c.scheduleOf n k id)
  match gaps with
  | [] => none
  | _ => ps (gaps.foldl max 0 * 100000000
      + ceilDiv (linFrameBits (lfLen (c.linFrame n id)) * 1000000000000) (c.fld (linPage n) R.LIN_CFG_BAUD))

/-! ### Checks per contract (R350) -/

/-- Step 1. -/
def ctFieldsBad (e : Entry) : Bool :=
  let k := ctKind e
  let len := ctLen e > fmtLimit (ctFmt e) || ctPeriod e == 0
  let lin := k != kFOREIGN && 48 ≤ ctSrc e && ctSrc e ≤ 59
  (k != kFOREIGN && ctDeadline e == 0) || ((k == kETH || k == kE2C) && ctLmax e < 64)
    || (k != kETH && len) || (k != kETH && k != kE2C && (ctFmt e == 3) != lin)

/-- A port cannot carry a contract: disabled, or its lane off. -/
def State.portUnfit (c : State) (n : Nat) : Bool := n > 27 || !c.portEnabled n || (n < 24 && c.laneMode n == 0)
def State.canUnfit (c : State) (ch : Nat) : Bool := ch > 47 || !c.flag (canPage ch) R.PAGE_CTRL_ENABLE
def State.linUnfit (c : State) (n : Nat) : Bool := n > 11 || !c.flag (linPage n) R.PAGE_CTRL_ENABLE

/-- A relay source cannot carry a contract. -/
def State.sourceUnfit (c : State) (src : Nat) : Bool :=
  if src < 48 then c.canUnfit src else src > 59 || c.linUnfit (src - 48)

/-- Step 2. A stream with EN = 0 is no path (DESIGN CHOICE, log entry 200). -/
def State.pathBad (c : State) (e : Entry) : Bool :=
  let k := ctKind e
  let acf := c.pairGet pgAcf (ctStream e) c.heat.liveE
  let stream (rx : Bool) : Bool := match acf with
    | some a => acEn a && acRx a == rx
    | none => false
  if k == kETH then
    c.portUnfit (ctSrc e) || c.portUnfit (ctDst e) || (ctFpEn e && (c.ctPacer e).isNone)
  else if k == kCAN then c.sourceUnfit (ctSrc e) || c.canUnfit (ctDst e) || (c.ctCopy e).isNone
  else if k == kC2E then
    c.sourceUnfit (ctSrc e) || c.portUnfit (ctDst e) || (c.ctCopy e).isNone || !stream false
  else if k == kE2C then c.portUnfit (ctSrc e) || c.canUnfit (ctDst e) || (c.ctCopy e).isNone || !stream true
  else if k == kLIN then c.sourceUnfit (ctSrc e) || c.linUnfit (ctDst e) || (c.ctCopy e).isNone
  else c.canUnfit (ctDst e)

def State.channelDeclared (c : State) (ch : Nat) : Bool :=
  if ch < 32 then bit (c.fld pgRef R.REF_CAN_DECL_LO) ch else bit (c.fld pgRef R.REF_CAN_DECL_HI) (ch - 32)

/-- The contract leaves through a lane; through a CAN channel. -/
def usesLane (e : Entry) : Bool := ctKind e == kETH || ctKind e == kC2E
def usesCan (e : Entry) : Bool := ctKind e == kCAN || ctKind e == kE2C

/-- Step 3; 0 for no failure. -/
def State.declBad (c : State) (e : Entry) : Nat :=
  let n := ctDst e
  let q := ctLane e
  if usesLane e then
    if !c.laneDeclared n q || (c.interfering n q).any fun x => (c.laneCurve n x.1).isNone then Code.LANE_UNBOUNDED else 0
  else if usesCan e && !c.channelDeclared n then Code.BUS_UNDECLARED
  else 0

/-- Received PAUSE or PFC can hold the lane (R154, R156). -/
def State.pausable (c : State) (n q : Nat) : Bool :=
  let m := macPage n
  c.flag m R.FC_CFG_PAUSE_RX
    || (c.flag m R.FC_CFG_PFC_RX
      && bit (c.fld m R.FC_CFG_PFC_PRIO) q)

/-- A shaper in the analysis of lane `q` has OVH below 20. -/
def State.ovhLow (c : State) (n q : Nat) : Bool :=
  let lanes := q :: (c.interfering n q).map (·.1)
  let shaped (j : Nat) : Bool := c.pacerOn n j || c.cbsOn n j
  let counted := lanes.filter fun j => j == q || !shaped j
  (lanes.any fun j => shaped j && c.laneOvh n j < 20)
    || (counted.flatMap (c.laneContracts n)).any fun e => match c.ctPacer e with
      | some f => fpOvh f < 20
      | none => false

/-- Two frames of a channel's set have equal rank. -/
def equalRanks (l : List BusFrame) : Bool := l.any fun f => l.any fun g => f.contract != g.contract && f.rank == g.rank

/-- Step 4. -/
def State.rulesBad (c : State) (e : Entry) : Nat :=
  let n := ctDst e
  let q := ctLane e
  if usesLane e then
    if c.pausable n q || (n ≥ 24 && (!c.flag (0x078 + (n - 24)) R.T1S_PLCA_CFG_PLCA_EN || c.hlEn n)) then Code.PORT_UNBOUNDED
    else if c.ovhLow n q then Code.SHAPER_OVH
    else 0
  else if usesCan e then
    if c.canCtl n R.CAN_CTRL_TX_ORDER || (c.ttSchedule n).isSome || equalRanks (c.busFrames n) then Code.CAN_ORDER else 0
  else if ctKind e == kLIN && !c.linCommander n then Code.PORT_UNBOUNDED
  else 0

/-- Step 5. -/
def State.loadBad (c : State) (e : Entry) : Nat :=
  let slow := match c.ctPacer e with
    | some f => Nat.ble (fpRate f) (ctRho e)
    | none => false
  if slow then Code.OVERLOAD
  else if usesLane e then
    match c.laneDelay (ctDst e) (ctLane e) with
    | .error k => k
    | .ok _ => 0
  else if usesCan e && busFull (c.busFrames (ctDst e)) then Code.OVERLOAD
  else 0

/-- The aggregation wait of a C2E contract (R363). -/
def acfWait (a d : Entry) : Option Nat :=
  if acCount a == 1 then some 0
  else
    let byTime := if acTime a == 0 then none else some (acTime a * 1000000)
    let byDeadline := if drDeadline d == 0 then none else some ((drDeadline d - 1) * 1000000)
    match byTime, byDeadline with
    | some x, some y => ps (min x y)
    | some x, none => ps x
    | none, some y => ps y
    | none, none => none

/-- The bound of contract `k` (R353, R357, R362 to R364). -/
def State.bound (c : State) (k : Nat) (e : Entry) (trim : Bool) : Option Nat :=
  let n := ctDst e
  let dq := match c.laneDelay n (ctLane e) with
    | .ok t => ps t
    | .error _ => none
  if ctKind e == kETH then
    let f := c.receptionPs (ctSrc e) (ctLmax e) + c.cTx n + (kCore n trim + c.mTx n) * 1000
    addPs (addPs (ps f) dq) (ps (c.pacerDelay e))
  else
    match c.ctCopy e with
    | none => none
    | some (r, i, d) =>
      if ctKind e == kC2E then
        addPs (addPs (ps (c.relayPs e r i (kAcf n trim) trim + c.cTx n + c.mTx n * 1000)) (acfWait (c.ctAcf e) d)) dq
      else if ctKind e == kLIN then addPs (ps (c.fixedPs e r i trim)) (c.linPs n (drNewId d % 64))
      else addPs (ps (c.fixedPs e r i trim)) (c.rta n k)

/-- The effective deadline in ns (R350). -/
def State.effective (c : State) (e : Entry) : Nat :=
  match usesCan e, c.ctCopy e with
  | true, some (_, _, d) => if drLife d == 0 then ctDeadline e else min (ctDeadline e) (drLife d * 1000)
  | _, _ => ctDeadline e

/-! ### The verdict (R347) -/

/-- What a check ends with: the code (0 accepted), the contract that failed, AT_TRIM, bound and deadline of CONTRACT_VIOLATED, and the
bounds of the enabled contracts. -/
structure Verdict where
  code : Nat
  contract : Option Nat
  atTrim : Bool
  vbound : Nat
  vdeadline : Nat
  bounds : SMap (Nat × Nat)

def Verdict.fail (code : Nat) (k : Option Nat) : Verdict :=
  { code := code, contract := k, atTrim := false, vbound := 0, vdeadline := 0, bounds := [] }

/-- The code of the first failing step of a contract before its bound; 0 for none. -/
def State.contractCode (c : State) (e : Entry) : Nat :=
  if ctFieldsBad e then Code.CONTRACT_BAD
  else if c.pathBad e then Code.PATH_UNDEFINED
  else if ctKind e == kFOREIGN then 0
  else
    let a := c.declBad e
    let b := c.rulesBad e
    if a != 0 then a else if b != 0 then b else c.loadBad e

/-- Step 7: the contracts in order, with the bounds so far. -/
def State.judge (c : State) (l : List (Nat × Entry)) (acc : SMap (Nat × Nat)) : Verdict :=
  match l with
  | [] => { code := 0, contract := none, atTrim := false, vbound := 0, vdeadline := 0, bounds := acc }
  | (k, e) :: t =>
    let code := c.contractCode e
    if code != 0 then Verdict.fail code (some k)
    else if ctKind e == kFOREIGN then c.judge t acc
    else
      let full := reportNs (c.bound k e false)
      let trim := if ctTrim e then reportNs (c.bound k e true) else 0
      let b := if ctTrim e then trim else full
      if b > c.effective e || b == 0xFFFFFFFF then
        { code := Code.CONTRACT_VIOLATED, contract := some k, atTrim := ctTrim e, vbound := b, vdeadline := c.effective e, bounds := [] }
      else c.judge t (acc ++ [(k, (full, trim))])

/-- A list of intervals meets R236 in what hurdle lists and stream gates share. -/
def listOk (cycle : Nat) (iv : List Nat) : Bool :=
  1000 ≤ cycle && cycle ≤ giga && iv.all (32 ≤ ·) && iv.sum ≤ cycle

/-- Step 1 (R236). -/
def State.hurdleBad (c : State) (n : Nat) : Bool :=
  let len := c.hlLen n
  let ops := (List.range len).map (c.hlOp n)
  c.hlEn n && (len == 0 || len > 256 || !listOk (c.hlCycle n) ((List.range len).map (c.hlInterval n))
    || (ops.any (· != 0) && !c.flag (macPage n) R.MM_CFG_EN) || (ops.contains 1 && !ops.contains 2))

def State.gateBad (c : State) (e : Entry) : Bool :=
  let len := gLength e
  len != 0 && (gFirst e + len > 2048 || len > 64 || !listOk (gCycle e) ((List.range len).map fun j => c.gateInterval e j))

/-- Step 2 (R235). -/
def State.shaperBad (c : State) (n i : Nat) : Bool :=
  let p := lanePage n
  let idle := c.fld p (R.CBS_IDLE i)
  (c.pacerOn n i && c.fld p (R.PACER_RATE i) == 0) || (c.cbsOn n i && (idle == 0 || idle ≥ c.kbps n))
    || (c.flag p (R.LANE_CTRL_WRR i) && c.fld p (R.LANE_CTRL_WEIGHT i) == 0) || c.fld p (R.LANE_CTRL_CHG_POLICY i) == 3

/-- The shaper values of a lane, CHG_POLICY, CBS_IDLE and PACER_RATE left out (R234). -/
def State.keepPart (c : State) (n i : Nat) : List Nat :=
  let p := lanePage n
  [c.fld p (R.LANE_CTRL_CBS_EN i), c.fld p (R.LANE_CTRL_PACER_EN i), c.fld p (R.CBS_HICREDIT i), c.fld p (R.PACER_BURST i),
    c.fld p (R.LANE_CTRL_OVH i)]

/-- Step 3 (R234), for a lane and for a flow pacer. -/
def keepBad (b c : State) (n i : Nat) : Bool :=
  c.fld (lanePage n) (R.LANE_CTRL_CHG_POLICY i) == 1 && b.keepPart n i != c.keepPart n i
def flowKeepBad (b : State) (k : Nat) (e : Entry) : Bool :=
  let old := (b.pairGet pgPacer k b.heat.liveE).getD 0
  fpPolicy e == 1 && (fpEn e != fpEn old || fpBurst e != fpBurst old || fpOvh e != fpOvh old)

/-- A heat restarts the list of port `n` (R238). -/
def restartsList (h : Changes) (c : State) (n : Nat) : Bool :=
  (h.regs.any fun e => [R.HL_CFG_EN.off, R.HL_CYCLE.off, R.HL_BASE_SEC_LO.off, R.HL_BASE_SEC_HI.off, R.HL_BASE_NS.off].any
      fun o => e.1 == regKey (lanePage n) o)
    || h.tbls.any fun r => r.page == lanePage n && r.idx % 256 < c.hlLen n

/-- Step 5 (R238): the activation is of `dom` at `time` where the heat is TIMED. -/
def falseStart (h : Changes) (c : State) (timed : Bool) (dom time n : Nat) : Bool :=
  c.flag (lanePage n) R.HL_CFG_FS_POLICY && c.hlEn n && restartsList h c n
    && (!timed || dom != c.hlDomain n || time > c.hlBase n * nsUnit)

/-- Step 6 (R176). -/
def State.groupBad (c : State) : Bool :=
  (c.keyedEntries pgL2).any fun e => l2Port e.2 == 30 && (c.pairGet pgGroup (l2Qual e.2) c.heat.liveE).isNone

/-- The verdict on heat `h`, whose earlier armed heats give `b` and which itself gives `c` (R347). -/
def refVerdict (b c : State) (h : Changes) (timed : Bool) (dom time : Nat) : Verdict :=
  let lanes := (List.range 28).flatMap fun n => (List.range 8).map fun i => (n, i)
  let flows := c.liveEntries pgPacer
  let guar := (lanes.map fun x => c.fld (lanePage x.1) (R.LANE_BUF_GUAR_CELLS x.2)).sum
  if (List.range 28).any c.hurdleBad || (c.liveEntries pgGate).any (fun e => c.gateBad e.2) then Verdict.fail Code.GATE_LIST_BAD none
  else if lanes.any (fun x => c.shaperBad x.1 x.2) || flows.any (fun e => (fpEn e.2 && fpRate e.2 == 0) || fpPolicy e.2 == 3) then
    Verdict.fail Code.SHAPER_BAD none
  else if lanes.any (fun x => keepBad b c x.1 x.2) || flows.any (fun e => flowKeepBad b e.1 e.2) then Verdict.fail Code.SHAPER_KEEP none
  else if guar > 65536 then Verdict.fail Code.BUF_GUAR none
  else if (List.range 28).any (falseStart h c timed dom time) then Verdict.fail Code.FALSE_START none
  else if c.groupBad then Verdict.fail Code.PATH_UNDEFINED none
  else c.judge c.contracts []

/-! ### Contract states (R365) -/

/-- The relay source's domain. -/
def sourceDomain (src : Nat) : Nat := if src < 24 then 12 else if src < 48 then 13 else 14

/-- The ingress port, the egress port, the source channel and the destination channel (0 to 47 CAN, 48 to 59 LIN) of a path. -/
def ctIn (e : Entry) : Option Nat := if ctKind e == kETH || ctKind e == kE2C then some (ctSrc e) else none
def ctOut (e : Entry) : Option Nat := if usesLane e then some (ctDst e) else none
def ctChannels (e : Entry) : List Nat :=
  (if ctKind e == kCAN || ctKind e == kC2E || ctKind e == kLIN then [ctSrc e] else [])
    ++ (if usesCan e then [ctDst e] else if ctKind e == kLIN then [48 + ctDst e] else [])

/-- The slice that serves the Ethernet stage of a path; 3 for none. -/
def State.ctSlice (s : State) (e : Entry) : Option Nat :=
  match ctIn e with
  | some n => some (s.servingSlice (s.roleOf s.heat.liveE n))
  | none => if ctKind e == kC2E then some (s.servingSlice (s.roleOf s.heat.liveE 29)) else none

/-- The domains that a path needs, apart from those of nothing. -/
def State.ctDomains (s : State) (e : Entry) : List Nat :=
  let ports := (ctIn e).toList ++ (ctOut e).toList
  let slice := match s.ctSlice e with
    | some i => if i < 3 then [8, 5 + i] else [8]
    | none => []
  let relay := if ctKind e == kETH then [] else [12]
  let route := s.ctCopy e
  let auth := match route with
    | some (r, _, d) => rtVerify r || drGen d
    | none => false
  let sec := (ctIn e).any s.secRx || (ctOut e).any s.secTx
  ports.map portDomain ++ (ctChannels e).map sourceDomain ++ slice ++ relay ++ (if auth || sec then [15] else [])

/-- The path needs a unit that nothing serves. -/
def State.ctUnserved (s : State) (e : Entry) : Bool :=
  let ports := (ctIn e).toList ++ (ctOut e).toList
  s.ctSlice e == some 3
    || (ctChannels e).any (fun k => s.pageUnserved (if k < 48 then canPage k else linPage (k - 48)))
    || ports.any fun n => s.eth.engineLost.contains n && ((ctIn e == some n && s.secRx n) || (ctOut e == some n && s.secTx n))

/-- A domain that a hurdle list or a stream gate on the path follows is invalid. -/
def State.ctTimeInvalid (s : State) (e : Entry) : Bool :=
  let list := match ctOut e with
    | some n => s.hlEn n && !s.domainValid (s.hlDomain n)
    | none => false
  let src := match ctIn e with
    | some n => some n
    | none => if ctKind e == kC2E then some 29 else none
  let gates : List Entry := match src with
    | none => []
    | some k => ((s.keyedEntries pgFilter).filter fun x => eBits x.2 15 8 == k || eBits x.2 15 8 == 0xFF).filterMap fun x =>
        if sfGate x.2 < 256 then s.pairGet pgGate (sfGate x.2) s.heat.liveE else none
  list || gates.any fun g => !s.domainValid (gDomain g)

/-- The LIN schedule that runs does not carry the frame. -/
def State.ctLinSched (s : State) (e : Entry) : Bool :=
  ctKind e == kLIN && (match s.ctCopy e with
    | some (_, _, d) =>
      let n := ctDst e
      !s.flag (linPage n) R.LIN_STAT_RUNNING
        || !(s.scheduleOf n (s.fld (linPage n) R.LIN_STAT_SCHED) (drNewId d % 64)).any (·.2)
    | none => true)

/-- REASON: bit 0 MODE, 1 PREEMPT, 2 PLCA, 3 LINK, 4 CAN_STATE, 5 TIME_INVALID, 6 LIN_SCHED. -/
def State.ctReason (s : State) (e : Entry) : Nat :=
  let mode := s.mode.service == .halt || s.mode.service == .maintain || (s.mode.power != .full && !ctTrim e)
  let out (q : Nat → Bool) : Bool := (ctOut e).any q
  let preempt := out fun n => s.flag (macPage n) R.MM_CFG_EN && !s.txActive n
  let plca := out fun n => n ≥ 24 && !s.flag (0x078 + (n - 24)) R.T1S_STAT_PLCA_ACTIVE
  let link := ((ctIn e).toList ++ (ctOut e).toList).any fun n => !s.flag (macPage n) R.MAC_STAT_LINK
  let can := (ctChannels e).any fun k => k < 48 && (s.errState k != 0 || s.flag (canPage k) R.CAN_STAT_SOLO)
  b2n mode + 2 * b2n preempt + 4 * b2n plca + 8 * b2n link + 16 * b2n can + 32 * b2n (s.ctTimeInvalid e) + 64 * b2n (s.ctLinSched e)

/-- The state of a contract (0 INACTIVE, 1 ENFORCED, 2 SUSPENDED, 3 VOID) and its REASON, which collects the reasons that apply in VOID too. -/
def State.ctState (s : State) (e : Entry) : Nat × Nat :=
  if !ctEn e || ctKind e == kFOREIGN then (0, 0)
  else if s.mode.power == .lean && (s.ctDomains e).any fun d => !s.power.leanSet.contains d then (3, s.ctReason e)
  else if s.ctUnserved e then (3, s.ctReason e)
  else
    let r := s.ctReason e
    if r != 0 then (2, r) else (1, 0)

/-- Set the state of contract `k`; a change is an event and a logbook record (R391). -/
def State.putCtState (s : State) (k : Nat) (x : Nat × Nat) : State :=
  let old := (mget s.heat.states k).getD (0, 0)
  let s1 := { s with heat := { s.heat with states := if x = (0, 0) then mdel s.heat.states k else mset s.heat.states k x } }
  if old.1 == x.1 then s1
  else (s1.raise pgRef 0).record
    { type := 5, page := pgRef, tl := 0, tsInvalid := false, code := 0, arg0 := k, arg1 := old.1 + x.1 * 4 + x.2 * 16, arg2 := 0
      payload := [] }

/-- The counts of REF_CNT_A and REF_CNT_B. -/
def State.countStates (s : State) : State :=
  let l := s.liveEntries pgContract
  let n (st : Nat) : Nat := (l.filter fun e => ((mget s.heat.states e.1).getD (0, 0)).1 == st).length
  (((s.setF pgRef R.REF_CNT_A_ENFORCED (n 1)).setF pgRef R.REF_CNT_A_SUSPENDED (n 2)).setF pgRef R.REF_CNT_B_VOID (n 3)).setF pgRef
    R.REF_CNT_B_INACTIVE (n 0)

/-- Set every contract's state from the present conditions (R365). -/
def State.updateContracts (s : State) : State :=
  let l := s.liveEntries pgContract
  let gone := s.heat.states.filter fun x => !l.any fun e => e.1 == x.1
  let s1 := gone.foldl (fun t x => t.putCtState x.1 (0, 0)) s
  (l.foldl (fun t e => t.putCtState e.1 (t.ctState e.2)) s1).countStates

end Sys2Proof.Machine
end

