-- ==== Sys2Proof/Machine/Heats.lean ====
section
/-! DEFINITION. The heat manager (R117 to R134): commit and its limits, the verdict, loading, the swap and what it starts, settling,
abort and discard. -/

namespace Sys2Proof.Machine

def pgHeat : Nat := 0x010

/-! ### The heat store -/

/-- The size of a set of changes in 8-byte units (R118). -/
def Changes.units (c : Changes) : Nat := c.regs.length + 6 * c.tbls.length

/-- HEAT_STORE_FREE: the store less what committed heats hold until they have settled. -/
def State.storeFree (s : State) : Nat :=
  let used := (s.heat.armed.map fun h => h.chg.units).sum
    + (match s.heat.checking with
      | some c => c.chg.units
      | none => 0)
    + (match s.heat.settling with
      | some (c, _) => c.units
      | none => 0)
  0x20000 - used

/-- What DIRTY and HEAT_OPEN_SIZE show: the open heat, and the changes under check, which leave it only when the heat is armed (R124). -/
def State.notArmed (s : State) : Changes :=
  match s.heat.checking with
  | some k =>
    { regs := s.heat.opn.regs.foldl (fun m e => mset m e.1 e.2) k.chg.regs, tbls := k.chg.tbls ++ s.heat.opn.tbls }
  | none => s.heat.opn

/-- A page has staged changes that are not armed (HEAT_STAGED.DIRTY). -/
def State.pageDirty (s : State) (p : Nat) : Bool :=
  (s.notArmed.regs.any fun e => e.1 / 4096 == p) || s.notArmed.tbls.any fun r => r.page == p

/-- HEAT_STAGED.TAG: the tag of the last armed heat that changes a page. -/
def State.pageTag (s : State) (p : Nat) : Nat :=
  let l := s.heat.armed.filter fun h => (h.chg.regs.any fun e => e.1 / 4096 == p) || h.chg.tbls.any fun r => r.page == p
  ((l.getLast?).map fun h => h.tag.toNat % 2 ^ 31).getD 0

/-- Report a result in HEAT_STAT. -/
def State.heatResult (s : State) (op res : Nat) : State :=
  (s.setF pgHeat R.HEAT_STAT_LAST_OP op).setF pgHeat R.HEAT_STAT_RESULT res

/-- A refusal in HEAT_STAT. -/
def State.heatRefused (s : State) (op code : Nat) : State := (s.heatResult op 2).setF pgHeat R.HEAT_STAT_CODE code

/-! ### Commit (R121) -/

/-- The activation time written: seconds and nanoseconds. -/
def State.actTime (s : State) : Nat :=
  timeOf (s.fld pgHeat R.HEAT_ACT_SEC_LO + s.fld pgHeat R.HEAT_ACT_SEC_HI * 2 ^ 32) (s.fld pgHeat R.HEAT_ACT_NS) 0

/-- The mode rules of R52, R56 and R59. -/
def State.modeRefusal (s : State) (m : Master) : Nat :=
  if s.mode.service == .maintain then Code.HEAT_IN_MAINTAIN
  else if s.mode.life == .blank then Code.HEAT_IN_BLANK
  else if s.mode.trust == .quarantine && Master.num m != 1 then Code.HEAT_IN_QUARANTINE
  else 0

/-- The live hurdle list of a port runs. -/
def State.listRuns (s : State) (n : Nat) : Bool := s.hlEn n && (s.eport n).hurdle.running

/-- The conditions of R121, in order; 0 where none holds. -/
def State.commitRefusal (s : State) (m : Master) : Nat :=
  let tag := s.rd pgHeat R.HEAT_TAG.off
  let mode := s.fld pgHeat R.HEAT_ACT_MODE_MODE
  let dom := s.fld pgHeat R.HEAT_ACT_MODE_DOMAIN
  let port := s.fld pgHeat R.HEAT_ACT_MODE_PORT
  let last := s.heat.armed.getLast?
  let mixed := match last with
    | some h => h.domain != dom
    | none => false
  let near := match last with
    | some h => Nat.blt s.actTime (h.time + msT 1)
    | none => false
  let rules := s.modeRefusal m
  if s.heat.checking.isSome then Code.HEAT_BUSY
  else if rules != 0 then rules
  else if mode == 3 || (mode == 2 && port > 27) then Code.HEAT_ACT_BAD
  else if tag == 0 || tag.msb || tag == s.heat.live || s.heat.armed.any (fun h => h.tag == tag) then Code.HEAT_TAG_BAD
  else if s.heat.armed.length ≥ 16 then Code.HEAT_ARM_FULL
  else if mode != 0 && !s.heat.armed.isEmpty then Code.HEAT_ORDER
  else if mode == 0 && mixed then Code.HEAT_DOMAIN_MIX
  else if mode == 0 && near then Code.HEAT_SPACING
  else if mode == 2 && !s.listRuns port then Code.HEAT_NO_CYCLE
  else if s.heat.opn.regs.length > 4096 || s.heat.opn.tbls.length > 8192 then Code.HEAT_TOO_LARGE
  else if s.heat.opn.units > s.storeFree then Code.HEAT_STORE_FULL
  else (s.afterArmed.wouldBe s.heat.opn false).configRefusal

/-- COMMIT (R121, R122): refused, or the open heat is captured and its check begins. -/
def State.heatCommit (s : State) (m : Master) : State × Nat :=
  let code := s.commitRefusal m
  if code != 0 then (s.heatRefused 1 code, code)
  else
    let mode := s.fld pgHeat R.HEAT_ACT_MODE_MODE
    let port := s.fld pgHeat R.HEAT_ACT_MODE_PORT
    let c : Checking :=
      { tag := s.rd pgHeat R.HEAT_TAG.off, chg := s.heat.opn, mode := mode
        domain := if mode == 0 then s.fld pgHeat R.HEAT_ACT_MODE_DOMAIN else if mode == 1 then 4 else s.hlDomain port
        port := port, time := s.actTime, loaded := false, since := s.time.tl, behind := !s.heat.armed.isEmpty }
    let s1 := { s with heat := { s.heat with checking := some c, opn := Changes.empty } }
    let s2 := s1.heatResult 1 0
    (if s.storeFree ≥ 8192 && s2.storeFree < 8192 then s2.raise pgHeat 4 else s2, 0)

/-! ### Loading (R122, R125) -/

/-- Load the earliest heat once the previous one has settled: the first armed heat, or the heat under check where none is armed. A heat
whose time has come meanwhile swaps late (R130). -/
def State.heatLoad (s : State) : State :=
  if s.heat.settling.isSome then s
  else
    match s.heat.armed, s.heat.checking with
    | h :: t, _ =>
      if h.loaded then s
      else
        let (s1, c) := s.loadTables h.chg
        let passed : Bool := h.stepped || (s.domainValid h.domain && Nat.ble h.time (s.clock h.domain) && h.lateTime.isNone)
        { s1 with heat := { s1.heat with armed := { h with chg := c, loaded := true, late := h.late || passed } :: t } }
    | [], some k =>
      if k.loaded then s
      else
        let (s1, c) := s.loadTables k.chg
        { s1 with heat := { s1.heat with checking := some { k with chg := c, loaded := true } } }
    | [], none => s

/-! ### The verdict (R123, R124) -/

/-- The first cycle boundary of a running list at or after `t` nanoseconds of its domain, in counter units. -/
def State.cycleAt (s : State) (n t : Nat) : Nat := alignStart t ((s.eport n).hurdle.cycle) (s.hlCycle n) * nsUnit

/-- The activation time of an accepted heat, or the code of a refusal (R123). A CYCLE heat whose port's list has stopped since the capture has no
cycle boundary to come and is refused with HEAT_NO_CYCLE (DESIGN CHOICE, log entry 145: the spec is silent). -/
def State.activationOf (s : State) (k : Checking) : Except Nat Nat :=
  let soon := s.clock k.domain + usT 50
  match k.mode with
  | 0 => if s.domainValid k.domain && k.time < soon then .error Code.HEAT_TOO_SOON else .ok k.time
  | 1 => .ok (s.time.tl + usT 50)
  | _ => if s.listRuns k.port then .ok (s.cycleAt k.port (ceilDiv soon nsUnit)) else .error Code.HEAT_NO_CYCLE

/-- The referee's registers after a check (R347, R349). -/
def State.reportVerdict (s : State) (k : Checking) (v : Verdict) : State :=
  let us := min ((s.time.tl - k.since) / usT 1) 0xFFFF
  let s1 := (((s.setF pgRef R.REF_VERDICT_CODE v.code).setF pgRef R.REF_VERDICT_CONTRACT (v.contract.getD 0)).setB pgRef
    R.REF_VERDICT_IN_CONTRACT v.contract.isSome).setB pgRef R.REF_VERDICT_AT_TRIM v.atTrim
  (((s1.setF pgRef R.REF_VBOUND v.vbound).setF pgRef R.REF_VDEADLINE v.vdeadline).setF pgRef R.REF_VTAG k.tag.toNat).setF pgRef
    R.REF_CHECK_US us

/-- Put a refused heat's changes back under those staged since (R123). -/
def State.restoreOpen (s : State) (c : Changes) : State :=
  let newer (r : TblRec) : Bool := keyed r.page && s.heat.opn.tbls.any fun x => x.page == r.page && x.key == r.key
  let s1 := (c.tbls.filter newer).foldl (fun t r => t.freeSlots r.newSlots) s
  let back := c.tbls.map fun r => if newer r then { r with newSlots := [] } else r
  let regs := s.heat.opn.regs.foldl (fun m e => mset m e.1 e.2) c.regs
  { s1 with heat := { s1.heat with opn := { regs := regs, tbls := back ++ s1.heat.opn.tbls } } }

/-- The heat under check is refused after its capture (R123). -/
def State.checkRefused (s : State) (k : Checking) (code : Nat) : State :=
  let s0 := { s with heat := { s.heat with checking := none } }
  let (s1, c) := s0.restoreTables k.chg k.loaded
  ((s1.restoreOpen c).heatRefused 1 code).raise pgHeat 0

/-- The heat under check ends without effect: its changes are those of the open heat again (R469). -/
def State.checkVoid (s : State) : State :=
  match s.heat.checking with
  | none => s
  | some k =>
    let (s1, c) := ({ s with heat := { s.heat with checking := none } }).restoreTables k.chg k.loaded
    s1.restoreOpen c

/-- The configurations before and after the heat under check (R347). -/
def State.checkedConfigs (s : State) (k : Checking) : State × State :=
  let b := s.afterArmed
  (b, b.wouldBe k.chg k.loaded)

/-- An armed heat whose time falls inside the spacing behind a late one, which ends at TL time `e`, is held to the end of it; another keeps its
time (R131). -/
def State.holdNext (s : State) (e : Nat) (h : Armed) : Armed :=
  if h.lateTime.isNone && s.time.tl < e && Nat.blt h.time (s.clock h.domain + (e - s.time.tl)) then
    { h with late := true, lateTime := some e, spaced := true }
  else h

/-- The check ends (R123, R124). The ready time of a heat captured behind armed ones is the verdict alone; another has none before its loading
has ended, and the step waits for it. -/
def State.endCheck (s : State) : State :=
  match s.heat.checking with
  | none => s
  | some k =>
    let (b, c) := s.checkedConfigs k
    let v := refVerdict b c k.chg (k.mode == 0) k.domain k.time
    if v.code != 0 then (s.reportVerdict k v).checkRefused k v.code
    else if !k.behind && !k.loaded then s
    else
      let s1 := s.reportVerdict k v
      match s1.activationOf k with
      | .error code => s1.checkRefused k code
      | .ok t =>
        let h : Armed := { tag := k.tag, chg := k.chg, domain := k.domain, time := t, loaded := k.loaded, late := false, lateTime := none
                           spaced := false, bounds := v.bounds }
        let h := match s1.heat.spacing with
          | some e => s1.holdNext e h
          | none => h
        let s2 := { s1 with heat := { s1.heat with checking := none, armed := s1.heat.armed ++ [h], latest := v.bounds } }
        (s2.heatResult 1 1).raise pgHeat 0

/-! ### What a swap starts -/

/-- A register of a page is among a heat's records. -/
def Changes.touches (c : Changes) (p : Nat) (offs : List Nat) : Bool := c.regs.any fun e => offs.any fun o => e.1 == regKey p o

/-- Shaper values whose change applies CHG_POLICY (R234). -/
def State.shaperValues (s : State) (n i : Nat) : List Nat :=
  s.keepPart n i ++ [s.fld (lanePage n) (R.CBS_IDLE i), s.fld (lanePage n) (R.PACER_RATE i)]

/-- Apply a flow pacer's policy where the heat changed its shaper values; a written entry's DROPPED starts at 0 (R216, R234). A pacer
that is off from now on passes the frames it holds straight on, ahead of those that come after them (R229). `a` is the state before the swap,
advanced to it. -/
def State.swapPacer (a s : State) (r : TblRec) : State :=
  let k := r.idx
  let old := (a.pairGet pgPacer k a.heat.liveE).getD 0
  let new_ := (s.pairGet pgPacer k s.heat.liveE).getD 0
  let same := fpEn old == fpEn new_ && fpRate old == fpRate new_ && fpBurst old == fpBurst new_ && fpOvh old == fpOvh new_
  let lv := if same then s.pacerLevels k else policyLevels (fpPolicy new_) (fpBurst new_) 0 (s.pacerLevels k)
  let s1 := { s with fwd := { s.fwd with pacerLv := mset s.fwd.pacerLv k { lv with last := s.tlNs }, pacerDrops := mdel s.fwd.pacerDrops k } }
  if fpEn new_ then s1 else (s1.pacerQ k).foldl (fun t x => t.admitBundle x x.cells) (s1.setPacerQ k [])

/-- What a swapped record of the classifier's tables resets: a filter's counters and BLOCKED (R217, R219), a gate's position and DROPPED
(R220), a meter's buckets (R224). -/
def State.swapClassifier (s : State) (r : TblRec) : State :=
  if r.page == pgFilter then
    let l := (r.newSlots ++ r.oldSlots).map (·.2)
    { s with fwd := { s.fwd with matched := mkeep s.fwd.matched fun i => !l.contains i, dropped := mkeep s.fwd.dropped fun i => !l.contains i
                                 blocked := s.fwd.blocked.filter fun i => !l.contains i } }
  else if r.page == pgGate then
    let s1 := { s with fwd := { s.fwd with gateDrops := mdel s.fwd.gateDrops r.idx } }
    match s1.pairGet pgGate r.idx s1.heat.liveE with
    | some e => s1.startGate r.idx e
    | none => s1
  else if r.page == pgMeter then
    match s.pairGet pgMeter r.idx s.heat.liveE with
    | some e => s.setMeter r.idx (Meter.full e s.tlNs ((s.meter r.idx e).allRed))
    | none => s
  else if r.page == pgTmon then s.startMonitor r.idx s.time.tl
  else s

/-- Registers of a channel that hold the settings of R248. -/
def timingOffs : List Nat := [0x040, 0x044, 0x048, 0x04C]

/-- The bit timing and format settings of a channel: all but CAN_CTRL's other bits. -/
def State.timingValues (s : State) (c : Nat) : List Nat :=
  let p := canPage c
  [(s.rd p 0x044).toNat, (s.rd p 0x048).toNat, (s.rd p 0x04C).toNat, s.fld p R.CAN_CTRL_FD_EN, s.fld p R.CAN_CTRL_XL_EN
  , s.fld p R.CAN_CTRL_TMS, s.fld p R.CAN_CTRL_XL_ERRS]

/-- Queue-owned frames in unlocked buffers that a heat makes host-owned return to the queue (DEDUCED, log entry 65). -/
def State.reclaim (s : State) (c : Nat) : State :=
  let k := s.chan c
  let out := k.bufs.filter fun e => s.hostOwned c e.1 && s.flag (canPage c) (R.TXB_CTRL_SRC e.1) && k.locked != some e.1
  let s1 := out.foldl (fun t e => t.clearTxb c e.1 0 false) s
  let k1 := s1.chan c
  s1.setChan c { k1 with queue := out.foldl (fun q e => insertBack q e.2) k1.queue }

/-- What the swap does at a CAN channel (R248, R252, R258). `a` is the state before. -/
def State.swapCan (a s : State) (c : Nat) : State :=
  let p := canPage c
  let was := a.flag p R.PAGE_CTRL_ENABLE
  let now := s.flag p R.PAGE_CTRL_ENABLE
  if was && !now then (s.dropHeld c Code.CAN_DISABLED fun _ => true).integrate c
  else
    let s := if !was && now then s.integrate c else s
    let k := s.chan c
    let s1 := if was && now && a.timingValues c != s.timingValues c && k.timing.isEmpty then
        s.setChan c { k with timing := timingOffs.map fun o => (o, a.rd p o) }
      else s
    let off (f : Fld) : Bool := a.flag p f && !s.flag p f
    let s2 := if off R.CAN_CTRL_FD_EN then s1.dropHeld c Code.CAN_FORMAT fun h => h.frame.fmt == 1 else s1
    let s3 := if off R.CAN_CTRL_XL_EN then s2.dropHeld c Code.CAN_FORMAT fun h => h.frame.fmt == 2 else s2
    (s3.reclaim c).refill c

/-- What the swap does at a LIN channel: a channel that is switched off leaves the bus; the idle time of one that is switched on, or whose
IDLE_SLEEP changes, starts (R280). `a` is the state before. -/
def State.swapLin (a s : State) (n : Nat) : State :=
  let p := linPage n
  let was := a.flag p R.PAGE_CTRL_ENABLE
  let now := s.flag p R.PAGE_CTRL_ENABLE
  if was && !now then
    let s1 := ((s.closeSlot n).stop (.linIdle n)).stop (.linResume n)
    (s1.setLin n { s1.linChan n with next := none, polls := [] }).setB p R.LIN_STAT_RUNNING false
  else if now && (!was || a.fld p R.LIN_CFG_IDLE_SLEEP != s.fld p R.LIN_CFG_IDLE_SLEEP) then s.linActivity n
  else s

/-- A pistol restarts where the heat carries a record for one of its staged registers (R335). -/
def pistolTouched (h : Changes) (p : Nat) : Bool :=
  h.touches pgPistol ((List.range 6).map fun k => 0x040 + 0x20 * p + 4 * k)

/-- A time-triggered schedule restarts where the heat carries a record for its header or entries (R342). -/
def ttTouched (h : Changes) (c : Nat) : Bool :=
  h.tbls.any fun r => r.page == pgTt && (r.idx == ttHeader c || r.idx / 16 == c)

/-- A heat changes SPEED, MODE or AN_EN of a port (R138). -/
def laneTouched (a s : State) (n : Nat) : Bool :=
  a.speed n != s.speed n || a.laneMode n != s.laneMode n
    || (n < 24 && a.flag (0x060 + n) R.LANE_CFG_AN_EN != s.flag (0x060 + n) R.LANE_CFG_AN_EN)

/-- Everything that a swap starts or restarts. `a` is the state before the swap with its shapers advanced to it; `h` the heat. -/
def State.afterSwap (a : State) (h : Changes) (s : State) : State :=
  let ports := List.range 28
  let lanes := ports.flatMap fun n => (List.range 8).map fun i => (n, i)
  let s1 := lanes.foldl (fun t x => if a.shaperValues x.1 x.2 == t.shaperValues x.1 x.2 then t else t.applyPolicy x.1 x.2) s
  let s2 := (h.tbls.filter fun r => r.page == pgPacer && lastOf h.tbls r).foldl (fun t r => a.swapPacer t r) s1
  let s3 := ports.foldl (fun t n => if restartsList h t n then t.restartList n else t) s2
  let s4 := ports.foldl (fun t n => if laneTouched a t n then t.restartLane n else t) s3
  let s4a := ports.foldl (fun t n => a.swapMerge t n) s4
  let s4b := (List.range 4).foldl (fun t i => a.swapPlca t i) s4a
  let s5 := (h.tbls.filter (lastOf h.tbls)).foldl State.swapClassifier s4b
  let s6 := (List.range 12).foldl (fun t n => a.swapLin t n) ((List.range 48).foldl (fun t c => a.swapCan t c) s5)
  let s7 := (List.range 16).foldl (fun t p => if pistolTouched h p then a.restartPistol t p else t) s6
  (List.range 48).foldl (fun t c => if ttTouched h c then t.startTt c else t) s7

/-- Bring every shaper to the present under the old values (R234). -/
def State.advanceShapers (s : State) : State :=
  let s1 := (List.range 28).foldl (fun t n => t.advancePort n) s
  (s1.liveEntries pgPacer).foldl (fun t e => t.advancePacer e.1 e.2) s1

/-! ### The swap (R127) -/

/-- A heat goes live late under R131, by its domain having been invalid: only such a heat has a spacing of its own behind it. -/
def Armed.startsSpacing (h : Armed) : Bool := h.lateTime.isSome && !h.spaced

/-- Heat `h`, the first of the armed heats, goes live. -/
def State.goLive (s : State) (h : Armed) : State :=
  let a := s.advanceShapers
  let old := h.chg.regs.map fun e => (e.1, a.rd (e.1 / 4096) (e.1 % 4096))
  let s1 := a.swapConfig h.chg
  let rest := if h.startsSpacing then (s.heat.armed.drop 1).map (s.holdNext (s.time.tl + msT 1)) else s.heat.armed.drop 1
  let act := if h.late then s.clock h.domain else h.time
  let digest := nextHeatDigest s.key.heatDigest h.tag.toNat act (heatRecords h.chg)
  let s2 := { s1 with
    heat := { s1.heat with
      armed := rest, spacing := if h.startsSpacing then some (s.time.tl + msT 1) else s1.heat.spacing, live := h.tag, settling := some (h.chg, s.time.tl), old := old, bounds := h.bounds
      actAt := (h.domain, act, s.time.tl) }
    key := { s1.key with heatDigest := digest } }
  let s3 := (List.range 4).foldl (fun u k => u.settleGm k) (a.afterSwap h.chg s2)
  let s4 := (s3.setF pgHeat R.HEAT_STAT_RESULT 5).raise pgHeat 1
  let s5 := if h.late then s4.raise pgHeat 3 else s4
  let s6 := s5.record { type := 2, page := pgHeat, tl := 0, tsInvalid := false, code := 0, arg0 := h.domain, arg1 := h.tag.toNat
                        arg2 := b2n h.late, payload := timeTriple act ++ [0] }
  let s7 := reportMode 7 s s6.serviceAtHeat
  let s8 := if s.mode.service == .halt then s7.startMonitors else s7
  s8.updateContracts

/-- The activation time of an armed heat has come: its valid domain has reached it, or a step has carried the domain past it (R127, R130). -/
def State.timeCome (s : State) (h : Armed) : Bool := h.stepped || (s.domainValid h.domain && Nat.ble h.time (s.clock h.domain))

/-- HEAT_SWAP: the first armed heat is loaded and its activation time has come. -/
def State.heatSwap (s : State) : State :=
  match s.heat.armed with
  | h :: _ =>
    if h.loaded && h.lateTime.isNone && s.timeCome h then s.goLive h else s
  | [] => s

/-- HEAT_LATE_RELEASE: the first armed heat is loaded and its late activation time has come (R131). -/
def State.heatLate (s : State) : State :=
  match s.heat.armed with
  | h :: _ =>
    match h.lateTime with
    | some t => if h.loaded && t ≤ s.time.tl then s.goLive h else s
    | none => s
  | [] => s

/-! ### Settling (R129, R133, R185) -/

/-- Frames and PDUs of the old epoch that have not made their per-frame decisions. A PDU of H0 on its way to the relay engine has no epoch yet
(R286). -/
def State.oldWork (s : State) : Bool :=
  let x := s.heat.liveE
  s.fwd.classQ.any (·.epoch != x) || s.fwd.lookQ.any (·.epoch != x) || s.fwd.acfIn.any (fun p => p.2.epoch != x)
    || s.relay.coming.any (fun p => p.src != 60 && p.epoch != x) || s.relay.inq.any (·.epoch != x)
    || s.eth.asm.any (fun e => e.2.epoch != x && !e.2.stale)
    || s.relay.waiting.any (fun w => w.copy.epoch != x)

/-- Drop what of the old epoch is still undecided, with EPOCH_STALE (R129); RELAY counts what it drops (R307). -/
def State.dropStale (s : State) : State :=
  let x := s.heat.liveE
  let n := (s.fwd.classQ.filter (·.epoch != x)).length + (s.fwd.lookQ.filter (·.epoch != x)).length
    + (s.fwd.acfIn.filter fun p => p.2.epoch != x).length + (s.eth.asm.filter fun e => e.2.epoch != x && !e.2.stale).length
  let r := (s.relay.coming.filter fun p => p.src != 60 && p.epoch != x).length + (s.relay.inq.filter (·.epoch != x)).length
    + (s.relay.waiting.filter fun w => w.copy.epoch != x).length
  let s1 := { s with
    fwd := { s.fwd with classQ := s.fwd.classQ.filter (·.epoch == x), lookQ := s.fwd.lookQ.filter (·.epoch == x)
                        acfIn := s.fwd.acfIn.filter fun p => p.2.epoch == x }
    eth := { s.eth with asm := s.eth.asm.map fun (e : Nat × Assembly) => (e.1, { e.2 with stale := e.2.stale || e.2.epoch != x }) }
    relay := { s.relay with coming := s.relay.coming.filter (fun p => p.src == 60 || p.epoch == x)
                            waiting := s.relay.waiting.filter fun w => w.copy.epoch == x } }
  let s2 := s1.setInq (s.relay.inq.filter (·.epoch == x))
  let s3 := (List.range n).foldl (fun t _ => t.drop Code.EPOCH_STALE) s2
  if r == 0 then s3 else s3.relayDrops Code.EPOCH_STALE r

/-- HEAT_SETTLE: nothing of the old epoch remains, or its 100 µs are over. -/
def State.heatSettle (s : State) : State :=
  match s.heat.settling with
  | none => s
  | some (c, t) =>
    if s.oldWork && s.time.tl < t + usT 100 then s
    else
      let s1 := s.dropStale.settleTables c
      let s2 := { s1 with heat := { s1.heat with settling := none, old := [] } }
      s2.poweredSlices.foldl (fun u i => u.purgeSettled i) s2

/-! ### Abort and discard (R120, R134) -/

/-- Empty the open heat. -/
def State.emptyOpen (s : State) : State :=
  let s1 := s.releaseOpen s.heat.opn
  { s1 with heat := { s1.heat with opn := Changes.empty } }

/-- DISCARD. -/
def State.heatDiscard (s : State) : State × Nat :=
  if s.heat.checking.isSome then (s.heatRefused 3 Code.HEAT_BUSY, Code.HEAT_BUSY) else (s.emptyOpen.heatResult 3 4, 0)

/-- R131 holds an armed heat behind a late one that has not gone live, and its own late time is not fixed. -/
def State.heldBehind (s : State) (h : Armed) : Bool :=
  match s.heat.armed with
  | f :: _ =>
    match f.lateTime with
    | some t => f.startsSpacing && f.tag != h.tag && h.lateTime.isNone && Nat.blt h.time (s.clock h.domain + (t - s.time.tl) + msT 1)
    | none => false
  | [] => false

/-- An armed heat lies at least 20 µs ahead (R134). -/
def State.liesAhead (s : State) (h : Armed) : Bool :=
  match h.lateTime with
  | some t => Nat.ble (s.time.tl + usT 20) t
  | none => !s.domainValid h.domain || s.heldBehind h || Nat.ble (s.clock h.domain + usT 20) h.time

/-- ABORT of the heat whose tag is in HEAT_TAG. -/
def State.heatAbort (s : State) : State × Nat :=
  let tag := s.rd pgHeat R.HEAT_TAG.off
  if s.heat.checking.isSome then (s.heatRefused 2 Code.HEAT_BUSY, Code.HEAT_BUSY)
  else
    match s.heat.armed.find? fun h => h.tag == tag with
    | none => (s.heatRefused 2 Code.HEAT_UNKNOWN_TAG, Code.HEAT_UNKNOWN_TAG)
    | some h =>
      if !s.liesAhead h then (s.heatRefused 2 Code.HEAT_ABORT_LATE, Code.HEAT_ABORT_LATE)
      else
        let kept := s.heat.armed.takeWhile fun x => x.tag != tag
        let gone := s.heat.armed.dropWhile fun x => x.tag != tag
        let s1 := gone.foldr (fun x t => t.unloadTables x.chg x.loaded) s
        let s2 := { s1 with heat := { s1.heat with armed := kept } }
        ((s2.emptyOpen.heatResult 2 3).raise pgHeat 2, 0)

/-- A write of HEAT_CMD. -/
def State.heatCmd (s : State) (m : Master) (v : Word) : State × Nat :=
  match getBits v 2 0 with
  | 1 => s.heatCommit m
  | 2 => s.heatAbort
  | 3 => s.heatDiscard
  | _ => (s, 0)

end Sys2Proof.Machine
end

