-- ==== Sys2Proof/Machine/Wake.lean ====
section
/-! DEFINITION. The wake controller (chapter 15): wake inputs with debounce, chatter hold-off and stuck detection (R446 to R451), the CAN
partial-network filters (R452, R453), T1S wake signals (R454) and what a wake event does (R456, R459, R460). -/

namespace Sys2Proof.Machine

def pgWake : Nat := 0x1D0
def pgWakeIn : Nat := 0x1D1
def pgPnf : Nat := 0x1D2
def pgT1sWake : Nat := 0x1D3

/-! ### Wake events -/

/-- The WAKE_PEND bit of a source, KIND and INDEX of WAKE_CAUSE, its WUF and FEC_OVF bits, and WAKE_ID. -/
def WakeSource.pend : WakeSource → Nat
  | .input n => n.val
  | .wup _ => 16
  | .wuf _ _ _ => 16
  | .fecOverflow _ => 16
  | .t1s _ => 17
  | .power => 18

def WakeSource.cause : WakeSource → Nat
  | .input n => 1 + n.val * 2 ^ 4
  | .wup c => 2 + c.val * 2 ^ 4
  | .wuf c _ _ => 2 + c.val * 2 ^ 4 + 2 ^ 10
  | .fecOverflow c => 2 + c.val * 2 ^ 4 + 2 ^ 11
  | .t1s i => 3 + i.val * 2 ^ 4
  | .power => 4

def WakeSource.id : WakeSource → Nat
  | .wuf _ ide id => id.toNat + b2n ide * 2 ^ 29
  | _ => 0

/-- Drive PWR_REQ (R74). -/
def State.pwrReq (s : State) (high : Bool) : State :=
  if s.flag 1 R.PWR_STAT_PWR_REQ == high then s
  else (s.setB 1 R.PWR_STAT_PWR_REQ high).emit (.pin .pwrReq high)

/-- The exit sequence begins: PWR_REQ rises, and a PG line is awaited for PG_WAIT (R460). -/
def State.startExit (s : State) : State :=
  let s1 := s.pwrReq true
  ({ s1 with mode := { s1.mode with rest := .waking } }).start .pgWait (msT (atLeast1 (s.fld pgWake R.REST_CFG_PG_WAIT)))

/-- A source acts (R456): its WAKE_PEND bit; from the REST request on, the first event leaves its cause; in REST the exit starts. -/
def State.wakeEvent (s : State) (w : WakeSource) : State :=
  let p := s.fld pgWake R.WAKE_PEND
  let s1 := s.setF pgWake R.WAKE_PEND (if bit p (WakeSource.pend w) then p else p + 2 ^ WakeSource.pend w)
  if s.mode.rest == .awake then s1
  else
    let s2 := if s.mode.wakeSeen then s1 else
      ((((s1.wr pgWake R.WAKE_CAUSE_KIND.off (BitVec.ofNat 32 (WakeSource.cause w))).wr pgWake R.WAKE_ID_ID.off
        (BitVec.ofNat 32 (WakeSource.id w))).setF pgWake R.WAKE_TL_NS (timeNs s.time.tl)).setF pgWake R.WAKE_TL_SEC (timeSec s.time.tl))
    let s3 := { s2 with mode := { s2.mode with wakeSeen := true } }
    if s.mode.rest == .asleep then s3.startExit else s3

/-! ### Inputs -/

def State.wkRole (s : State) (n : Nat) : Nat := s.fld pgWakeIn (R.WK_CFG_ROLE n)
def State.wkLevel (s : State) (n : Nat) : Bool := s.flag pgWakeIn (R.WK_STAT_LEVEL n)
def State.wkRaw (s : State) (n : Nat) : Bool := s.flag pgWakeIn (R.WK_STAT_RAW n)
def State.wkMasked (s : State) (n : Nat) : Bool := s.flag pgWakeIn (R.WK_STAT_MASKED n)

/-- The input is watched: in use and no output (R447; log entry 71). -/
def State.wkWatched (s : State) (n : Nat) : Bool := s.flag pgWakeIn (R.WK_CFG_EN n) && s.wkRole n != 3

/-- The level that the debounce compares RAW with: LEVEL, or in a hold-off the level that LEVEL will take. -/
def State.wkDebounced (s : State) (n : Nat) : Bool := if s.wkMasked n then (mget s.wake.shadow n).getD (s.wkLevel n) else s.wkLevel n

/-- A change to `active` is one that EDGES selects (R450). -/
def State.wkSelects (s : State) (n : Nat) (active : Bool) : Bool :=
  match s.fld pgWakeIn (R.WK_CFG_EDGES n) with
  | 0 => active
  | 1 => !active
  | _ => true

/-- STUCK_TIME in units of the counters (R449). -/
def State.stuckTime (s : State) (n : Nat) : Nat := msT (100 * min 864000 (atLeast1 (s.fld pgWakeIn (R.WK_STUCK_STUCK_TIME n))))

/-- Put LEVEL, with what the stuck detection makes of it (R449). -/
def State.putLevel (s : State) (n : Nat) (v : Bool) : State :=
  let s1 := s.setB pgWakeIn (R.WK_STAT_LEVEL n) v
  if v then (if s.wkLevel n then s1 else s1.start (.stuck n) (s.stuckTime n))
  else (s1.stop (.stuck n)).setB pgWakeIn (R.WK_STAT_STUCK n) false

/-- The activation line changed (R50, R451). -/
def State.lineChanged (s : State) (active : Bool) : State :=
  if s.mode.power == .rest then s
  else
    match s.mode.service with
    | .run => if active then s.serviceTo .diagnose else s
    | .diagnose =>
      if active then s.stop .diagExit
      else s.start .diagExit (msT (100 * atLeast1 (s.fld 0 R.DEV_MODE_CFG_DIAG_EXIT_HOLD)))
    | _ => s.evalDiag

/-- A reported change of LEVEL (R446, R449 to R451). -/
def State.reportLevel (s : State) (n : Nat) (v : Bool) : State :=
  let s1 := (s.putLevel n v).raise pgWakeIn n
  let s2 := if s.wkRole n == 1 then reportMode 6 s1 (s1.lineChanged v) else s1
  if s.wkSelects n v then s2.wakeEvent (.input (Fin.ofNat 16 n)) else s2

/-- RAW has held its level for DEBOUNCE (R446). In a hold-off only the level to come changes (R448). -/
def State.debounced (s : State) (n : Nat) : State :=
  let s1 := s.stop (.debounce n)
  if !s.wkWatched n || s.wkRaw n == s.wkDebounced n then s1
  else if s.wkMasked n then { s1 with wake := { s1.wake with shadow := mset s1.wake.shadow n (s.wkRaw n) } }
  else s1.reportLevel n (s.wkRaw n)

/-- Count a change of RAW toward chatter (R448). -/
def State.countChatter (s : State) (n : Nat) : State :=
  let open_ : Bool := s.running (.chatter n) && !s.due (.chatter n)
  let edges := if open_ then (mget s.wake.edges n).getD 0 + 1 else 1
  let s1 := { s with wake := { s.wake with edges := mset s.wake.edges n edges } }
  let s2 := if open_ then s1 else
    s1.start (.chatter n) (msT (10 * atLeast1 (s.fld pgWakeIn (R.WK_LIM_CHATTER_WINDOW n))))
  let limit := s.fld pgWakeIn (R.WK_LIM_CHATTER_EDGES n)
  if limit == 0 || edges ≤ limit || s.wkMasked n then s2
  else
    let s3 := { s2 with wake := { s2.wake with shadow := mset s2.wake.shadow n (s.wkLevel n) } }
    let s4 := (s3.setB pgWakeIn (R.WK_STAT_MASKED n) true).setB pgWakeIn (R.WK_STAT_CHATTER_HIT n) true
    ((s4.raise pgWakeIn 17).captureInternal pgWakeIn (0x10C + 16 * n) Code.WAKE_CHATTER).start (.holdoff n)
      (msT (100 * atLeast1 (s.fld pgWakeIn (R.WK_LIM_HOLDOFF n))))

/-- The filtered level of ball WAKEn is `ball` from now on (R446). -/
def State.rawChange (s : State) (n : Nat) (ball : Bool) : State :=
  let raw := ball != s.flag pgWakeIn (R.WK_CFG_POL n)
  if raw == s.wkRaw n then s
  else
    let s1 := s.setB pgWakeIn (R.WK_STAT_RAW n) raw
    if !s.wkWatched n then s1
    else
      let s2 := s1.countChatter n
      if raw == s2.wkDebounced n then s2.stop (.debounce n)
      else
        let d := s.fld pgWakeIn (R.WK_CFG_DEBOUNCE n)
        if d == 0 then s2.debounced n else s2.start (.debounce n) (msT d)

/-- The hold-off ends (R448): LEVEL is loaded without a report. Where that changes the level of the activation line, the service axis
follows (DEDUCED, log entry 138). -/
def State.holdoffEnd (s : State) (n : Nat) : State :=
  let v := s.wkDebounced n
  let s1 := (s.stop (.holdoff n)).setB pgWakeIn (R.WK_STAT_MASKED n) false
  let s2 := { s1.putLevel n v with wake := { s1.wake with shadow := mdel s1.wake.shadow n } }
  reportMode 6 s2 (if s.wkRole n == 1 && s.wkLevel n != v then s2.lineChanged v else s2)

/-- The input is disarmed (R449); one that is no longer watched is not. -/
def State.stuckComes (s : State) (n : Nat) : State :=
  if !s.wkWatched n then s.stop (.stuck n)
  else
  let s1 := ((s.stop (.stuck n)).setB pgWakeIn (R.WK_STAT_STUCK n) true).setB pgWakeIn (R.WK_STAT_STUCK_HIT n) true
  (s1.raise pgWakeIn 16).captureInternal pgWakeIn (0x10C + 16 * n) Code.WAKE_STUCK

/-- A write of WK_CFG of input `n` (R446, R447). -/
def State.wkCfg (s : State) (n : Nat) (v : Word) : State × Nat :=
  let second : Bool := getBits v 3 2 == 1 && (List.range 16).any fun k => k != n && s.wkRole k == 1
  if second then (s, Code.WAKE_CFG_BAD)
  else
    let s1 := s.wr pgWakeIn (R.WK_CFG_EN n).off (v &&& 0x3FFF)
    let en : Bool := !s.flag pgWakeIn (R.WK_CFG_EN n) && s1.flag pgWakeIn (R.WK_CFG_EN n)
    let pol : Bool := s.flag pgWakeIn (R.WK_CFG_POL n) != s1.flag pgWakeIn (R.WK_CFG_POL n)
    let role : Bool := s.wkRole n != s1.wkRole n
    let s2 :=
      if en || pol || role then
        let raw : Bool := s.wkRaw n != pol
        let t := (((s1.stop (.debounce n)).stop (.chatter n)).stop (.holdoff n)).stop (.stuck n)
        let t1 := (t.setB pgWakeIn (R.WK_STAT_MASKED n) false).setB pgWakeIn (R.WK_STAT_STUCK n) false
        let t2 := { t1 with wake := { t1.wake with edges := mdel t1.wake.edges n, shadow := mdel t1.wake.shadow n } }
        let t3 := (t2.setB pgWakeIn (R.WK_STAT_RAW n) raw).setB pgWakeIn (R.WK_STAT_LEVEL n) raw
        if raw && t3.wkWatched n then t3.start (.stuck n) (t3.stuckTime n) else t3
      else s1
    let s3 := reportMode 6 s2 s2.evalDiag
    let gone : Bool := s3.mode.service == .diagnose && !s3.activation && !s3.running .diagExit
    (if gone then s3.lineChanged false else s3, 0)

/-! ### Partial-network filters -/

def State.pnMode (s : State) (c : Nat) : Nat := s.fld pgPnf (R.PN_CFG_MODE c)

/-- A wake-up pattern (R452). -/
def State.pnWup (s : State) (c : Fin 48) : State :=
  let m := s.pnMode c.val
  if m == 1 || m == 3 then (s.setB pgPnf (R.PN_STAT_MATCHED c.val) true).wakeEvent (.wup c) else s

/-- A frame is of the wake form of filter `c` (R452). -/
def State.pnMatches (s : State) (c : Nat) (ide : Bool) (id dlc : Nat) (data : List Byte) : Bool :=
  let n := if ide then 29 else 11
  let mask := s.fld pgPnf (R.PN_MASK c)
  let differ := (Nat.xor id (s.fld pgPnf (R.PN_ID c)) &&& mask) % 2 ^ n
  let dm := leBytes (s.fld pgPnf (R.PN_DMASK_LO c) + s.fld pgPnf (R.PN_DMASK_HI c) * 2 ^ 32) 8
  let len := min dlc 8
  let hit : Bool := (List.range len).any fun i => (data.getD i 0 &&& dm.getD i 0) != 0
  differ == 0 && s.flag pgPnf (R.PN_CFG_IDE c) == ide
    && (!s.flag pgPnf (R.PN_CFG_DATA_CHK c) || (len == min (s.fld pgPnf (R.PN_CFG_DLC c)) 8 && hit))

/-- A filter decodes a valid Classical data frame at its CRC delimiter (R452, R453). Under ANY the pattern of R452 came before. -/
def State.pnWuf (s : State) (c : Fin 48) (ide : Bool) (id : BitVec 29) (dlc : Nat) (data : List Byte) : State :=
  let m := s.pnMode c.val
  if m < 2 then s
  else
    let s1 := s.setF pgPnf (R.PN_STAT_FEC c.val) (s.fld pgPnf (R.PN_STAT_FEC c.val) - 1)
    if m == 2 && s.pnMatches c.val ide id.toNat dlc data then
      (s1.setB pgPnf (R.PN_STAT_MATCHED c.val) true).wakeEvent (.wuf c ide id)
    else s1

/-- A frame error, or an FD or CAN XL frame where `fd` (R453). -/
def State.pnError (s : State) (c : Fin 48) (fd : Bool) : State :=
  if s.pnMode c.val < 2 || (fd && s.flag pgPnf (R.PN_CFG_FD_TOLERANT c.val)) then s
  else
    let n := s.fld pgPnf (R.PN_STAT_FEC c.val)
    if n < 31 then s.setF pgPnf (R.PN_STAT_FEC c.val) (n + 1)
    else if s.flag pgPnf (R.PN_CFG_ERR_WAKE c.val) then s.wakeEvent (.fecOverflow c)
    else s

/-- A wake signal on a T1S segment, from the REST request on (R454, R458). -/
def State.t1sWake (s : State) (i : Fin 4) : State :=
  if s.mode.rest != .awake && s.flag pgT1sWake (R.T1S_WAKE_CFG_WAKE_EN i.val) then s.wakeEvent (.t1s i) else s

/-- The settings of a source let it act (R450, R452 to R454, R460). -/
def State.sourceArmed (s : State) (w : WakeSource) : Bool :=
  match w with
  | .input n => s.wkWatched n.val
  | .wup c => s.pnMode c.val == 1 || s.pnMode c.val == 3
  | .wuf c _ _ => s.pnMode c.val == 2
  | .fecOverflow c => 2 ≤ s.pnMode c.val && s.flag pgPnf (R.PN_CFG_ERR_WAKE c.val)
  | .t1s i => s.flag pgT1sWake (R.T1S_WAKE_CFG_WAKE_EN i.val) && s.mode.rest != .awake
  | .power => s.flag pgWake R.REST_CFG_PWR_WAKE && s.mode.rest != .awake

/-- A wake event named by its source. -/
def State.wakeBy (s : State) (w : WakeSource) : State := if s.sourceArmed w then s.wakeEvent w else s

/-! ### The exit sequence -/

/-- PG_WAIT passes with no PG line high (R460). -/
def State.noPower (s : State) : State :=
  let s1 := ({ s with mode := { s.mode with rest := .asleep } }).stop .pgWait
  let s2 := ((s1.pwrReq false).count pgWake R.NO_POWER_CNT).raise pgWake 1
  s2.captureInternal pgWake R.WAKE_CAUSE_KIND.off Code.WAKE_NO_POWER

/-- The PHY_WAKE_OUT pulses start (R447). -/
def State.phyWakeStart (s : State) : State :=
  ((List.range 16).filter fun n => s.flag pgWakeIn (R.WK_CFG_EN n) && s.wkRole n == 3).foldl
    (fun t n => (t.emit (.pin (.wake n) (!s.flag pgWakeIn (R.WK_CFG_POL n)))).start (.phyWake n) (msT 1)) s

/-- A PHY_WAKE_OUT pulse ends. -/
def State.phyWakeEnd (s : State) (n : Nat) : State :=
  (s.stop (.phyWake n)).emit (.pin (.wake n) (s.flag pgWakeIn (R.WK_CFG_POL n)))

end Sys2Proof.Machine
end

