-- ==== Sys2Proof/Machine/Power.lean ====
section
/-! DEFINITION. Supplies, droop and temperature, clocks and PLLs (chapter 03), FAULT_N (R466, R467), and how a shed or reset domain comes
back (R47, R81, R92). -/

namespace Sys2Proof.Machine

/-! ### FAULT_N -/

def FaultState.fixed (f : FaultState) : Nat :=
  b2n f.droopCrit + 2 * b2n f.thermCrit + 4 * b2n f.refclkLost + 8 * b2n f.tlSplit + 16 * b2n f.boot + 32 * b2n f.lockstep + 64 * b2n f.unserved

/-- An active source with FAULT = 1; while PD3 is off only the fixed conditions act. -/
def State.faultRouted (s : State) : Bool :=
  s.on 3 && (List.range 0x1F0).any fun k => s.flag pgAggRoute (R.AGG_ROUTE_FAULT k) && s.sourceActive k

def State.faultForced (s : State) : Bool := s.on 3 && s.flag pgAggCtrl R.FAULT_CTRL_FORCE

/-- A fault condition holds. -/
def State.faultHeld (s : State) : Bool := s.fault.fixed != 0 || s.faultRouted || s.faultForced

/-- FAULT_N is released: no condition holds and its 1 ms is over (R467). -/
def State.faultRelease (s : State) : State :=
  if !s.fault.pin || s.faultHeld || (s.running .faultMin && !s.due .faultMin) then s
  else ({ s with fault := { s.fault with pin := false } }.stop .faultMin).emit (.pin .faultN true)

/-- A fixed condition begins (R466 to R468, R494): FAULT_N, a FAULT record, and the capture where the code has a page. -/
def State.fixedFault (s : State) (page addr code : Nat) : State := ((s.assertFaultN).captureInternal page addr code).faultRecord page addr code

/-! ### The reset pins and the boot -/

/-- The device is out of power-on reset. -/
def State.alive (s : State) : Bool := !s.boot.porstLow && !s.boot.internalPor

/-- The boot is past its fuse and PLL steps, or was no power-on boot: PD1 and PD2 are released and time counts. -/
def State.released (s : State) : Bool :=
  s.alive && !(s.boot.kind == .powerOn && (s.boot.step == .held || s.boot.step == .fuses || s.boot.step == .plls))

/-- The power axis is settled: the boot is past the step that samples PG_MAIN and PG_BAK. A supply that fails before is found at that step
(DEDUCED from R99, log entry 136). -/
def State.settled (s : State) : Bool :=
  s.alive && (s.boot.step == .domainMbist || s.boot.step == .measure || s.boot.step == .halt || s.boot.step == .done)

/-- The main rails feed PD3 to PD15. -/
def State.mainOn (s : State) : Bool := s.alive && s.mode.power != .rest

/-! ### Droop and temperature -/

/-- A droop sensor below its threshold (R42, R83). -/
def State.droop (s : State) : State :=
  if !s.mainOn then s
  else
    let s1 := s.setB 2 R.THERM_STAT_DROOP_NOW true
    reportMode 1 s ({ s1 with mode := { s1.mode with trimDroop := true } }).evalTrim

/-- A sensor below 0.680 V for 1 µs (R84). -/
def State.droopLow (s : State) : State :=
  if !s.mainOn || s.fault.droopCrit then s
  else { (s.fixedFault 2 R.THERM_STAT_TJ_MAX.off Code.DROOP_CRIT) with fault :=
    { (s.fixedFault 2 R.THERM_STAT_TJ_MAX.off Code.DROOP_CRIT).fault with droopCrit := true } }

/-- The sensors rise: above 0.680 V the fault condition ends; where all are above their threshold + 10 mV (`clear`) the TRIM cause ends
(R83, R466). -/
def State.droopOver (s : State) (clear : Bool) : State :=
  let s0 := { s with fault := { s.fault with droopCrit := false } }
  if !clear then s0
  else
  let s2 := (s0.setB 2 R.THERM_STAT_DROOP_NOW false)
  reportMode 1 s ({ s2 with mode := { s2.mode with trimDroop := false } }).evalTrim

/-- A value limited to a range. -/
def within (x lo hi : Nat) : Nat := max lo (min x hi)

/-- The hottest of the sensors and its number, the lowest of those that share the reading. -/
def hottest (t : Int) (l : List Int) : Int × Nat :=
  (l.zipIdx).foldl (fun a e => if e.1 > a.1 then (e.1, e.2 + 1) else a) (t, 0)

/-- A sample of the 8 thermal sensors, in °C (R85, R86). TJ_MAX shows the low 8 bits of the hottest; the thresholds compare the reading
itself (log entry 87). -/
def State.thermal (s : State) (l : List Int) : State :=
  if !s.mainOn || l.length != 8 then s
  else
    let (t, k) := hottest (l.headD 0) l.tail
    let trim : Int := within (s.fld 2 R.PWR_SENSE_CFG_THERM_TRIM) 85 125
    let hyst : Int := atLeast1 (s.fld 2 R.PWR_SENSE_CFG_THERM_HYST)
    let crit : Int := within (s.fld 2 R.PWR_SENSE_CFG_THERM_CRIT) 120 140
    let above : Bool := if trim ≤ t then true else if t < trim - hyst then false else s.flag 2 R.THERM_STAT_ABOVE_TRIM
    let hot : Bool := crit ≤ t
    let s1 := (s.setF 2 R.THERM_STAT_TJ_MAX (unsigned t 8)).setF 2 R.THERM_STAT_HOT_SENSOR k
    let s2 := (s1.setB 2 R.THERM_STAT_ABOVE_TRIM above).setB 2 R.THERM_STAT_ABOVE_CRIT hot
    let s3 := if hot && !s.fault.thermCrit then s2.fixedFault 2 R.THERM_STAT_TJ_MAX.off Code.THERM_CRIT else s2
    let s4 := { s3 with fault := { s3.fault with thermCrit := hot } }
    reportMode 2 s ({ s4 with mode := { s4.mode with trimThermal := above } }).evalTrim

/-- TRIM_HOLD has passed with no cause (R42). -/
def State.trimOver (s : State) : State :=
  if s.due .trimHold && s.mode.power == .trim && !s.trimCause then
    (((s.stop .trimHold).modeTo 11 fun m => { m with power := .full })).testResume
  else s

/-- A write of TRIM_REQ (R42). -/
def State.askTrim (s : State) (on : Bool) : State := reportMode 3 s (s.setB 0 R.DEV_MODE_REQ_TRIM_REQ on).evalTrim

/-! ### Power-good -/

def State.setPg (s : State) (main bak : Bool) : State := (s.setB 1 R.PWR_STAT_PG_MAIN main).setB 1 R.PWR_STAT_PG_BAK bak

/-- PG_MAIN is low: it must be high for PG_HOLD from now on before LEAN ends (R42, DEV_MODE_CFG.PG_HOLD). -/
def State.pgLow (s : State) : State := s.start .pgHold (msT (atLeast1 (s.fld 0 R.DEV_MODE_CFG_PG_HOLD)))

/-- PG_MAIN falls while PG_BAK is high (R42, R45). Before the boot samples the lines it only shows its level (log entry 136). -/
def State.pgMainLost (s : State) : State :=
  let s1 := (s.setPg false true).pgLow
  if s.settled && (s.mode.power == .full || s.mode.power == .trim) then s1.enterLean else s1

/-- PG_MAIN has been high for PG_HOLD (R42, R43): not before that time has passed since it was last low (log entry 136). -/
def State.pgMainBack (s : State) : State :=
  if s.running .pgHold && !s.due .pgHold then s
  else
    let s1 := (s.stop .pgHold).setB 1 R.PWR_STAT_PG_MAIN true
    if s.settled && s.mode.power == .lean then s1.leaveLean.testResume else s1

/-- PG_MAIN and PG_BAK are both low (R42, R458). -/
def State.supplyLost (s : State) : State :=
  let s1 := (s.setPg false false).pgLow
  if s.settled && s.mode.power != .rest then s1.forceRest else s1

/-! ### Domains -/

/-- A T1S port sends its wake signal once PD11 is powered at a REST exit (R454). -/
def State.t1sWakeOut (s : State) : State :=
  (List.range 4).foldl (fun t i =>
    if t.flag pgT1sWake (R.T1S_WAKE_CFG_WAKE_TX i) then t.emit (.pulse (.t1sActivity i) 1000) else t) s

/-- Gates start their cycles, meters are full: the classifier comes up under the live heat. -/
def State.restoreClassifier (s : State) : State :=
  (s.liveEntries pgGate).foldl (fun t e => t.startGate e.1 e.2) s

/-- The flow pacers come up with no tokens (R244). -/
def State.zeroPacers (s : State) : State :=
  (s.liveEntries pgPacer).foldl (fun t e =>
    { t with fwd := { t.fwd with pacerLv := mset t.fwd.pacerLv e.1 { tok := 0, cr := 0, last := t.tlNs } } }) s

/-- Domain `d` has its configuration again and its ports are enabled (R47, R92). -/
def State.restoreDomain (s : State) (d : Nat) : State :=
  if !s.power.restoring.contains d || s.fault.lockstep then s
  else
    let s1 := { s with power := { s.power with restoring := s.power.restoring.filter (· != d) } }
    if 5 ≤ d && d ≤ 7 then s1.sliceOn (d - 5)
    else if d == 8 then s1.restoreClassifier
    else if d ≤ 11 then
      let s2 := ((List.range 28).filter fun n => portDomain n == d).foldl (fun t n =>
        let u := t.zeroLanes n
        if u.hlEn n then u.restartList n else u) s1
      if d == 10 then s2.zeroPacers else s2
    else if d ≤ 13 then
      let s2 := (List.range 48).foldl (fun t c =>
        if pageDomain (canPage c) == d && t.flag (canPage c) R.PAGE_CTRL_ENABLE then t.integrate c else t) s1
      if d == 12 then s2.startMonitors else s2
    else if d == 14 then
      (List.range 12).foldl (fun t n => if t.flag (linPage n) R.PAGE_CTRL_ENABLE then t.linActivity n else t) s1
    else s1

/-- The domains PD5 to PD15 of a mask that are on are reset and wait for their restore (R92). -/
def State.domainReset (s : State) (mask : Nat) : State :=
  let q (d : Nat) : Bool := Nat.ble 5 d && Nat.ble d 15 && bit mask d && s.on d
  let s1 := (s.loseDomains q Code.SHED_DOMAIN).slicesLoad ((List.range 16).filter q)
  { s1 with power := { s1.power with restoring := (s1.power.restoring.filter fun d => !q d) ++ (List.range 16).filter q } }

/-- A write of PWR_LEAN_CFG (R78, R79). -/
def State.leanCfg (s : State) (v : Word) : State × Nat :=
  if s.mode.power == .lean then (s, Code.LEAN_CFG_BUSY)
  else if leanCost v > getBits v 11 0 * 10 then (s, Code.LEAN_BUDGET)
  else (s.wr 1 R.PWR_LEAN_CFG_BUDGET.off (v &&& accMask (· == .rw) 1 R.PWR_LEAN_CFG_BUDGET.off), 0)

/-! ### The standby switch -/

/-- The record of a switch of the standby source (R322, R391). -/
def State.supplyRecord (s : State) : State :=
  let t (x : Nat) : List Word := timeTriple x
  s.record { type := 4, page := 1, tl := 0, tsInvalid := false, code := 0, arg0 := s.fld 1 R.PWR_STAT_VSB_SRC
             arg1 := s.fld pgTime R.TIME_STAT_VALID, arg2 := 0
             payload := t s.time.t0 ++ t s.time.t1 ++ t s.time.t2 ++ t s.time.t3 }

/-- VSB_MAIN falls below 2.9 V: the switch moves to VSB_BAK where that is present (R69, R70, R322). The switch is analog: it moves also
while a reset holds the device, which then reports nothing. -/
def State.switchover (s : State) : State :=
  let s1 := s.setB 1 R.PWR_STAT_VSB_MAIN_OK false
  if s.flag 1 R.PWR_STAT_VSB_BAK_OK && !s.flag 1 R.PWR_STAT_VSB_SRC then
    let s2 := s1.setB 1 R.PWR_STAT_VSB_SRC true
    if s.alive then (s2.raise 1 0).supplyRecord else s2
  else s1

/-- VSB_MAIN has been above 3.05 V for 1 ms (R69). No command brings its rise through 2.9 V alone (log entry 137). -/
def State.switchBack (s : State) : State := (s.setB 1 R.PWR_STAT_VSB_MAIN_OK true).setB 1 R.PWR_STAT_VSB_SRC false

/-! ### PLLs -/

def State.locked (s : State) (n : Nat) : Bool := bit (s.fld 4 R.PLL_STAT_LOCKED) n

/-- Put the lock bits of the PLLs that satisfy `q`. -/
def State.setLocked (s : State) (q : Nat → Bool) : State :=
  s.setF 4 R.PLL_STAT_LOCKED ((List.range 6).foldl (fun a n => a + 2 ^ n * b2n (q n)) 0)

/-- TIME counts on the reference or on PLL2 (R88, R312). -/
def State.timeOnRef (s : State) (on : Bool) : State :=
  if s.flag pgTime R.TIME_STAT_ON_REF == on then s else (s.setB pgTime R.TIME_STAT_ON_REF on).raise pgTime 4

/-- PLL_FAIL: the PLL is scratched (R89, R90, R468). -/
def State.pllFail (s : State) (n : Nat) : State :=
  ((s.captureInternal 4 R.PLL_STAT_LOCKED.off Code.PLL_FAIL).faultRecord 4 R.PLL_STAT_LOCKED.off Code.PLL_FAIL).scratchUnit (0x500 + n) Code.PLL_FAIL

/-- PLL5 is free to replace a PLL. -/
def State.pll5Free (s : State) : Bool :=
  s.power.substituting.isNone && s.fld 4 R.PLL_STAT_SUBST == 7 && s.locked 5 && !s.flag 4 R.PLL_STAT_RESERVE_SCRATCHED

/-- The work in flight of the islands fed by the PLLs that satisfy `q` is discarded (R89, R469). PLL0 feeds DMA and CTRL too, PLL1 the Coach: a
heat under check and an attestation end without effect. What KEY writes is the store's, in PD2, and completes. -/
def State.discardFed (s : State) (q : Nat → Bool) (code : Nat) : State :=
  let s1 := s.discardIslands q code
  let s2 := if q 0 then s1.dmaDiscard code else s1
  if q 0 || q 1 then s2.checkVoid.attVoid else s2

/-- Loss of lock of the PLLs of a list in one AON cycle (R89, R90). PLL5 is out of lock while it is reprogrammed in the place of PLL1, PLL3 or PLL4. -/
def State.pllLoss (s : State) (l : List Nat) : State :=
  let lost := (List.range 5).filter fun n => l.contains n && s.locked n
  if !s.mainOn || lost.isEmpty then s
  else
    let s1 := s.setLocked fun n => s.locked n && !lost.contains n
    let s2 := s1.discardFed lost.contains Code.PLL_FAIL
    let s3 := (({ s2 with power := { s2.power with heldPlls := s2.power.heldPlls ++ lost } }).testsStop (lost.contains 0) (lost.contains 1)).thenLeave
    let s4 := if lost.contains 2 then s3.timeOnRef true else s3
    let first := if s.pll5Free then lost.head? else none
    let rest := match first with
      | some _ => lost.drop 1
      | none => lost
    let relock : Bool := first.any fun n => n == 1 || 3 ≤ n
    let s5 := if relock then s4.setLocked fun n => n != 5 && s4.locked n else s4
    rest.foldl State.pllFail { s5 with power := { s5.power with substituting := match first with
      | some n => some n
      | none => s5.power.substituting } }

/-- PLL5 has taken over (R89): the islands resume. -/
def State.pllTaken (s : State) : State :=
  match s.power.substituting with
  | none => s
  | some n =>
    let s1 := { s with power := { s.power with substituting := none, heldPlls := s.power.heldPlls.filter (· != n) } }
    let s2 := (((s1.setF 4 R.PLL_STAT_SUBST n).setLocked fun k => k == 5 || s1.locked k).pllFail n).listFirst (0x500 + n)
    (if n == 2 && !s2.fault.refclkLost then s2.timeOnRef false else s2).testsGoOn

/-- The reference shows no edge for 200 ns (R91). -/
def State.refLost (s : State) : State :=
  if !s.alive || s.flag 4 R.PLL_STAT_REF_ON_RC then s
  else
    let s1 := ((s.setB 4 R.PLL_STAT_REF_ON_RC true).setB 4 R.PLL_STAT_REF_OK false).setLocked fun _ => false
    let s2 := if s.mainOn then ((s1.discardFed (fun _ => true) Code.REFCLK_LOST).testsStop true true).thenLeave else s1
    let s3 := (List.range 4).foldl (fun t k => t.setValid k false) s2
    let s4 := s3.fixedFault 4 R.PLL_STAT_LOCKED.off Code.REFCLK_LOST
    { s4 with power := { s4.power with substituting := none }, fault := { s4.fault with refclkLost := true } }

end Sys2Proof.Machine
end

