-- ==== Sys2Proof/Machine/Boot.lean ====
section
/-! DEFINITION. Reset and start-up: the reset kinds (R92, R93, R495, R496), the boot sequence (R94 to R101), recovery (R411), the domains
and the measurement at boot (R56, R99, R412), and the REST entry and exit around them (R458 to R460). -/

namespace Sys2Proof.Machine

/-! ### What a reset leaves -/

/-- Timers of PD0 to PD2, which a warm reset leaves running. -/
def keptTimer (t : Tmr) : Bool :=
  match t with
  | .debounce _ => true
  | .chatter _ => true
  | .holdoff _ => true
  | .stuck _ => true
  | .phyWake _ => true
  | .faultMin => true
  | .trimHold => true
  | .pgHold => true
  | .drbg => true
  | .holdover _ => true
  | .pdelay _ => true
  | .pdelayResp _ => true
  | .sync _ => true
  | _ => false

/-- Lap numbers that only a power-on reset clears: ST_LAP, and TEST_RESULT.LAP of every page. -/
def lapMask (k : Nat) : Word :=
  if k == regKey pgSt R.ST_LAP.off then 0xFFFF else if k % 4096 == R.TEST_RESULT_LAP.off then 0xFFFF0000 else 0

/-- `s` with the lap numbers of `a`, the state before a reset that is no power-on reset (log entry 210). -/
def State.keepLaps (a s : State) : State :=
  a.regs.foldl (fun t e => if e.2 &&& lapMask e.1 == 0 then t else t.wr (e.1 / 4096) (e.1 % 4096) (e.2 &&& lapMask e.1)) s

/-- PD3 to PD15 return to their reset values, and the live configuration of every page with them (R49, R92). Scratch marks, fuses, the key
store, the time counters and the pages of PD0 to PD2 stay, and through REST the units whose last test ended INCOMPLETE, which the next lap tests
first (R55). -/
def State.mainReset (s : State) : State :=
  let s0 := (s.attVoid.wr pgAttest R.ATT_STAT_BUSY.off 0).disown pgAttest
  let s1 := s0.keepLaps ((s0.stopPistols.resetPages fun p => Nat.ble 3 (pageDomain p)).resetFields (fun _ => true) (· == .rws))
  { s1 with
    rdata := none
    timers := s1.timers.filter fun e => keptTimer e.1
    power := { s1.power with groups := [], restoring := [], leanSet := [] }
    heat := HeatState.reset
    slots := []
    bridge := BridgeState.reset
    log := LogState.reset
    time := { s1.time with egress := [], off := [], tt := [] }
    eth := EthState.reset
    fwd := FwdState.reset
    key := { s1.key with attPayload := none, statement := [], heatDigest := 0 }
    rings := []
    can := []
    lin := []
    relay := { RelayState.reset with ceilings := s1.relay.ceilings, fvc := s1.relay.fvc.filter fun e => e.2.persist }
    test := { TestState.reset with
      scratch := s1.test.scratch, fuses := s1.test.fuses
      units := if s1.mode.power == .rest then s1.test.units.filter (fun e => e.2.result == 3) else [] } }

/-- FINAL of every LOCK ends with a warm reset, also on the pages that keep their registers (the LOCK table). -/
def State.unlockFinal (s : State) : State :=
  let locks := s.regs.filter fun e => e.1 % 4096 == R.LOCK_FINAL.off
  locks.foldl (fun t e => t.setB (e.1 / 4096) R.LOCK_FINAL false) s

/-- A boot begins at a step: the Coach starts afresh, and FAULT_N is asserted while it runs (R466). -/
def State.bootFrom (s : State) (step : BootStep) (kind : BootKind) (before : Word) : State :=
  let s1 := s.assertFaultN
  { s1 with
    fault := { s1.fault with boot := true }
    mode := { s1.mode with trust := .unmeasured, leaving := false
                           service := if s1.mode.maintPending then .maintain else .halt }
    boot := { s1.boot with step := step, kind := kind, source := 0, stage := 0, code := 0, image := none, measured := false, detect0 := false, detect1 := false
                           matched := false, before := before } }

/-- A PLL that a boot needs and that is neither scratched nor locked. -/
def State.needsPlls (s : State) : Bool :=
  [0, 1, 2, 5].any fun n => !s.locked n && !s.scratched (0x500 + n)

/-- A warm reset with its bit of RST_CAUSE (R92, R99, R495, R496). From the commit of a REST entry on it is ignored; a boot that is still at
its fuse or PLL step goes on. -/
def State.warmReset (s : State) (cause : Fld) : State :=
  if !s.alive || s.boot.step == .held || !(s.mode.rest == .awake || s.mode.rest == .requested) then s
  else if s.boot.step == .fuses || s.boot.step == .plls then s.setB 5 cause true
  else
    let s1 := (((s.linkReset 0).linkReset 1).mainReset.unlockFinal.setB 5 cause true).setB 0 R.DEV_MODE_REQ_REST_REQ false
    let s2 := (s1.setDomains fun d => Nat.blt d 3).setB 5 R.RST_CTRL_WARM false
    ({ s2 with mode := { s2.mode with rest := .awake, power := if s2.mode.power == Power.rest then .full else s2.mode.power } }).bootFrom
      (if s.needsPlls then .plls else .hostif) .warm s.modeWord

/-- Power-on reset: everything but the nonvolatile store, the fuses, OTP, the scratch list, the levels that PWR_STAT shows of the pins and
of the standby switch (R69, R75), and the model's own records (R72, R92). A record write in progress is cut. -/
def State.powerOnReset (s : State) : State :=
  let s1 := (s.stopPistols.pwrReq true).nvCut.lcCut
  let s2 := if s1.fault.pin then s1 else s1.emit (.pin .faultN false)
  let pins := s.rd 1 R.PWR_STAT_VSB_SRC.off &&& 0x1F
  let fresh := (State.reset.rd 1 R.PWR_STAT_VSB_SRC.off &&& 0xFFFFFFE0) ||| pins
  { State.reset.wr 1 R.PWR_STAT_VSB_SRC.off fresh with
    pending := s.pending
    outbox := s2.outbox
    freeIx := s2.freeIx
    drops := s.drops
    mode := { ModeState.reset with life := s.mode.life }
    boot := { BootState.reset with porstLow := s.boot.porstLow, wrstLow := s.boot.wrstLow, internalPor := s.boot.internalPor
                                   perst0 := s.boot.perst0, perst1 := s.boot.perst1 }
    key := { KeyState.reset with nvm := s2.key.nvm, reserveBank := s.key.reserveBank, uid := s.key.uid, rollback := s.key.rollback
                                 lcPending := s.key.lcPending, lcRows := s2.key.lcRows }
    test := { TestState.reset with scratch := s.test.scratch, fuses := s.test.fuses } }

/-- A power-on boot starts: BOOTSEL is sampled, RST_CAUSE shows one cause alone (R92, R96). -/
def State.powerOnBoot (s : State) (cause : Fld) (bootsel : BitVec 2) : State :=
  let s1 := ((s.wr 5 cause.off 0).setB 5 cause true).setB 4 R.PLL_STAT_REF_OK true
  let s2 := s1.bootFrom .fuses .powerOn 0
  { s2 with boot := { s2.boot with bootsel := bootsel } }

/-- PORST_N falls (R92, R495). -/
def State.porstFalls (s : State) : State := ({ s with boot := { s.boot with porstLow := true } }).powerOnReset

/-- PORST_N rises: the boot starts, unless the internal power-on reset still holds the device (R72, R96). -/
def State.porstRises (s : State) (bootsel : BitVec 2) : State :=
  if !s.boot.porstLow then s
  else
    let s1 := { s with boot := { s.boot with porstLow := false } }
    if s.boot.internalPor then s1 else s1.powerOnBoot R.RST_CAUSE_PORST_PIN bootsel

/-- VAON falls to 0.62 V (R72). -/
def State.vaonFalls (s : State) : State :=
  let s1 := ({ s with boot := { s.boot with internalPor := true } }).powerOnReset
  (s1.setB 1 R.PWR_STAT_VSB_MAIN_OK false).setB 1 R.PWR_STAT_VSB_BAK_OK false

/-- A standby source and the reference are back (R72); `main` and `bak` are the sources present. -/
def State.vaonBack (s : State) (bootsel : BitVec 2) (main bak : Bool) : State :=
  if !s.boot.internalPor || !(main || bak) then s
  else
    let s1 := ((s.setB 1 R.PWR_STAT_VSB_MAIN_OK main).setB 1 R.PWR_STAT_VSB_BAK_OK bak).setB 1 R.PWR_STAT_VSB_SRC (!main)
    let s2 := { s1 with boot := { s1.boot with internalPor := false } }
    if s.boot.porstLow then s2 else s2.powerOnBoot R.RST_CAUSE_POR_INTERNAL bootsel

/-- WRST_N falls for at least 1 µs (R92, R495). -/
def State.wrstFalls (s : State) : State := ({ s with boot := { s.boot with wrstLow := true } }).warmReset R.RST_CAUSE_WRST_PIN

/-- WRST_N rises: the boot that waits for it goes on with its next step (R495). -/
def State.wrstRises (s : State) : State := { s with boot := { s.boot with wrstLow := false } }

/-- The reference is back and within tolerance for 1 ms (R91). -/
def State.refBack (s : State) : State :=
  if !s.alive || !s.flag 4 R.PLL_STAT_REF_ON_RC then s
  else
    let s1 := (s.setB 4 R.PLL_STAT_REF_ON_RC false).setB 4 R.PLL_STAT_REF_OK true
    if s.mode.rest == .awake || s.mode.rest == .requested then s1.warmReset R.RST_CAUSE_REFCLK_RETURN
    else { s1 with fault := { s1.fault with refclkLost := false } }

/-! ### The scratch list at boot (R441) -/

/-- A scratched CAN or LIN core or MACsec engine at boot: a free reserve serves in its place, or nothing does. -/
def State.applyCore (s : State) (u : Nat) : State :=
  let i := unitIx u
  match unitClass u with
  | 2 =>
    if i ≥ 48 then s
    else
      match [0, 1].find? fun k => !s.scratched (0x230 + k) && s.fld (corePage k) R.CORE_STAT_CHANNEL == 0x3F with
      | some k => (s.setF (corePage k) R.CORE_STAT_CHANNEL i).servedBy (canPage i) (k + 1) 0
      | none => s.servedBy (canPage i) 15 0
  | 3 =>
    if i == 12 then s
    else if !s.scratched 0x30C && s.fld pgLinCore R.CORE_STAT_CHANNEL == 0x3F then
      (s.setF pgLinCore R.CORE_STAT_CHANNEL i).servedBy (linPage i) 1 0
    else s.servedBy (linPage i) 15 0
  | 4 =>
    if i == 28 then s
    else if s.engineFree then s.servedBy (macPage i) 1 0
    else { (s.servedBy (macPage i) 15 0) with eth := { s.eth with engineLost := s.eth.engineLost ++ [i] } }
  | _ => s

/-- Scratched PLLs at boot: PLL5 goes on replacing the one that it replaces, which after a power-on reset is the first in the scratch list (log
entry 139); the islands of the others stay held (R90). -/
def State.applyPlls (s : State) : State :=
  let bad := (s.test.scratch.filter fun e => unitClass e.1 == 5 && unitIx e.1 < 5).map fun e => unitIx e.1
  let held := s.fld 4 R.PLL_STAT_SUBST
  let sub := if s.scratched 0x505 then none else if bad.contains held then some held else bad.head?
  let s1 := s.setF 4 R.PLL_STAT_SUBST (sub.getD 7)
  { s1 with power := { s1.power with heldPlls := bad.filter fun n => sub != some n, substituting := none } }

/-- What the scratch list makes of the units: marks, reserves, DEV_SCRATCH. -/
def State.applyScratch (s : State) : State :=
  let l := s.test.scratch.map (·.1)
  let s1 := (l.foldl (fun t u => t.markPage u true) s).setF 0 R.DEV_SCRATCH_COUNT l.length
  let s2 := l.foldl State.applyCore s1
  let s3 := (List.range 3).foldl (fun t i => if t.scratched (0x100 + i) then t.setF (slicePage i) R.SLICE_STAT_STATE 5 else t) s2
  let s4 := if l.any fun u => unitClass u == 1 then s3.resettleSlices else s3
  let s6 := s4.applyPlls
  let s7 := match s6.key.reserveBank with
    | some b => s6.servedBy pgNvm (b + 1) 0
    | none => s6
  if !s7.scratched 0x700 then s7
  else if s7.scratched 0x701 then s7.servedBy pgDrbg 15 0
  else (s7.setB pgDrbg R.DRBG_STAT_ON_RESERVE true).servedBy pgDrbg 1 0

/-! ### Boot sources (R94, R95, R100, R101) -/

/-- The boot fails: the Coach is held, PD5 to PD15 stay off, FAULT_N stays asserted. -/
def State.bootFailed (s : State) : State := { s with boot := { s.boot with step := .failed, stage := 15 } }

/-- P0_WAIT: the device waits up to 10 s for GO. -/
def State.awaitP0 (s : State) : State :=
  ({ s with boot := { s.boot with step := .p0Wait, stage := 1, source := 2 } }).start .bootGo (10 * secUnit)

/-- The source under trial is abandoned with a code. -/
def State.abandon (s : State) (code : Nat) : State :=
  let s1 := { s with boot := { s.boot with code := code, image := none } }
  if s.boot.source == 0 then { s1 with boot := { s1.boot with step := .imageRead, stage := 1, source := 1 } }
  else if s.boot.source == 1 && s.boot.bootsel == 1 then s1.awaitP0
  else s1.bootFailed

/-- An image's header and body are read: STAGE is BODY until the body is whole, then VERIFY. -/
def State.takeImage (s : State) (image : Option ImageFacts) : State :=
  match image with
  | some f =>
    if f.headerOk then { s with boot := { s.boot with step := .imageCheck, stage := 3, image := some f } } else s.abandon Code.BOOT_NO_IMAGE
  | none => s.abandon Code.BOOT_NO_IMAGE

/-! ### The steps (R96) -/

def lifeOf (n : Nat) : LifeCycle :=
  match n with
  | 0 => .blank
  | 1 => .dev
  | 2 => .prod
  | 3 => .rma
  | _ => .fin

/-- Fuses are sensed: the state of the highest programmed row takes effect; a device in END stays here (R56, R418, R420). -/
def State.bootFuses (s : State) : State :=
  if s.boot.step != .fuses then s
  else
    let life := lifeOf s.fuseRow
    let s1 := { s with key := { s.key with lcPending := 0 }, mode := { s.mode with life := life }
                       boot := { s.boot with step := if life == LifeCycle.fin then .held else .plls } }
    let s2 := (s1.setF 0 R.DEV_UID_LO (s.key.uid.toNat % 2 ^ 32)).setF 0 R.DEV_UID_HI (s.key.uid.toNat / 2 ^ 32)
    s2.setF pgLife R.LC_ROLLBACK s.key.rollback

/-- The PLLs lock; at a power-on boot PD1 and PD2 are released, after REST TIME returns to PLL2. -/
def State.bootPlls (s : State) : State :=
  if s.boot.step != .plls || s.fault.refclkLost && s.flag 4 R.PLL_STAT_REF_ON_RC then s
  else
    let s1 := s.setLocked fun n => !s.scratched (0x500 + n) && (s.locked n || n == 0 || n == 1 || n == 2 || n == 5)
    let s2 := s1.applyPlls.timeOnRef (s1.applyPlls.power.heldPlls.contains 2)
    let s3 := if s.boot.kind == .powerOn then s2.setB pgDrbg R.DRBG_STAT_READY !(s.scratched 0x700 && s.scratched 0x701) else s2
    { s3 with boot := { s3.boot with step := .hostif } }

/-- PD3 and PD4 are switched on, unless WRST_N is low. -/
def State.bootHostif (s : State) : State :=
  if s.boot.step != .hostif || s.boot.wrstLow then s
  else
    let s1 := s.setDomains fun d => Nat.ble d 4 && !s.isolatedDomain d
    { s1 with boot := { s1.boot with step := .romMbist } }

/-- The scratch list and the repair records of the store. -/
def scratchOf (objs : Nat → NvObj) : List (Nat × Nat) :=
  (List.range 8).flatMap fun i => match objs (1 + i) with
    | .scratch l => l
    | _ => []

def repairsOf (objs : Nat → NvObj) : List Repair :=
  (List.range 33).flatMap fun i => match objs (repairPos i) with
    | .repairs l => l.map fun x => { mem := x.1, addr := x.2.1, bit := x.2.2 % 128, column := 128 ≤ x.2.2 }
    | _ => []

/-- The object of position `p` that the store holds, as recovery resolves it. -/
def State.storedObj (s : State) (p : Nat) : NvObj := (s.recoverOne p).obj

/-- Failure `f` of the memory BIST of PD3, before the store is recovered: a repair enters the store with the others. The flag says that a memory of
COACH is unrepairable (R436); another memory of PD3 scratches what holds it. -/
def State.romFailure (all : List MemFailure) (a : State × Bool) (f : MemFailure) : State × Bool :=
  let s := a.1
  let r := spareFor (s.test.fuses ++ repairsOf s.storedObj ++ s.test.soft) all f
  let s1 := s.mbFailure f r
  match r with
  | some x => (if s.test.soft.contains x || s.test.fuses.contains x then s1 else s1.setTest fun t => { t with soft := t.soft ++ [x] }, a.2)
  | none => if Config.coachSram f.memory.toNat then (s1, true) else (s1.memoryUnit (memoryHolder f), a.2)

/-- The memory BIST of PD3 finds a COACH SRAM unrepairable. -/
def State.coachFails (s : State) (fails : List MemFailure) : Bool := (fails.foldl (State.romFailure fails) (s, false)).2

/-- Memory BIST of PD3 (R435, R436), and the first source by BOOTSEL. -/
def State.bootRom (s : State) (fails : List MemFailure) : State :=
  if s.boot.step != .romMbist then s
  else
    let s1 := (fails.foldl (State.romFailure fails) (s, false)).1
    if s.coachFails fails then ({ s1 with boot := { s1.boot with code := Code.MBIST_FAIL } }).bootFailed
    else if s.boot.bootsel == 2 then s1.awaitP0
    else { s1 with boot := { s1.boot with step := .imageRead, stage := 1, source := 0 } }

/-- A header and body are read: from xSPI, where `image` is what the slot holds, or the rest of the image in the P0 buffer. -/
def State.bootRead (s : State) (image : Option ImageFacts) : State :=
  if s.boot.step == .imageRead then s.takeImage (if s.boot.source == 2 then s.boot.image else image) else s

/-- The checks of R95 on the image read; the firmware starts. -/
def State.bootCheck (s : State) : State :=
  match s.boot.step, s.boot.image with
  | .imageCheck, some f =>
    if !f.sigOk then s.abandon Code.BOOT_SIG_FAIL
    else if f.secver.toNat < s.key.rollback then s.abandon Code.BOOT_ROLLBACK
    else if f.factory != (s.mode.life == .blank) then s.abandon Code.BOOT_WRONG_KIND
    else
      let v := f.version.toNat
      let s1 := s.wr 0 R.DEV_FW_VER_PATCH.off (BitVec.ofNat 32 (v % 256 + f.secver.toNat * 2 ^ 8 + v / 256 * 2 ^ 16))
      { s1 with boot := { s1.boot with step := .recovery, stage := 4 }, key := { s1.key with bodyHash := f.bodyHash } }
  | _, _ => s

/-- GO from the host (R100): P0_WAIT clears, the header of the image in the buffer is read (STAGE HEADER), then its body (STAGE BODY). What
the buffer spells is `Config.maljor` of it: the spec does not give the image format (log entry 142). -/
def State.bootGo (s : State) : State :=
  if s.boot.step != .p0Wait then s
  else
    let s1 := s.stop .bootGo
    match Config.maljor s1.bridge.bootBuffer with
    | some f =>
      if f.headerOk then { s1 with boot := { s1.boot with step := .imageRead, stage := 2, image := some f } }
      else s1.abandon Code.BOOT_NO_IMAGE
    | none => s1.abandon Code.BOOT_NO_IMAGE

/-- BOOT_STATUS, as BAR2 of PF0 shows it (R98, R100, R101). -/
def State.bootStatus (s : State) : Word :=
  BitVec.ofNat 32 (s.boot.stage + s.boot.source * 2 ^ 4 + b2n (s.boot.step == .p0Wait) * 2 ^ 6 + s.boot.code * 2 ^ 16)

/-- No GO within 10 s. -/
def State.bootTimeout (s : State) : State :=
  if s.boot.step == .p0Wait && s.due .bootGo then
    ({ s.stop .bootGo with boot := { s.boot with code := Code.BOOT_P0_TIMEOUT } }).bootFailed
  else s

/-! ### Recovery (R411, R441) -/

/-- The six entries of ceiling record `i`, unused ones where it holds none. -/
def ceilingRow (o : NvObj) : List (Nat × Nat) :=
  match o with
  | .ceilings l => (l ++ List.replicate 6 (noCounter, 0)).take 6
  | _ => List.replicate 6 (noCounter, 0)

/-- Unused entries at the end are dropped. -/
def trimEnd (l : List (Nat × Nat)) : List (Nat × Nat) := (l.reverse.dropWhile fun e => e.1 == noCounter).reverse

/-- The persistent counters restart at their ceilings (R304). -/
def State.loadCeilings (s : State) (objs : Nat → NvObj) : State :=
  let l := trimEnd ((List.range 86).flatMap fun i => ceilingRow (objs (16 + i)))
  let one (t : State) (e : Nat × Nat) : State :=
    if e.1 == noCounter then t else t.setFvc e.1 { value := e.2, dir := (s.fvc e.1).dir, persist := true, ceil := e.2 }
  l.foldl one { s with relay := { s.relay with ceilings := l.map (·.1), fvc := [] } }

/-- The nonvolatile store is recovered; `bad` holds the records (bank × 256 + position) whose digest is wrong. -/
def State.bootRecovery (s : State) (bad : List Nat) : State :=
  if s.boot.step != .recovery then s
  else
    let s0 := s.damage bad
    let res := (List.range 256).map fun p => s0.recoverOne p
    let objs (p : Nat) : NvObj := ((res[p]?).map (·.obj)).getD .gone
    let s1 := { s0 with key := { s0.key with bootLost := false, bootConflict := false } }
    let s2 := (res.zipIdx).foldl (fun t e => t.recoverEvents e.2 e.1) s1
    let s3 := (List.range 128).foldl (fun t i => t.recoverSlot (128 + i) (objs (128 + i))) s2
    let s4 := (s3.loadCeilings objs).recoverOrphans
    let old := repairsOf objs
    let fresh := s4.test.soft.filter fun r => !old.contains r
    let s5 := s4.setTest fun t => { t with scratch := scratchOf objs ++ t.scratch.filter fun e => !(scratchOf objs).contains e
                                           soft := old ++ fresh }
    let s6 := if fresh.isEmpty then s5 else s5.journalRepairs old.length
    let record := match objs 0 with
      | .quarantine q => some q
      | _ => none
    let nonce := if s6.drbgDown then s6.key.nonce else BitVec.ofNat 64 s6.random.toNat
    let s7 := if s6.drbgDown then s6 else s6.drbgTake false
    let s8 := { s7 with mode := { s7.mode with quarRecord := record }, key := { s7.key with nonce := nonce }
                        boot := { s7.boot with step := .domains } }
    ((s8.setF pgLife R.LC_NONCE_LO (nonce.toNat % 2 ^ 32)).setF pgLife R.LC_NONCE_HI (nonce.toNat / 2 ^ 32)).applyScratch

/-! ### Domains, measurement, HALT -/

/-- The T1S wake signals of a REST exit, where PD11 is powered (R454). -/
def State.t1sWakeOutAt (t : State) (k : BootKind) : State := if k == .restExit && t.on 11 then t.t1sWakeOut else t

/-- PG_MAIN and PG_BAK are sampled (R43, R96, R99): PD5 to PD15 or the lean set, or REST. -/
def State.bootDomains (s : State) (main bak : Bool) : State :=
  if s.boot.step != .domains then s
  else
    let s1 := s.setPg main bak
    let s2 := { s1 with boot := { s1.boot with step := .domainMbist, stage := 5 } }
    let fit (d : Nat) : Bool := !s2.isolatedDomain d
    if main then
      let s3 := { s2 with mode := { s2.mode with power := s2.fullOrTrim, maintPending := false } }
      (s3.switchOn ((List.range 16).filter fit)).t1sWakeOutAt s.boot.kind
    else if bak then
      let set := s2.leanSetNow
      let s3 := { s2.pgLow with mode := { s2.mode with power := .lean }, power := { s2.power with leanSet := set } }
      ((s3.switchOn (set.filter fit)).foldForLean).t1sWakeOutAt s.boot.kind
    else
      let s3 := { s2 with boot := { s2.boot with step := .done }, fault := { s2.fault with boot := false } }
      s3.forceRest

/-- Memory BIST and soft repair of PD4 to PD15 (R435, R436), where the repairs that are held may take more spares than a memory has too; the slices take their roles, PLL3 and PLL4 are locked. -/
def State.bootMbist (s : State) (fails : List MemFailure) : State :=
  if s.boot.step != .domainMbist || !s.power.groups.isEmpty then s
  else
    let s0 := fails.foldl (fun t f => t.memoryFails fails f) s
    let s1 := (overSpared (s0.test.fuses ++ s0.test.soft)).foldl (fun t m => t.memoryUnit (memoryUnitOf m)) s0
    let s2 := { s1 with power := { s1.power with restoring := [] }, boot := { s1.boot with step := .measure, stage := 6 } }
    let s3 := (List.range 3).foldl (fun t i => if t.on (5 + i) then t.sliceOn i else t) s2
    s3.setLocked fun n => s3.locked n || ((n == 3 || n == 4) && !s3.scratched (0x500 + n))

/-- A device slot (R412): its private key of 384 bits is not among the 256-bit keys of the slots (`KeyState.idKey`, `KeyState.aliasKey`). -/
def deviceSlot (gen : Nat) : KeySlot :=
  { KeySlot.empty gen with usage := 5, lcDev := true, lcProd := true, masters := 0x101 }

/-- The device slots are created in DEV and PROD, with their private keys, and the alias certificate is signed with slot 0, unless the generator
is down (R412, R417). -/
def State.deviceSlots (s : State) : State :=
  if s.mode.life == .dev || s.mode.life == .prod then
    let t := [0, 1].foldl (fun t n => t.setKeySlot n (deviceSlot (t.keySlot n).nextGen)) s
    let t1 := { t with key := { t.key with
      idKey := deviceKey s.secret labelDevid [], aliasKey := deviceKey s.secret labelAlias s.measurement
      aliasNonce := if s.drbgDown then none else some s.random } }
    if s.drbgDown then t1 else t1.drbgTake false
  else
    let t := [0, 1].foldl (fun t n => if (t.keySlot n).usage == 0 then t else t.setKeySlot n (KeySlot.empty (t.keySlot n).nextGen)) s
    { t with key := { t.key with idKey := 0, aliasKey := 0, aliasNonce := none } }

/-- The FAULT record of a boot that ends in QUARANTINE: TAMPER where its measurement matches and the record it finds tells of a tamper
event, else MEASURE_MISMATCH (R57, R475). DEDUCED, log 179. -/
def State.bootQuarFault (s : State) (ok : Bool) : State :=
  if s.mode.trust == .quarantine then s.quarFault (ok && s.mode.quarRecord.any fun r => r.cause == 3) else s

/-- The boot measurement ends (R56, R57, R96, R412): device slots, trust, BAR0. -/
def State.bootMeasure (s : State) (ok : Bool) : State :=
  if s.boot.step != .measure then s
  else
    let s1 := s.deviceSlots.setTrust ok
    let s2 := match s1.mode.quarRecord with
      | some q => if s.mode.quarRecord == some q then s1 else s1.nvQueue { pos := 0, obj := .quarantine q, job := .none }
      | none => s1
    let s3 := s2.bootQuarFault ok
    { s3 with boot := { s3.boot with step := .halt, measured := true, matched := ok }, key := { s3.key with runHash := 0 } }

/-- The boot ends in HALT or MAINTAIN with HEAT_LIVE = 0 (R37, R96, R460). -/
def State.bootHalt (s : State) : State :=
  if s.boot.step != .halt then s
  else
    let s1 := { s with
      boot := { s.boot with step := .done, stage := 7 }
      mode := { s.mode with service := if s.mode.service == Service.maintain then .maintain else .halt }
      fault := { s.fault with boot := false, refclkLost := false, lockstep := false } }
    let s2 := s1.evalDiag.raise 0 0
    let s3 := s2.record
      { type := 1, page := 0, tl := 0, tsInvalid := false, code := 0, arg0 := if s.boot.kind == BootKind.restExit then 5 else 12
        arg1 := s.boot.before.toNat, arg2 := s2.modeWord.toNat
        payload := timeTriple s2.time.t0 ++ [BitVec.ofNat 32 (b2n (s2.domainValid 0))] }
    let s4 := if s.boot.kind == .restExit then (s3.count pgWake R.WAKE_COUNT).raise pgWake 0 else s3
    let s5 := if s4.running .lap || !s4.flag pgSt R.ST_CFG_LAPS_EN || s4.lapPeriod == 0 then s4 else (s4.setTest fun t => { t with lapAt := s4.time.tl }).start .lap s4.lapPeriod
    s5.testResume

/-! ### REST around a boot (R458 to R460, R74, R88, R323) -/

/-- The journal queue is empty: the requested entry commits (R458). -/
def State.restJournaled (s : State) : State :=
  if s.mode.rest == .requested && s.key.writes.isEmpty then s.commitRest 3 else s

/-- PD3 to PD15 and the PLLs are switched off, TIME moves to the reference, the filters are armed. -/
def State.restOff (s : State) : State :=
  if s.mode.rest != .committed || !s.due .restOff then s
  else
    let s1 := (s.mainReset.setDomains fun d => Nat.blt d 3).setLocked fun _ => false
    let s2 := (List.range 4).foldl (fun t k => t.toHoldover k) (s1.timeOnRef true)
    let s3 := (List.range 48).foldl (fun t c => t.setB pgPnf (R.PN_STAT_ARMED c) (t.pnMode c != 0)) s2
    let s4 := { s3 with mode := { s3.mode with rest := .off }, power := { s3.power with substituting := none }
                        boot := { s3.boot with measured := false, detect0 := false, detect1 := false } }
    s4.start .restPwr (usT 10)

/-- The last step of the entry: PWR_REQ falls, or the exit starts at once where a wake event came (R459). -/
def State.restLast (s : State) : State :=
  if s.mode.rest != .off || !s.due .restPwr then s
  else
    let s1 := s.stop .restPwr
    if s.mode.wakeSeen then s1.startExit
    else ({ s1 with mode := { s1.mode with rest := .asleep } }).pwrReq false

/-- The first AON cycle of an exit with a PG line high: the boot starts at the PLL lock step (R447, R460). -/
def State.exitSample (s : State) (main bak : Bool) : State :=
  if s.mode.rest != .waking || !(main || bak) then s
  else
    let s1 := ((s.setPg main bak).stop .pgWait).setB 5 R.RST_CAUSE_REST_EXIT true
    let s2 := (List.range 48).foldl (fun t c => t.setB pgPnf (R.PN_STAT_ARMED c) false) s1.phyWakeStart
    ({ s2 with mode := { s2.mode with rest := .awake } }).bootFrom .plls .restExit s.modeWord

/-- The exit's PG_WAIT is over (R460). -/
def State.exitTimeout (s : State) : State := if s.mode.rest == .waking && s.due .pgWait then s.noPower else s

/-! ### Events of the trust axis -/

/-- A tamper source becomes active (R57). During a boot, before the trust axis is set, the event is only logged, as in OPEN (DESIGN CHOICE,
log entry 140). -/
def State.tampered (s : State) : State :=
  if !s.alive then s
  else
    let s1 := { s with mode := { s.mode with tamper := true } }
    if s.mode.trust == .sealed then
      if s.mode.power == .rest then s1.writeQuarRecord 3 false else s1.enterQuarantine 3 8
    else if s.mode.trust == .quarantine then s1
    else s1.faultRecord 0 R.DEV_MODE_TRUST.off Code.TAMPER

/-- The Coach's runtime re-measurement gives `hash` (R57). -/
def State.remeasured (s : State) (hash : BitVec 384) : State :=
  if s.boot.step != .done || s.mode.power == .rest || s.fault.lockstep then s
  else
    let ok : Bool := hash == s.key.bodyHash
    let s1 := { s with key := { s.key with runHash := hash }, mode := { s.mode with measuresMatch := s.boot.matched && ok } }
    if ok || s.mode.trust == .quarantine then s1
    else if s.mode.trust == .sealed then s1.enterQuarantine 2 9
    else s1.faultRecord 0 R.DEV_MODE_TRUST.off Code.MEASURE_MISMATCH

/-- The activation line has been inactive for DIAG_EXIT_HOLD (R50). -/
def State.diagOver (s : State) : State :=
  if s.due .diagExit && s.mode.service == .diagnose then reportMode 11 s ((s.stop .diagExit).serviceTo .run) else s

/-- A Coach lockstep mismatch (R471). -/
def State.lockstepFails (s : State) : State :=
  if !s.on 3 || s.fault.lockstep then s
  else
    let s1 := s.fixedFault pgAggCtrl R.FAULT_STAT_FIXED.off Code.COACH_LOCKSTEP
    { s1 with fault := { s1.fault with lockstep := true } }

end Sys2Proof.Machine
end

