-- ==== Sys2Proof/Machine/Ports.lean ====
section
/-! DEFINITION. The table ports (R113 to R116): the commands each table supports, its indices, the values it refuses, and what
READ_LIVE, READ_STAGED, READ_RAW, WRITE_STAGED, DELETE_STAGED and WRITE_DIRECT do. -/

namespace Sys2Proof.Machine

/-! ### Commands and indices -/

/-- The pages of the tables that every slice holds. -/
def commonTable (p : Nat) : Bool := 0x088 ≤ p && p ≤ 0x08E

/-- The pages of the hurdle lists, of the LIN tables, of the MACsec groups. -/
def lanesTable (p : Nat) : Bool := 0x0C8 ≤ p && p ≤ 0x0E3
def linTable (p : Nat) : Bool := 0x140 ≤ p && p ≤ 0x14B
def secTable (p : Nat) : Bool := 0x1A8 ≤ p && p ≤ 0x1AE
def pgImage : Nat := 0x155
def pgUnits : Nat := 0x1C1
def pgBound : Nat := 0x013

/-- The commands that the table of page `p` supports at index `idx` (the table of chapter 04; R160, R168, R285, R344, R401, R429). -/
def tblOps (p idx : Nat) : List Nat :=
  if p == pgUnits then [1]
  else if p == pgBound then [1, 2]
  else if p == pgKeySlot then [1, 5]
  else if p == 0x090 || p == 0x091 || p == pgImage then [1, 5, 6]
  else if p == pgAuth then if bit idx 12 then [1, 2, 3, 4, 6] else [1, 5, 6]
  else if secTable p then
    match bits idx 8 7 with
    | 0 => [1, 2, 3, 4, 5, 6]
    | 3 => []
    | _ => [1, 5, 6]
  else if lanesTable p || linTable p || p == pgTt then [1, 2, 3, 6]
  else [1, 2, 3, 4, 6]

/-- The number of index bits of a table of pairs; the bit above them names the slot of the pair for READ_RAW, as it does for the
hurdle lists (DESIGN CHOICE for the others, log entry 73). -/
def idxWidth (p : Nat) : Nat :=
  if p == pgContract then 10
  else if p == pgVlan || p == pgNh then 12
  else if p == pgGroup then 8
  else if p == 0x08C || p == 0x08D then 18
  else if p == pgGate || lanesTable p then 8
  else if p == pgGateList || p == pgMeter then 11
  else if p == pgPacer then 10
  else if linTable p then 9
  else if p == 0x152 then 8
  else if p == pgDrec then 15
  else if p == pgSplice then 14
  else if p == pgTmon then 12
  else if p == pgAcf then 6
  else if p == pgTt || secTable p then 11
  else 13

/-- The entries of stage `k` of a trie: stage 0 directly, nodes after it (the table before R202). -/
def trieSize (p k : Nat) : Nat :=
  if k == 0 then 65536
  else if p == 0x08C then if k ≤ 2 then 16 * 4096 else if k ≤ 4 then 16 * 1024 else 0
  else if k ≤ 6 then 256 * 1024 else 0

/-- The nodes of stage `k` of a trie. -/
def trieNodes (p k : Nat) : Nat := if p == 0x08C then trieSize p k / 16 else trieSize p k / 256

/-- The entry that an index names, or the code that refuses it. `idx` is without the slot and slice bits of READ_RAW. -/
def entryIx (p idx : Nat) : Except Nat Nat :=
  let bad : Except Nat Nat := .error Code.TBL_BAD_CMD
  if keyed p || p == 0x090 || p == 0x091 then .ok idx
  else if p == 0x08C || p == 0x08D then
    let k := bits idx 22 20
    if idx ≥ 2 ^ 23 || bits idx 19 18 != 0 || trieSize p k == 0 then bad
    else if bits idx 17 0 ≥ trieSize p k then .error Code.TRIE_BAD_CHILD
    else .ok (trieIndex k (bits idx 17 0))
  else if p == pgUnits then if isUnit idx then .ok idx else bad
  else if p == pgBound || p == pgContract then if idx < 1024 then .ok idx else bad
  else if p == pgKeySlot then if idx < 1024 then .ok idx else bad
  else if p == pgImage then if idx < 8192 && idx % 4096 < 2048 then .ok idx else bad
  else if p == pgAuth then if idx < 4096 then .ok idx else if idx < 4096 + 256 then .ok (idx - 4096) else bad
  else if linTable p then
    if idx < 64 || (256 ≤ idx && idx < 256 + 128) then .ok idx else bad
  else if p == pgTt then
    if idx < 2048 && bits idx 9 4 < 48 && (!bit idx 10 || bits idx 3 0 == 0) then .ok idx else bad
  else if secTable p then
    let kind := bits idx 8 7
    if idx < 2048 && kind != 3 && (kind != 0 || bits idx 1 0 == 0) && (kind != 2 || bits idx 6 2 == 0) then .ok idx else bad
  else if idx < 2 ^ idxWidth p then .ok idx
  else bad

/-- The DATA word whose bits 31 to 29 show V, E and B in READ_RAW. -/
def epochWord (p : Nat) : Nat :=
  if p == pgVlan || p == pgGroup || p == pgNh || p == pgGateList || p == pgSplice || secTable p then 2
  else if p == pgL2 || p == 0x090 || p == 0x091 || p == pgPacer then 3
  else if p == 0x08C || p == 0x08D || linTable p then 0
  else if p == pgHost then 4
  else if lanesTable p then 1
  else if p == pgDrec then 7
  else 5

/-! ### What is refused, and what is kept of a write -/

/-- A value that the table of page `p` refuses (the field tables of the chapters): its code, or 0. -/
def entryRefused (p ix : Nat) (d : Entry) : Nat :=
  let bad (b : Bool) : Nat := if b then Code.TBL_BAD_CMD else 0
  if p == pgContract then bad (eBits d 2 0 ≥ 6)
  else if p == pgL2 || p == 0x090 || p == 0x091 then bad (l2Port d == 31)
  else if p == pgNh then bad (nhPort d > 28)
  else if p == 0x08C || p == 0x08D then
    let k := ix / 2 ^ 18 + 1
    if trieSize p k != 0 && tChild d ≥ trieNodes p k && tChild d != 0 then Code.TRIE_BAD_CHILD else 0
  else if p == pgFilter then bad (eBits d 1 0 == 3 || (eBits d 15 8 > 29 && eBits d 15 8 != 0xFF))
  else if lanesTable p then bad (eBits d 41 40 == 3)
  else if linTable p then
    if ix < 256 then bad (lfDir d == 3 || lfLen d == 0 || lfLen d > 8) else bad (lsType d ≥ 6)
  else if p == pgDrec then bad (drKind d ≥ 5 || drFmt d == 3)
  else if p == pgSplice then bad (spOp d == 0 || spOp d > 4)
  else if p == pgTmon then bad (tmAction d == 3)
  else if p == pgTt then bad (!bit ix 10 && ttTxb d == 3)
  else 0

/-- Clear bits `hi` down to `lo` of an entry. -/
def eClear (e : Entry) (hi lo : Nat) : Entry := eSet e hi lo 0

/-- What a staged write keeps of its data: run-time words, epoch bits and what R176 names are ignored. -/
def keptEntry (p : Nat) (d : Entry) : Entry :=
  let w := epochWord p
  let e := eClear d (32 * w + 31) (32 * w + 29)
  if p == pgL2 then eSet (eClear (eClear (eClear (eClear e 78 78) 89 86) 119 96) 127 124) 77 77 1
  else if p == pgFilter then eClear (eClear e 105 105) 255 192
  else if p == pgGate then eClear (eClear e 149 149) 223 192
  else if p == pgMeter then eClear (eClear e 133 133) 255 192
  else if p == pgPacer then eClear e 223 192
  else if p == pgTmon || p == pgAcf then eClear e 255 192
  else e

/-! ### Reading -/

/-- An entry with its run-time words: `ix` is its index, or its physical slot in the filter table. -/
def State.withRunTime (s : State) (p ix : Nat) (e : Entry) : Entry :=
  let n (m : SMap Nat) : Nat := (mget m ix).getD 0
  if p == pgFilter then
    eSet (eSet (eSet e 105 105 (b2n (s.fwd.blocked.contains ix))) 223 192 (n s.fwd.matched)) 255 224 (n s.fwd.dropped)
  else if p == pgGate then eSet (eSet e 149 149 (b2n (s.gate ix).closed)) 223 192 (n s.fwd.gateDrops)
  else if p == pgMeter then
    let red := ((mget s.fwd.meters ix).map (·.allRed)).getD false
    eSet (eSet (eSet e 133 133 (b2n red)) 223 192 (n s.fwd.yellow)) 255 224 (n s.fwd.red)
  else if p == pgPacer then eSet e 223 192 (n s.fwd.pacerDrops)
  else if p == pgTmon then
    match mget s.relay.monitors ix with
    | some m => eSet (eSet e 223 192 m.expiries) 224 224 (b2n m.out)
    | none => e
  else if p == pgAcf then eSet (eSet e 199 192 (n s.relay.seqs)) 255 224 (n s.relay.frames)
  else e

/-- A physical slot as READ_RAW shows it. -/
def shownSlot (p : Nat) (t : Slot) : Entry :=
  let w := 32 * epochWord p
  let e := eSet t.data (w + 31) (w + 29) (b2n t.b + 2 * b2n t.e + 4 * b2n t.v)
  if keyed p || p == 0x090 || p == 0x091 then eSet e (w + 28) (w + 28) (b2n t.rsv) else e

/-- The code of a key that a table does not find (R176). -/
def notFound (p : Nat) : Nat := if p == pgExact then Code.RT_NOT_FOUND else Code.L2_NOT_FOUND

/-- A learned entry of a role, by key. -/
def State.learnedEntryOf (s : State) (r k : Nat) : Option Entry :=
  (s.getKey pgL2 (s.servingSlice r) k s.heat.liveE).filter fun e => !l2Static e

/-- The entry of contract `k` in the BOUND table (R366). -/
def State.boundEntry (s : State) (k : Nat) (live : Bool) : Entry :=
  let b := (mget (if live then s.heat.bounds else s.heat.latest) k).getD (0, 0)
  let x := if live then (mget s.heat.states k).getD (0, 0) else (0, 0)
  BitVec.ofNat 256 (b.1 % 2 ^ 32 + b.2 % 2 ^ 32 * 2 ^ 32 + (x.1 + x.2 * 4) * 2 ^ 64)

/-- An entry of the unit table (ST_UNITS). -/
def State.unitEntry (s : State) (u : Nat) : Entry :=
  let x := s.unitResult u
  let cause := ((s.test.scratch.find? fun e => e.1 == u).map (·.2)).getD 0
  BitVec.ofNat 256 (x.result + b2n x.retried * 4 + b2n (s.scratched u) * 8 + b2n x.untestable * 16 + x.slice % 256 * 2 ^ 8
    + x.lap % 2 ^ 16 * 2 ^ 16 + x.misr.toNat * 2 ^ 32 + (x.patterns % 2 ^ 16 + x.target % 2 ^ 16 * 2 ^ 16) * 2 ^ 96
    + cause % 2 ^ 16 * 2 ^ 128)

/-- Half `h` of image `k`: byte 0 of the half in DATA0[7:0] (DESIGN CHOICE, log entry 74). -/
def State.imageHalf (s : State) (idx : Nat) : Entry :=
  BitVec.ofNat 256 (s.image (idx % 4096) / 2 ^ (256 * (idx / 4096)))

/-- READ_LIVE (`staged` false) or READ_STAGED of entry `ix`; `d` holds the key. A common table is read in a slice's hardware (R168). -/
def State.tblRead (s0 : State) (p ix : Nat) (d : Entry) (staged : Bool) : Except Nat Entry :=
  let s := if commonTable p then s0.asSlice s0.readSlice else s0
  if p == pgUnits then .ok (s.unitEntry ix)
  else if p == pgBound then .ok (s.boundEntry ix (!staged))
  else if p == pgKeySlot then
    if bits ix 9 8 == 3 then .error Code.TBL_BAD_CMD else .ok (s.keyPortRead ix)
  else if p == pgImage then .ok (s.imageHalf ix)
  else if p == 0x090 || p == 0x091 then
    match s.learnedEntryOf (p - 0x090) (keyOf pgL2 d) with
    | some e => .ok e
    | none => .error Code.L2_NOT_FOUND
  else if keyed p then
    let k := keyOf p d
    match if staged then s.stagedEntry p k else s.liveEntry p k with
    | some e =>
      if p == pgFilter then
        match s.findKey p 0 k s.heat.liveE with
        | some i => .ok (s.withRunTime p i e)
        | none => .ok e
      else .ok e
    | none => .error (notFound p)
  else .ok (s.withRunTime p ix (((if staged then s.stagedEntry p ix else s.liveEntry p ix).getD 0)))

/-- READ_RAW at TBL_IDX `idx`. -/
def State.tblRaw (s0 : State) (p idx : Nat) : Except Nat Entry :=
  let s := if commonTable p then s0.asSlice (bits idx 25 24) else if p == 0x090 || p == 0x091 then s0.asSlice (s0.servingSlice (p - 0x090)) else s0
  if p == pgImage then (entryIx p idx).map fun i => s.imageHalf i
  else if p == pgAuth && idx < 4096 then .ok (s.fvcRead idx)
  else if commonTable p && bits idx 25 24 == 3 then .error Code.TBL_BAD_CMD
  else
    let i := if commonTable p then idx % 2 ^ 24 + idx / 2 ^ 26 * 2 ^ 24 else idx
    if p == pgL2 || p == 0x090 || p == 0x091 then
      if i ≥ 2 ^ 14 then .error Code.TBL_BAD_CMD
      else
        let sl := if p == pgL2 then bits idx 25 24 else s.servingSlice (p - 0x090)
        .ok (shownSlot p (s.slot (0x200 + sl) i))
    else if keyed p then
      if i ≥ 2 ^ (keyedBits p + 1) then .error Code.TBL_BAD_CMD
      else .ok (s.withRunTime p i (shownSlot p (s.slot p i)))
    else
      let w := idxWidth p
      let half := b2n (bit i w)
      let j := if bit i w then i - 2 ^ w else i
      match entryIx p j with
      | .error c => .error c
      | .ok ix => .ok (s.withRunTime p ix (shownSlot p (s.slot p (2 * ix + half))))

/-! ### Writing -/

/-- A staged L2 insert beyond the limit of R177. -/
def State.tooManyStatic (s : State) (k : Nat) : Bool :=
  !s.staticKeys.contains k && Nat.ble 8192 s.staticKeys.length

/-- WRITE_STAGED or DELETE_STAGED of entry `ix`, TBL_IDX `idx`, by master `m`: the state and the code. -/
def State.tblStage (s : State) (m p ix idx : Nat) (d : Entry) (del : Bool) : State × Nat :=
  let e := keptEntry p d
  let r : TblRec := { page := p, idx := if keyed p then idx else ix, del := del, data := e, newSlots := [], oldSlots := [], by_ := m }
  let code :=
    if del then if keyed p && (s.stagedEntry p (keyOf p d)).isNone then notFound p else 0
    else
      let c := entryRefused p ix d
      if c != 0 then c
      else if p == pgL2 && s.tooManyStatic (keyOf p e) then Code.L2_STATIC_LIMIT
      else if p == pgAuth && 2 ≤ m && !(s.keySlot (apKey e)).world then Code.KEY_WORLD
      else 0
  if code != 0 then (s, code)
  else match s.addRecord r with
    | some t => (t, 0)
    | none => (s, if p == pgExact then Code.RT_NO_SLOT else Code.L2_NO_SLOT)

/-- Write a live entry of a table of pairs at once, in both epochs. -/
def State.putPair (s : State) (p ix : Nat) (e : Entry) : State :=
  let i := match s.pairSlot p ix s.heat.liveE with
    | some k => k
    | none => if (s.slot p (2 * ix)).isFree then 2 * ix else 2 * ix + 1
  s.setSlot p i { v := true, e := s.heat.liveE, b := true, rsv := false, data := e }

/-- WRITE_DIRECT of entry `ix` by master `m` (R160, R192, R285, R402, R416): the state and the code. -/
def State.tblDirect (s : State) (m p ix : Nat) (d : Entry) : State × Nat :=
  if p == pgKeySlot then s.keyPortWrite m ix d
  else if p == 0x090 || p == 0x091 then
    if l2Port d == 31 then (s, Code.TBL_BAD_CMD) else s.writeLearned (p - 0x090) d
  else if p == pgImage then
    let k := ix % 4096
    let x := s.image k
    let (lo, hi) := (x % 2 ^ 256, x / 2 ^ 256)
    (s.setImage k (if ix / 4096 == 0 then d.toNat + hi * 2 ^ 256 else lo + d.toNat * 2 ^ 256), 0)
  else if p == pgAuth then s.fvcWrite ix d
  else if bits ix 8 7 == 0 then (s.putPair p ix (keptEntry p d), 0)
  else
    let code := s.saRefusal d (Nat.ble 2 m)
    let n := 4 * (p - 0x1A8) + bits ix 10 9
    let t := if bits ix 8 7 == 2 then s.setPnSpent n (bits ix 1 0) false else s
    if code != 0 then (s, code) else (t.setSaEntry (4 * (p - 0x1A8)) ix d, 0)

/-! ### The port -/

/-- DATA0 to DATA7 of the port of page `p`, and putting them. -/
def State.tblData (s : State) (p : Nat) : Entry := eOfWords fun k => s.rd p (0x050 + 4 * k)
def State.putTblData (s : State) (p : Nat) (e : Entry) : State :=
  let t := (List.range 8).foldl (fun t k => t.wr p (0x050 + 4 * k) (eWord e k)) s
  if p == pgKeySlot then { t with key := { t.key with shown := true } } else t

/-- A command ends with a code (R114); the master's latch is released. -/
def State.tblEnd (s : State) (p code : Nat) : State :=
  (((s.setB p R.TBL_STAT_BUSY false).setB p R.TBL_STAT_DONE true).setF p R.TBL_STAT_CODE code).disown p

/-- The command `op` at the port of page `p`, carried out: the state, and its code. -/
def State.tblAct (s : State) (m p op : Nat) : State × Nat :=
  let idx := (s.rd p R.TBL_IDX.off).toNat
  let d := s.tblData p
  if !(tblOps p idx).contains op then (s, Code.TBL_BAD_CMD)
  else if op == 6 then
    match s.tblRaw p idx with
    | .ok e => (s.putTblData p e, 0)
    | .error c => (s, c)
  else
    match entryIx p idx with
    | .error c => (s, c)
    | .ok ix =>
      if op == 5 then s.tblDirect m p ix d
      else if op == 3 || op == 4 then s.tblStage m p ix idx d (op == 4)
      else if p == pgAuth && idx < 4096 then (s.putTblData p (s.fvcRead ix), 0)
      else if secTable p && bits ix 8 7 != 0 then (s.putTblData p (s.saEntry (4 * (p - 0x1A8)) ix), 0)
      else match s.tblRead p ix d (op == 2) with
        | .ok e => (s.putTblData p e, 0)
        | .error c => (s, c)

/-- The write job of the key store that the KEY_SLOT port waits for. -/
def State.portWaits (s : State) (p : Nat) : Bool := p == pgKeySlot && s.key.writes.any fun w => w.job == .port

/-- A write of TBL_CMD that the port takes: the state, and the code of a refusal. A command that waits for a record write leaves the port
BUSY (R403). -/
def State.tblCmd (s : State) (m p op : Nat) : State × Nat :=
  let (t, code) := s.tblAct m p op
  if code == 0 && op == 5 && t.portWaits p && !s.portWaits p then
    ((t.setB p R.TBL_STAT_BUSY true).setB p R.TBL_STAT_DONE false, 0)
  else (t.tblEnd p code, code)

end Sys2Proof.Machine
end

