-- ==== Sys2Proof/Machine/Log.lean ====
section
/-! DEFINITION. The logbook (R390 to R397): records written into the two banks, bank changes, the read port, and the commands
REWIND, MARK, RELEASE and SWITCH. -/

namespace Sys2Proof.Machine

def pgLog : Nat := 0x1F0

/-- The size of a bank: 1 MiB (R392). -/
def bankSize : Nat := 1048576

/-! ### The stream -/

/-- Bank A (`false`) or B (`true`). -/
def LogState.bank (l : LogState) (x : Bool) : Bank := if x then l.b else l.a

/-- Put a bank. -/
def LogState.setBank (l : LogState) (x : Bool) (k : Bank) : LogState := if x then { l with b := k } else { l with a := k }

/-- The stream: the content of the older bank, then that of the other. -/
def LogState.stream (l : LogState) : List Byte := (l.bank l.olderB).bytes ++ (l.bank (!l.olderB)).bytes

/-- The place of a position in the stream. -/
def LogState.place (l : LogState) (p : LogPos) : Nat :=
  if p.bankB == l.olderB then p.off else (l.bank l.olderB).bytes.length + p.off

/-- The position `k` bytes into the stream. The end of a CLOSED older bank is the start of the other (DEDUCED, log entry 72). -/
def LogState.at_ (l : LogState) (k : Nat) : LogPos :=
  let n := (l.bank l.olderB).bytes.length
  if k < n || (k == n && (l.bank l.olderB).st == .filling) then { bankB := l.olderB, off := k }
  else { bankB := !l.olderB, off := k - n }

/-- AVAIL and UNREL (R395, R397). -/
def LogState.avail (l : LogState) : Nat := l.stream.length - l.place l.rp
def LogState.unreleased (l : LogState) : Nat := l.stream.length - l.place l.rel

/-- The positions where they are named by the bank they lie in. -/
def LogState.settle (l : LogState) : LogState :=
  { l with rp := l.at_ (l.place l.rp), mark := l.at_ (l.place l.mark), rel := l.at_ (l.place l.rel) }

/-- ABOVE (R397). -/
def State.logAbove (s : State) : Bool := Nat.blt (32 * s.fld pgLog R.LOG_WM) s.log.unreleased

/-- The events of a change of the stream (R397): AVAIL leaves 0, ABOVE goes from 0 to 1. -/
def logNote (a b : State) : State :=
  let c := if a.log.avail == 0 && b.log.avail != 0 then b.raise pgLog 0 else b
  if !a.logAbove && b.logAbove then
    ((c.setB pgLog R.LOG_STAT_WM_HIT true).countSat pgLog R.LOG_XING_WM_CROSSINGS).raise pgLog 1
  else c

/-! ### Writing -/

/-- The bytes of a record (R390): its header, SEQ and LOST_BEFORE taken at the write, and its payload in whole granules. -/
def logBytes (r : LogRec) (seq : Nat) (lost : Bool) : List Byte :=
  let gran := (r.payload.length + 3) / 4
  let dw0 := r.type + gran * 2 ^ 16 + b2n lost * 2 ^ 22 + b2n r.tsInvalid * 2 ^ 23
  let words := [BitVec.ofNat 32 dw0, BitVec.ofNat 32 (seq + r.page * 2 ^ 16)] ++ timeTriple r.tl ++
    [BitVec.ofNat 32 (r.code + r.arg0 * 2 ^ 16), BitVec.ofNat 32 r.arg1, BitVec.ofNat 32 r.arg2] ++ r.payload ++
    List.replicate (4 * gran - r.payload.length) 0
  words.flatMap fun w => leBytes w.toNat 4

/-- Bank `x`, which is FREE, becomes FILLING: a bank change (R393). -/
def State.logFill (s : State) (x : Bool) : State :=
  ({ s with log := (s.log.setBank x { st := .filling, bytes := [] }).settle }.stop .logSwitch).raise pgLog 4

/-- Close FILLING bank `x`; the other becomes FILLING if it is FREE. -/
def State.logClose (s : State) (x : Bool) : State :=
  let l := s.log.setBank x { s.log.bank x with st := .closed }
  let s1 := { s with log := { l with olderB := x }.settle }
  if (s1.log.bank (!x)).st == .free then s1.logFill (!x) else { s with log := l.settle }.stop .logSwitch

/-- The FILLING bank. -/
def LogState.filling (l : LogState) : Option Bool :=
  if l.a.st == .filling then some false else if l.b.st == .filling then some true else none

/-- The bank that has become FREE and takes the next record while none is FILLING; of two FREE banks the older one (DESIGN CHOICE, log
entry 72). -/
def LogState.freed (l : LogState) : Option Bool :=
  if (l.bank l.olderB).st == .free then some l.olderB
  else if (l.bank (!l.olderB)).st == .free then some (!l.olderB)
  else none

/-- Write a record at the write point of FILLING bank `x`; the timer of R393 holds when its first record was written. -/
def State.logPut (s : State) (x : Bool) (r : LogRec) : State :=
  let k := s.log.bank x
  let l := s.log.setBank x { k with bytes := k.bytes ++ logBytes r s.log.seq s.log.lostBefore }
  let t := { s with log := { l with seq := (l.seq + 1) % 2 ^ 16, lostBefore := false } }
  if k.bytes.isEmpty then t.start .logSwitch 0 else t

/-- A record is lost (R394). It takes its number of SEQ with it, so that the gap shows how many were lost (DEDUCED, log entry 175). -/
def State.logLose (s : State) : State :=
  let t := { s with log := { s.log with lostBefore := true, seq := (s.log.seq + 1) % 2 ^ 16 } }
  ((t.countSat pgLog R.LOG_LOST_CNT).setB pgLog R.LOG_STAT_LOST true).raise pgLog 2

/-- A record reaches LOG-P1 and goes to a bank (R392). -/
def State.logEnter (s : State) (r : LogRec) : State :=
  let n := (logBytes r 0 false).length
  match s.log.filling with
  | some x =>
    if (s.log.bank x).bytes.length + n ≤ bankSize then s.logPut x r
    else
      let t := s.logClose x
      match t.log.filling with
      | some y => t.logPut y r
      | none => t.logLose
  | none =>
    match s.log.freed with
    | some x => (s.logFill x).logPut x r
    | none => s.logLose

/-- The oldest record on its way is written. -/
def State.logWrite (s : State) : State :=
  match s.log.coming with
  | [] => s
  | r :: rest => logNote s ({ s with log := { s.log with coming := rest } }.logEnter r)

/-- The FILLING bank closes where it holds a record and the other bank is FREE (R393). -/
def State.logSwitchNow (s : State) : State :=
  match s.log.filling with
  | none => s
  | some x =>
    if !(s.log.bank x).bytes.isEmpty && (s.log.bank (!x)).st == .free then s.logClose x else s

/-! ### Reading and commands -/

/-- A read of `n` bytes of the port (R395). -/
def State.logRead (s : State) (n : Nat) : State :=
  let l := s.log
  let k := min n l.avail
  let data := (l.stream.drop (l.place l.rp)).take k ++ List.replicate (n - k) 0xFF
  let t := { s with log := { l with rp := l.at_ (l.place l.rp + k) } }.emit (.portData data)
  if k < n then ((t.setB pgLog R.LOG_STAT_UNDERRUN true).countSat pgLog R.LOG_UNDER_CNT).raise pgLog 3 else t

/-- Free the CLOSED bank `x` where its end lies at or before the release point. -/
def LogState.release (l : LogState) (x : Bool) : LogState :=
  let k := l.bank x
  if l.olderB == x && k.st == .closed && k.bytes.length ≤ l.place l.rel then
    let p (q : LogPos) : LogPos := if q.bankB == x then { bankB := !x, off := 0 } else q
    { l.setBank x { st := .free, bytes := [] } with olderB := !x, rp := p l.rp, mark := p l.mark, rel := p l.rel }.settle
  else l

/-- A write of LOG_CMD (R396): its bits act in the order REWIND, MARK, RELEASE, SWITCH. -/
def State.logCmd (s : State) (v : Word) : State :=
  let b i := v.getLsbD i
  let l1 := if b 0 then { s.log with rp := s.log.mark } else s.log
  let l2 := if b 1 then { l1 with mark := l1.rp } else l1
  let l3 := if b 2 then (let l := { l2 with rel := l2.mark }; (l.release l.olderB).release (!l.olderB)) else l2
  let t := logNote s { s with log := l3 }
  if b 3 then t.logSwitchNow else t

/-- SWITCH_TIME, as LOG_CFG now has it, has passed since the first record of the FILLING bank (R393). -/
def State.logSwitchDue (s : State) : Bool :=
  let sw := s.fld pgLog R.LOG_CFG_SWITCH_TIME
  sw != 0 && s.timers.any fun e => e.1 == .logSwitch && Nat.ble (e.2 + msT sw) s.time.tl

def State.logTimer (s : State) : State := if s.logSwitchDue then s.logSwitchNow else s

end Sys2Proof.Machine
end

