-- ==== Sys2Proof/Machine/Views.lean ====
section
/-! DEFINITION. What a register reads as: the registers whose value follows other state, the live or staged copy under VIEW (R105),
the snapshot of a frozen page (R107), and the body of a page that is off or not served (R110, R112). -/

namespace Sys2Proof.Machine

/-- A word whose bits are these. -/
def wordOf (n : Nat) : Word := BitVec.ofNat 32 n

/-- PAGE_STAT of page `p`. -/
def State.pageStat (s : State) (p : Nat) : Nat :=
  let powered := s.pageOn p
  b2n (powered && (s.reachedBy p).any s.up) + 2 * b2n (s.inTest p) + 4 * s.fld p R.PAGE_STAT_ON_RESERVE
    + 8 * b2n (s.flag p R.PAGE_STAT_SCRATCHED || (s.reachedBy p).any fun d => s.isolatedDomain d || s.scratched (0xA00 + d)) + 16 * b2n powered

/-- The header registers that follow other state. -/
def State.headView (s : State) (m p off : Nat) : Option Word :=
  if off == 0x008 then
    some (setBits (s.rd p off) 3 3 (b2n (s.views.contains (p * 8 + m))))
  else if off == 0x00C then some (wordOf (s.pageStat p))
  else if off == 0x018 then some (s.irqPend p)
  else if off == 0x02C then some s.heat.live
  else if off == 0x030 then some (setBits (wordOf (s.pageTag p)) 31 31 (b2n (s.pageDirty p)))
  else none

/-- The state of a bank as LOG_STAT shows it. -/
def BankState.code : BankState → Nat
  | .free => 0
  | .filling => 1
  | .closed => 2

def State.logView (s : State) (off : Nat) : Option Word :=
  let l := s.log
  if off == 0x048 then
    let w := setBits (s.rd pgLog off) 0 0 (b2n (l.avail == 0))
    some (setBits (setBits (setBits w 4 3 l.a.st.code) 6 5 l.b.st.code) 7 7 (b2n s.logAbove))
  else if off == 0x04C then some (wordOf l.avail)
  else if off == 0x050 then some (wordOf l.unreleased)
  else if off == 0x064 then some (wordOf l.seq)
  else if off == 0x068 then some (wordOf (l.rp.off % 2 ^ 20 + b2n l.rp.bankB * 2 ^ 20))
  else if off == 0x06C then some (wordOf (l.mark.off % 2 ^ 20 + b2n l.mark.bankB * 2 ^ 20))
  else none

/-- HEAT_STAT, HEAT_STORE_FREE, HEAT_OPEN_SIZE and the armed tags. Where the open heat holds more records than a field of HEAT_OPEN_SIZE can show,
the field shows the largest value that it can (DESIGN CHOICE, log entry 190). -/
def State.heatView (s : State) (off : Nat) : Option Word :=
  if off == 0x05C then
    some (setBits (setBits (s.rd pgHeat off) 0 0 (b2n s.heat.checking.isSome)) 12 8 s.heat.armed.length)
  else if off == 0x060 then some (wordOf s.storeFree)
  else if off == 0x064 then some (wordOf (min s.notArmed.regs.length 0x1FFF + min s.notArmed.tbls.length 0x3FFF * 2 ^ 16))
  else if 0x080 ≤ off && off < 0x0C0 then some ((s.heat.armed.map (·.tag)).getD ((off - 0x080) / 4) 0)
  else none

/-- PERR_LEVEL and the oldest entry of a posted-error log. -/
def State.bridgeView (s : State) (p off : Nat) : Option Word :=
  let log := (s.bridgeOf (if p == 0x021 then 10 else 0)).log
  let e (f : PostedError → Nat) : Option Word := some (wordOf ((log.head?.map f).getD 0))
  if off == 0x048 then some (wordOf log.length)
  else if off == 0x060 then e fun x => x.baton + x.master * 2 ^ 16 + x.vf * 2 ^ 20
  else if off == 0x064 then e fun x => x.offset + x.bar * 2 ^ 26
  else if off == 0x068 then e fun x => x.data.toNat
  else if off == 0x06C then e fun x => x.code + x.dw * 2 ^ 16
  else none

/-- The function of an FN page. -/
def pageFn (p : Nat) : Nat := if p == 0x032 then 10 else p - 0x028

def State.fnView (s : State) (p off : Nat) : Option Word :=
  let fn := pageFn p
  if off == 0x040 then some (wordOf ((mget s.bridge.last fn).getD 0))
  else if off == 0x050 then some (s.ringPend p)
  else if 0x100 ≤ off && (off - 0x100) % 64 == 0x30 && ringExists fn ((off - 0x100) / 64) then
    some (wordOf (s.ring fn ((off - 0x100) / 64)).held)
  else none

/-- The event aggregator: FAULT_STAT, AGG_ACTIVE, AGG_ROUTE.ACTIVE. -/
def State.aggView (s : State) (p off : Nat) : Option Word :=
  if p == pgAggCtrl then
    if off == 0x040 then
      some (wordOf (s.fault.fixed + b2n s.faultRouted * 2 ^ 7 + b2n s.faultForced * 2 ^ 8 + b2n s.fault.pin * 2 ^ 16))
    else if 0x080 ≤ off && off < 0x0C0 then
      let k := 32 * ((off - 0x080) / 4)
      some (wordOf ((List.range 32).foldl (fun a i => a + b2n (s.sourceActive (k + i)) * 2 ^ i) 0))
    else none
  else if 0x040 ≤ off && off < 0x840 then
    some (setBits (s.rd p off) 16 16 (b2n (s.sourceActive ((off - 0x040) / 4))))
  else none

/-- The words of a time as its group of registers gives them: FRAC, NS, SEC_LO, SEC_HI. -/
def timeWord (t i : Nat) : Word :=
  match i with
  | 0 => wordOf (timeFrac t)
  | 1 => wordOf (timeNs t)
  | 2 => wordOf (timeSec t)
  | _ => wordOf (timeSec t / 2 ^ 32)

/-- The time words of group `g` (0 to 3 the domains, 4 TL): FRAC reads the counter, the others what the last read of FRAC latched
(R313). -/
def State.timeView (s : State) (m g i : Nat) : Word :=
  if i == 0 then timeWord (s.clock g) 0 else timeWord (s.latched g m) i

/-- Bytes `4 * k` to `4 * k + 3` of a list, the first in the highest byte. -/
def beWord (l : List Byte) (k : Nat) : Word := wordOf (beAt (padTo (l.drop (4 * k)) 4) 0 4)

/-- Length and bytes of the certificate that CERT_SEL names (R412): the identity's stands in OTP, in BLANK where the factory has put it there; the
alias's is there once it is issued; the production CA's comes with the firmware image. -/
def State.certificate (s : State) : Nat × (Nat → Byte) :=
  match s.fld pgAttest R.CERT_SEL % 3 with
  | 0 => (if s.mode.life == .blank && !Config.otpReady then 0 else min 1024 Config.idCertLen.toNat, Config.idCertByte)
  | 1 =>
    match s.key.aliasNonce with
    | none => (0, fun _ => 0)
    | some r =>
      let pub := Config.public384 s.key.aliasKey
      (min 1024 (Config.aliasCertLen pub s.measurement s.key.idKey r).toNat, Config.aliasCertByte pub s.measurement s.key.idKey r)
  | _ => (min 1024 (Config.caCertLen s.key.bodyHash).toNat, Config.caCertByte s.key.bodyHash)

/-- Byte `i` of CERT_OUT: 0 beyond the certificate. -/
def State.certByte (s : State) (i : Nat) : Byte := if i < s.certificate.1 then s.certificate.2 i else 0

def State.keyView (s : State) (p off : Nat) : Option Word :=
  if p == pgNvm && off == 0x040 then
    let k := s.key
    some (wordOf (b2n (!k.writes.isEmpty) + min 16 (k.writes.length - 1) * 2 + b2n k.bootLost * 2 ^ 6 + b2n k.bootConflict * 2 ^ 7
      + b2n k.reserveBank.isSome * 2 ^ 8 + k.lostPos * 2 ^ 16 + k.conflictPos * 2 ^ 24))
  else if p == pgAttest then
    if off == 0x104 then some (wordOf s.certificate.1)
    else if 0x400 ≤ off && off < 0x800 then
      some (beWord ((List.range 4).map fun i => s.certByte ((off - 0x400) / 4 * 4 + i)) 0)
    else if 0x800 ≤ off then some (beWord s.key.statement ((off - 0x800) / 4))
    else none
  else if p == pgLife then
    if off == 0x044 then some (setBits (s.rd p off) 0 0 (b2n s.key.lcRun.isSome))
    else if off == 0x050 then some (wordOf s.key.rollback)
    else if off == 0x048 then some (wordOf s.key.nonce.toNat)
    else if off == 0x04C then some (wordOf (s.key.nonce.toNat / 2 ^ 32))
    else none
  else none

/-- ST_STAT (R429). -/
def State.stStat (s : State) : Word :=
  let op := s.test.op
  let unit := (s.test.run.map (·.unit)).getD 0
  let slice := (s.test.run.map (·.slice)).getD 0
  wordOf ((if op == 4 then 1 else op) + 4 * b2n (s.test.waiting.isSome || s.test.lapDue) + slice * 2 ^ 8 + unit * 2 ^ 16)

/-- The registers of the body that follow other state. -/
def State.bodyView (s : State) (m p off : Nat) : Option Word :=
  if p == 0x000 then
    if off == 0x040 then some s.modeWord
    else if off == 0x050 then some (wordOf s.key.uid.toNat)
    else if off == 0x054 then some (wordOf (s.key.uid.toNat / 2 ^ 32))
    else none
  else if p == pgHeat then s.heatView off
  else if p == 0x020 || p == 0x021 then s.bridgeView p off
  else if 0x028 ≤ p && p ≤ 0x032 then s.fnView p off
  else if p == pgLog then s.logView off
  else if p == pgAggCtrl || p == pgAggRoute then s.aggView p off
  else if p == pgBuf then
    if off == 0x040 then some (wordOf s.freeCells) else if off == 0x044 then some (wordOf s.reserveCells) else none
  else if p == 0x180 then
    if 0x040 ≤ off && off < 0x050 then some (s.timeView m 4 ((off - 0x040) / 4)) else none
  else if 0x181 ≤ p && p ≤ 0x184 then
    if 0x060 ≤ off && off < 0x070 then some (s.timeView m (p - 0x181) ((off - 0x060) / 4)) else none
  else if p == pgNvm || p == pgAttest || p == pgLife then s.keyView p off
  else if p == pgSt && off == 0x048 then some s.stStat
  else if p == pgMbist && off == 0x048 then some (wordOf s.test.fuses.length)
  else if hasTable p && off == 0x048 then some (setBits (s.rd p off) 2 2 (b2n s.heat.liveE))
  else none

/-! ### Counters -/

/-- The offsets of the LO words of the 64-bit counters of page `p` (R142, R212). -/
def wideCounter (p off : Nat) : Bool :=
  (0x040 ≤ p && p ≤ 0x05B && (off == 0x080 || off == 0x088 || off == 0x0C0 || off == 0x0C8))
    || ((p == 0x090 || p == 0x091) && off == 0x080)

/-- A read of the register has an effect of its own (a FIFO window, a mailbox header, the fence, DRBG_OUT): its RC code is not that of a
counter. -/
def readActs (p off : Nat) : Bool :=
  (0x100 ≤ p && p ≤ 0x12F && (off == 0x160 || (0x400 ≤ off && off ≤ 0x480)))
    || (0x028 ≤ p && p ≤ 0x032 && off == 0x044)
    || (p == pgDrbg && off == 0x048) || (p == pgMbist && off == 0x040)
    || (p == pgCapture && 0x044 ≤ off && (off - 0x044) % 32 == 0 && off < 0x144)

/-- The register at `off` of page `p` holds counters: fields of code RC that are no window. -/
def countsAt (p off : Nat) : Bool :=
  !readActs p off && (regFields p off).any fun f => f.acc == .rc

/-- The bits of a register that are a counter of code ROV, which FREEZE latches like the others (R107): TEC and REC of CAN_ECNT, PULSES of
PST_STAT, FEC of PN_STAT. -/
def rovCounters (p off : Nat) : Word :=
  if 0x100 ≤ p && p ≤ 0x12F && off == R.CAN_ECNT_TEC.off then 0x00FF01FF
  else if p == pgPistol && 0x05C ≤ off && off < 0x25C && (off - 0x05C) % 32 == 0 then 0x0000FFFF
  else if p == 0x1D2 && 0x114 ≤ off && off < 0x714 && (off - 0x114) % 32 == 0 then 0x00001F00
  else 0

/-- FREEZE of page `p` (R107). -/
def State.frozen (s : State) (p : Nat) : Bool := s.flag p R.PAGE_CTRL_FREEZE

/-- The running value of the counter word at `off`. -/
def State.counterAt (s : State) (p off : Nat) : BitVec 64 :=
  if wideCounter p off then (mget s.wide (regKey p off)).getD 0
  else BitVec.ofNat 64 (s.rd p off).toNat

/-- The value that a read of a counter gives: the snapshot while the page is frozen. -/
def State.counterRead (s : State) (p off : Nat) : BitVec 64 :=
  if s.frozen p then (mget s.snap (regKey p off)).getD 0 else s.counterAt p off

/-! ### A register as a master reads it -/

/-- The stored register with its RWS bits from the copy that VIEW selects, and its WO bits 0. -/
def State.plainView (s : State) (m p off : Nat) (base : Word) : Word :=
  let staged := accMask (· == .rws) p off
  let hidden := accMask (· == .wo) p off
  let w := if s.views.contains (p * 8 + m) then (base &&& ~~~ staged) ||| (s.stagedRd p off &&& staged) else base
  w &&& ~~~ hidden &&& accMask (fun _ => true) p off

/-- What a read by master `m` of the register at `off` of a page that its domain powers returns, apart from the effects of reading. -/
def State.readWord (s : State) (m p off : Nat) : Word :=
  if off < 0x040 then
    if off == 0x028 && s.frozen p then wordOf (s.counterRead p off).toNat
    else s.plainView m p off ((s.headView m p off).getD (s.rd p off))
  else if !s.pageUp p || s.pageUnserved p then 0
  else if s.readsLinCounter m p off then wordOf (s.counterRead p (off + 0xF00)).toNat
  else if 0x140 ≤ p && p ≤ 0x14B && 0xF80 ≤ off then 0
  else if p == pgKeySlot && 0x050 ≤ off && off < 0x070 && !s.key.shown then 0
  else
    match s.bodyView m p off with
    | some w => w
    | none =>
      if countsAt p off then wordOf ((s.counterRead p off).toNat % 2 ^ 32)
      else
        let w := s.plainView m p off (s.rd p off)
        let k := rovCounters p off
        if s.frozen p then (w &&& ~~~ k) ||| (wordOf (s.counterRead p off).toNat &&& k) else w

end Sys2Proof.Machine
end

