-- ==== Sys2Proof/Machine/HostRead.lean ====
section
/-! DEFINITION. Reads of the register window (R102, R103, R107 to R112, R142, R371, R373): which reads are answered, what a read
returns, and what reading does. -/

namespace Sys2Proof.Machine

/-! ### Who may access what -/

/-- The right that bit `k` of LOCK gives M2, bit `k` + 1 the VFs in VF_MASK, bit `k` + 2 M4; M0 and M1 always have it (R108). -/
def State.lockGives (s : State) (m : Master) (p k : Nat) : Bool :=
  let l := (s.rd p R.LOCK_RD.off).toNat
  match m with
  | .m0 => true
  | .m1 => true
  | .m2 => bit l k
  | .m3 v => bit l (k + 1) && bit l (16 + v.val)
  | .m4 => bit l (k + 2)

/-- LOCK admits master `m` to read page `p` (R108, R109). -/
def State.mayRead (s : State) (m : Master) (p : Nat) : Bool := s.lockGives m p 0

/-- LOCK admits master `m` to write page `p`. Page 0x010 ignores WR_M3 and WR_M4 (R117); pages 0x1C0 to 0x1CF (R442) and 0x1E0 to
0x1EF (R462) ignore every WR bit. -/
def State.mayWrite (s : State) (m : Master) (p : Nat) : Bool :=
  let closed : Bool := match m with
    | .m0 => false
    | .m1 => false
    | .m2 => p / 16 == 0x1C || p / 16 == 0x1E
    | _ => p == pgHeat || p / 16 == 0x1C || p / 16 == 0x1E
  !closed && s.lockGives m p 8

/-- The register window answers master `m`: the Coach runs in PD3 on PLL1 and is not held (R87, R101, R471); the bridges are in PD4, and BAR0 is decoded once the
boot measurement is complete (R35, R98, R471), of a VF that is there (R368). -/
def State.windowOpen (s : State) (m : Master) : Bool :=
  match m with
  | .m0 => s.on 3 && !s.fault.lockstep && s.clocked 1 && s.boot.step != .failed
  | .m3 v => s.on 4 && s.boot.measured && s.fnOn (2 + v.val)
  | _ => s.on 4 && s.boot.measured

/-- The code with which R103 or R109 rejects an access of master `m` to page `p` at `off`; 0 where it does not. An access that is misaligned and
also names an unmapped or unreadable page is reported as ACCESS_ALIGN, and so is one of a length other than a word (DESIGN CHOICE, log
entry 147: R103 gives no order of its codes). -/
def State.rejection (s : State) (m : Master) (p off : Nat) : Nat :=
  if off % 4 != 0 then Code.ACCESS_ALIGN
  else if !mapped p || !s.mayRead m p then Code.PAGE_UNMAPPED
  else 0

/-- DEV captures a rejected access, with its byte offset in the window (R103), and raises ACCESS_ERR. -/
def State.rejectAccess (s : State) (m : Master) (addr code : Nat) : State :=
  (s.capture 0 addr code (Master.num m) (Master.normal m)).raise 0 1

/-- The number by which a completion names who asked: each function has its own. A latch of R116 names the master, and the VFs are one (log entry
75). -/
def ownerId (m : Master) : Nat :=
  match m with
  | .m3 v => 3 + 8 * v.val
  | _ => Master.num m

/-- An access of master `m` to page `p` restarts the 1 ms of a latch that it holds (R116). -/
def State.touch (s : State) (m : Master) (p : Nat) : State :=
  if mget s.owners p == some (Master.num m) then s.start (.tblOwner p) (msT 1) else s

/-! ### Counters -/

/-- What is left of an RC register when its fields are read as `w` (R107). -/
def leftOf (p off : Nat) (now w : Word) : Word :=
  (regFields p off).foldl (fun a f =>
    if f.acc == .rc then
      setBits a f.hi f.lo (getBits now f.hi f.lo + 2 ^ (f.hi + 1 - f.lo) - getBits w f.hi f.lo)
    else a) now

/-- A read of the counter register at `off`: its value, which is taken from it. While the page is frozen the value is that of the snapshot,
of which nothing is left for a second read (DESIGN CHOICE, log entry 76). Reading the LO word of a 64-bit counter clears the counter and
latches the HI word (R142). -/
def State.takeCounter (s : State) (p off : Nat) : State × Word :=
  let v := s.counterRead p off
  let w := wordOf v.toNat
  let s1 := if s.frozen p then { s with snap := mdel s.snap (regKey p off) } else s
  if wideCounter p off then
    let left := s.counterAt p off - v
    let s2 := { s1 with wide := if left = 0 then mdel s1.wide (regKey p off) else mset s1.wide (regKey p off) left }
    (s2.wr p (off + 4) (wordOf (v.toNat / 2 ^ 32)), w)
  else (s1.wr p off (leftOf p off (s1.rd p off) w), w)

/-- The offsets of the counter registers of page `p`. -/
def counterOffs (p : Nat) : List Nat :=
  (pageRegs p).flatMap fun r =>
    ((List.range r.count).map fun i => r.base + r.stride * i).filter fun o => countsAt p o || rovCounters p o != 0

/-- FREEZE of page `p` goes from 0 to 1: a snapshot of every counter (R107). -/
def State.snapshot (s : State) (p : Nat) : State :=
  { s with snap := (counterOffs p).foldl (fun m off =>
      if s.counterAt p off = 0 then mdel m (regKey p off) else mset m (regKey p off) (s.counterAt p off)) s.snap }

/-! ### The effect of reading -/

/-- The group of time words (0 to 3 the domains, 4 TL) whose FRAC word is at `off` of page `p` (R313). -/
def fracGroup (p off : Nat) : Option Nat :=
  if p == 0x180 && off == 0x040 then some 4
  else if 0x181 ≤ p && p ≤ 0x184 && off == 0x060 then some (p - 0x181)
  else none

/-- A read of a register of the body that is powered and served, by master number `m`: the state after it and the value. -/
def State.readBody (s : State) (m p off : Nat) : State × Word :=
  let c := p - 0x100
  let i := (off - 0x200) / 4
  if 0x100 ≤ p && p ≤ 0x12F && off == 0x160 then s.txevRead c
  else if 0x100 ≤ p && p ≤ 0x12F && 0x400 ≤ off && off ≤ 0x480 then s.mbOpen c ((off - 0x400) / 4)
  else if p == pgDrbg && off == 0x048 then s.drbgRead
  else if p == pgMbist && off == 0x040 then s.mbPop
  else if p == pgCapture && readActs p off then s.capPop ((off - 0x044) / 32)
  else if 0x140 ≤ p && p ≤ 0x14B && 0x200 ≤ off && off < 0x400 then s.linRead (p - 0x140) (i / 2) (i % 2 == 1)
  else if s.readsLinCounter m p off then s.takeCounter p (off + 0xF00)
  else if 0x140 ≤ p && p ≤ 0x14B && 0xF80 ≤ off then (s, 0)
  else
    match fracGroup p off with
    | some g => (s.latchTime g m, s.readWord m p off)
    | none => if countsAt p off then s.takeCounter p off else (s, s.readWord m p off)

/-- A read by master `m` that the page answers now. -/
def State.readNow (s0 : State) (m : Master) (p off : Nat) : State × Word :=
  let s := s0.touch m p
  if off < 0x040 then
    if off == 0x028 then s.takeCounter p off else (s, s.readWord (Master.num m) p off)
  else if !s.pageUp p || s.pageUnserved p then (s, 0)
  else s.readBody (Master.num m) p off

/-! ### The fence -/

/-- The register is BRG_FENCE of a function: its number. -/
def fenceOf (p off : Nat) : Option Nat :=
  if 0x028 ≤ p && p ≤ 0x032 && off == R.BRG_FENCE_FAILED.off then some (pageFn p) else none

/-- The fence of `fn` completes for master `m`: the failures since its own last fence read, which only the function itself clears, and
the baton that the read covers (R373). -/
def State.fenceDone (s : State) (m : Master) (fn baton : Nat) : State × Word :=
  let w := wordOf ((mget s.bridge.failed fn).getD 0 + baton * 2 ^ 16)
  (if Master.fn m == some fn then { s with bridge := { s.bridge with failed := mdel s.bridge.failed fn } } else s, w)

/-- A request is posted: a memory write. Configuration writes and reads are not. -/
def Inbound.posted (x : Inbound) : Bool := !x.read && x.w != .msixControl && x.w != .sriov

/-- A stalled access is a posted write: of a word of the register window, or through BAR2 or BAR4. -/
def Stalled.posted (x : Stalled) : Bool :=
  match x with
  | .write .. => true
  | .window r _ => r.posted
  | _ => false

/-- A stalled access came over the link: not a fence read of the Coach (R373). -/
def Stalled.linked (x : Stalled) : Bool :=
  match x with
  | .fence .m0 _ _ _ => false
  | _ => true

/-- A stalled write is ahead on the bridge of `fn` (R111). -/
def State.writeAhead (s : State) (fn : Nat) : Bool := (s.bridgeOf fn).stall.any Stalled.posted

/-- The batons of the outstanding writes of function `fn`: those stalled, and the one that waits for a record write. -/
def State.outstanding (s : State) (fn : Nat) : List Nat :=
  let held := (s.bridgeOf fn).stall.filterMap fun x => match x with
    | .write m e _ _ _ => if Master.fn m == some fn then some e.baton else none
    | .window r e => if x.posted && Master.fn r.m == some fn then some e.baton else none
    | _ => none
  held ++ match s.bridge.keyWrite with
    | some (m, e) => if Master.fn m == some fn then [e.baton] else []
    | none => []

/-- Put an access at the end of the stalled accesses of the bridge of `fn`. -/
def State.stallPut (s : State) (fn : Nat) (x : Stalled) : State :=
  let b := s.bridgeOf fn
  s.setBridge fn { b with stall := b.stall ++ [x] }

/-! ### The credits of a link (R371, R375) -/

/-- The data credits that a request takes, in units of 16 bytes. -/
def Inbound.units (x : Inbound) : Nat := if x.read then 0 else max 1 (ceilDiv x.dw 4)

/-- A stalled access holds a non-posted header credit until it completes (DESIGN CHOICE, log entry 149: R375 says when a posted credit
returns, and of the non-posted ones nothing). -/
def Bridge.credits (b : Bridge) : Credits :=
  let posted := b.link.filter Inbound.posted
  let others := b.link.filter fun x => !x.posted
  let reads := (b.stall.filter fun x => !x.posted && x.linked).length
  { ph := 128 - posted.length, pd := 1024 - (posted.map Inbound.units).sum
    nph := 64 - (others.length + reads), npd := 64 - (others.map Inbound.units).sum }

/-- The credits that the endpoint of function `fn` has for its link partner. -/
def State.credits (s : State) (fn : Nat) : Credits := (s.bridgeOf fn).credits

/-- The link partner has the credits to send a request. -/
def Credits.allow (c : Credits) (x : Inbound) : Bool :=
  if x.posted then Nat.ble 1 c.ph && Nat.ble x.units c.pd else Nat.ble 1 c.nph && Nat.ble x.units c.npd

/-- The bridge of `fn` holds its 128 outstanding writes (R371): no further one enters the fabric's posted class, and its credits stay taken. -/
def State.bridgeFull (s : State) (fn : Nat) : Bool :=
  let waits := match s.bridge.keyWrite with
    | some (m, _) => match Master.fn m with
      | some f => if bridgePage f == bridgePage fn then 1 else 0
      | none => 0
    | none => 0
  Nat.ble 128 (((s.bridgeOf fn).stall.filter Stalled.posted).length + waits)

/-- A request of function `fn` has to wait in the link's queue or at its partner: others wait in the queue, or it is a write and the bridge is full,
or it is no posted one and none of their 64 credits is left (R375). -/
def State.linkHolds (s : State) (fn : Nat) (x : Inbound) : Bool :=
  !(s.bridgeOf fn).link.isEmpty || (if x.posted then s.bridgeFull fn else !(s.credits fn).allow x)

/-- A request joins the link's queue where its partner has the credits to send it; otherwise it is not sent. -/
def State.linkPut (s : State) (fn : Nat) (x : Inbound) : State :=
  let b := s.bridgeOf fn
  if b.credits.allow x then s.setBridge fn { b with link := b.link ++ [x] } else s

/-! ### A read command -/

/-- A read by master `m` of page `p` at `off`, taken by the bridge. It stalls behind a page under test and behind a stalled write of its bridge
(R111); a fence waits for the writes of its function (R373). The Coach reads without a bridge and stalls at a fence only (log entry 77). `rdata`
holds what the read returned, and nothing for Unsupported Request, a bus error or a read that has not completed. -/
def State.readTaken (s0 : State) (m : Master) (p off : Nat) : State :=
  let s := { s0 with rdata := none }
  let code := s.rejection m p off
  let fence := if s.pageUp p then fenceOf p off else none
  if !s.windowOpen m then s
  else if code != 0 then s.rejectAccess m (p * 4096 + off) code
  else
    match Master.fn m with
    | none =>
      match fence with
      | some fn =>
        let waits := s.outstanding fn
        let baton := (mget s.bridge.last fn).getD 0
        if !waits.isEmpty then s.stallPut fn (.fence m fn baton waits)
        else
          let (t, w) := s.fenceDone m fn baton
          { t with rdata := some w }
      | none =>
        let (t, w) := s.readNow m p off
        { t with rdata := some w }
    | some f =>
      match fence with
      | some fn =>
        let waits := s.outstanding fn
        let baton := (mget s.bridge.last fn).getD 0
        if s.writeAhead f || !waits.isEmpty then s.stallPut f (.fence m fn baton waits)
        else
          let (t, w) := s.fenceDone m fn baton
          { t with rdata := some w }
      | none =>
        if s.writeAhead f || s.inTest p then s.stallPut f (.read m p off)
        else
          let (t, w) := s.readNow m p off
          { t with rdata := some w }

/-! ### Reads through the windows -/

/-- The vectors of a function: the first, and how many (R368). -/
def vectorsOf (fn : Nat) : Nat × Nat :=
  if fn == 0 then (0, 64) else if fn == 1 then (64, 64) else if fn < 10 then (128 + 16 * (fn - 2), 16) else (256, 16)

/-- The word of BAR4 at `off` of a function (R368): its MSI-X table, whose vectors are masked until a write unmasks them, and from 0x2000
on the pending bits. -/
def State.msixWord (s : State) (fn off : Nat) : Word :=
  let (first, n) := vectorsOf fn
  if off < 16 * n then (mget s.bridge.msixTable (fn * 16384 + off)).getD (if off % 16 == 12 then 1 else 0)
  else if 0x2000 ≤ off then
    let k := 8 * (off - 0x2000)
    wordOf ((List.range 32).foldl (fun a i =>
      if k + i < n && s.bridge.msixPending.contains (first + k + i) then a + 2 ^ i else a) 0)
  else 0

/-- The boot window of PF0 (R98, R100, R369): BOOT_STATUS, and the image buffer, which reads 0 once the boot measurement is complete. -/
def State.bootWindow (s : State) (off : Nat) : Option Word :=
  if off == 0 then some s.bootStatus
  else if 0x10000 ≤ off && off < 0x80000 then
    some (if s.boot.measured then 0 else (mget s.bridge.bootBuffer off).getD 0)
  else none

/-- The words that a read returns: one is the value read, and of several the bytes leave in the order of their addresses (R379). -/
def State.returns (s : State) (l : List Word) : State :=
  match l with
  | [w] => { s with rdata := some w }
  | [] => s
  | _ => s.emit (.portData (l.flatMap fun w => leBytes w.toNat 4))

/-- What a read through BAR2 or BAR4 returns now (R368, R369, R379, R395). The spec lays no configuration space out, so a read of it shows
nothing. -/
def State.otherRead (s : State) (x : Inbound) : State :=
  let offs := (List.range (max 1 x.dw)).map fun k => x.off + 4 * k
  match x.w, x.m, Master.fn x.m with
  | .bar2, .m1, _ => if s.on 4 then s.returns (if (s.bootWindow x.off).isNone then [] else offs.map fun o => (s.bootWindow o).getD 0) else s
  | .bar2, .m4, _ => if s.windowOpen .m4 then s.logRead (x.bytes.getD (4 * x.dw)) else s
  | .bar4, m, some fn => if s.windowOpen m then s.returns (offs.map (s.msixWord fn)) else s
  | _, _, _ => s

/-- The bridge takes a read. In BAR0 only one aligned word may be read (R103); `dw` is 0 for an access narrower than a word. Behind a stalled
write a read waits, whatever its window (R111). -/
def State.takeRead (s : State) (x : Inbound) : State :=
  let none_ : State := { s with rdata := none }
  if x.w == .bar0 then
    if x.dw == 1 then s.readTaken x.m (x.off / 4096) (x.off % 4096)
    else if s.windowOpen x.m then none_.rejectAccess x.m x.off Code.ACCESS_ALIGN
    else none_
  else
    match Master.fn x.m with
    | none => none_
    | some fn =>
      let e : PostedError := { baton := 0, master := Master.num x.m, vf := ownerId x.m / 8, bar := 0, offset := x.off, data := 0, code := 0
                               dw := max 1 x.dw }
      if s.writeAhead fn then none_.stallPut fn (.window x e) else none_.otherRead x

/-- A read request comes: the Coach's goes to its page, that of a function over its link. -/
def State.readComes (s : State) (x : Inbound) : State :=
  match Master.fn x.m with
  | none => s.takeRead x
  | some fn => if s.linkHolds fn x then ({ s with rdata := none }).linkPut fn x else s.takeRead x

/-- A read by master `m` through window `w` at byte offset `addr`, `dw` words long. -/
def State.windowRead (s : State) (m : Master) (w : Window) (addr dw : Nat) : State :=
  s.readComes { m := m, w := w, off := addr, value := 0, more := [], dw := dw, read := true }

/-- A read of `n` bytes of the logbook port, BAR2 of P1, in the order of arrival at P1 (R395, R396). -/
def State.portRead (s : State) (n : Nat) : State :=
  s.readComes { m := .m4, w := .bar2, off := 0, value := 0, more := [], dw := ceilDiv n 4, read := true, bytes := some n }

/-- A read of one aligned word of the register window. -/
def State.hostRead (s : State) (m : Master) (p off : Nat) : State := s.windowRead m .bar0 (p * 4096 + off % 4096) 1

end Sys2Proof.Machine
end

