-- ==== Sys2Proof/Machine/HostWrite.lean ====
section
/-! DEFINITION. Writes of the register window and of the other windows of the functions (R36, R92, R103 to R112, R114, R116 to R118,
R368 to R373): who may write what, what a write of each register does, and how a write that fails is reported. -/

namespace Sys2Proof.Machine

/-- What the target of a write does: the state, and the codes with which it refuses the write or a request of it, each with the value of
ERR_ADDR. -/
abbrev Written := State × List (Nat × Nat)

/-- A write that is taken. -/
def taken (s : State) : Written := (s, [])

/-- A write that is refused with code `c` unless that is 0; ERR_ADDR is `off`. -/
def coded (off : Nat) (x : State × Nat) : Written := (x.1, if x.2 == 0 then [] else [(x.2, off)])

/-! ### The latches of R116 -/

/-- The part a register plays in a window that one master owns at a time: 1 it latches the master, 2 it is data, 3 it is the command
(R116, R266, R405, R415; which registers latch KEY_CTRL, ATTEST and the push window is DEDUCED, log entry 78). -/
def portPart (p off : Nat) : Nat :=
  if (p == 0x090 || p == 0x091) && off == 0x060 then 0
  else if hasTable p && 0x040 ≤ off && off < 0x070 then
    if off == 0x040 then 3 else if off == 0x044 then 1 else if 0x050 ≤ off then 2 else 0
  else if p == pgKeyCtrl then if off == 0x040 then 3 else if 0x044 ≤ off && off < 0x0A0 && off != 0x050 then 1 else 0
  else if p == pgAttest then
    if off == 0x040 then 3 else if off == 0x044 || (0x080 ≤ off && off < 0x0C0) then 1 else 0
  else if 0x100 ≤ p && p ≤ 0x12F then if off == 0x150 then 3 else if 0x100 ≤ off && off < 0x150 then 1 else 0
  else 0

/-- The command of the window is in progress. -/
def State.portBusy (s : State) (p : Nat) : Bool :=
  if hasTable p then s.flag p R.TBL_STAT_BUSY
  else if p == pgKeyCtrl then s.flag p R.KEY_STAT_BUSY
  else if p == pgAttest then s.flag p R.ATT_STAT_BUSY
  else false

/-- The refusal of a write of part `part` by R116; 0 where it is taken. KEY_CMD and GO have refusals of their own while busy (R405,
R415). -/
def State.portRefusal (s : State) (m : Master) (p part : Nat) : Nat :=
  if part == 0 then 0
  else
    let mine : Bool := match mget s.owners p with
      | some o => o == Master.num m
      | none => true
    if !mine then Code.TBL_OWNER
    else if s.portBusy p && (hasTable p || part != 3) then Code.TBL_BUSY
    else 0

/-- Master `m` latches the window of page `p`. -/
def State.latch (s : State) (m : Master) (p : Nat) : State :=
  { s.start (.tblOwner p) (msT 1) with owners := mset s.owners p (Master.num m) }

/-- The latch is released where no command is in progress. -/
def State.portFree (s : State) (p : Nat) : State := if s.portBusy p then s else s.disown p

/-- The 1 ms of a latch are over (R116). -/
def State.ownerExpires (s : State) (p : Nat) : State := if s.due (.tblOwner p) then s.disown p else s

/-! ### Registers without an effect of their own -/

/-- A staged write of the RWS fields of a register (R118). -/
def State.stageReg (s : State) (p off : Nat) (v : Word) : State :=
  let k := accMask (· == .rws) p off
  if k = 0 then s
  else
    let w := (s.stagedRd p off &&& ~~~ k) ||| (v &&& k)
    { s with heat := { s.heat with opn := { s.heat.opn with regs := mset s.heat.opn.regs (regKey p off) w } } }

/-- A write by access codes (R104): RW fields take the value, W1C bits written 1 clear, RWS fields are staged; the others ignore it. -/
def State.plainWrite (s : State) (p off : Nat) (v : Word) : State :=
  let rw := accMask (· == .rw) p off
  let w1c := accMask (· == .w1c) p off
  (s.wr p off (((s.rd p off &&& ~~~ rw) ||| (v &&& rw)) &&& ~~~ (v &&& w1c))).stageReg p off v

/-! ### The header -/

/-- VIEW of a master (R105). -/
def State.setView (s : State) (m p : Nat) (on : Bool) : State :=
  let k := p * 8 + m
  { s with views := (s.views.filter fun x => x != k) ++ if on then [k] else [] }

/-- FREEZE takes a value: a snapshot where it rises; the snapshot is dropped where it falls (R107). -/
def State.setFreeze (s : State) (p : Nat) (on : Bool) : State :=
  let s1 := s.setB p R.PAGE_CTRL_FREEZE on
  if on && !s.frozen p then s1.snapshot p
  else if !on then { s1 with snap := mkeep s1.snap fun k => k / 4096 != p }
  else s1

/-- A page soft reset (R92): the running state of the CAN or LIN channel, its counters, its events and its errors. READY is 1 again at
once, so SOFT_RESET reads 0. -/
def State.softReset (s : State) (p : Nat) : State :=
  if !softResettable p || !s.pageUp p then s
  else
    let s1 := if p < 0x140 then s.canReset (p - 0x100) else s.linReset (p - 0x140)
    { s1.resetFields (fun x => x == p) (fun a => a == .rc || a == .w1c) with snap := mkeep s1.snap fun k => k / 4096 != p }

/-- A write of PAGE_CTRL. -/
def State.pageCtrl (s : State) (m p : Nat) (v : Word) : State :=
  let s1 := ((s.setView m p (v.getLsbD 3)).setFreeze p (v.getLsbD 1)).stageReg p R.PAGE_CTRL_ENABLE.off v
  if v.getLsbD 2 then s1.softReset p else s1

/-- A write of LOCK (R108). -/
def State.lockWrite (s : State) (m : Master) (p : Nat) (v : Word) : Written :=
  if Nat.ble 2 (Master.num m) || s.flag p R.LOCK_FINAL then (s, [(Code.PAGE_LOCKED, 0x034)])
  else
    let s1 := s.plainWrite p R.LOCK_RD.off v
    taken (if v.getLsbD 31 then s1.setB p R.LOCK_FINAL true else s1)

/-- A write of IRQ_RAW (R106). Clearing TL_VOTE ends the FAULT_N condition of R320. -/
def State.irqClear (s : State) (p : Nat) (v : Word) : State :=
  let s1 := s.plainWrite p R.IRQ_RAW.off v
  if p == pgTime && v.getLsbD 3 then { s1 with fault := { s1.fault with tlSplit := false } } else s1

/-- The bits of IRQ_RAW of page `p` that the spec does not call reserved: bits 0 and 31 of page 0x001, bit 31 of an FN page. -/
def irqBits (p : Nat) : Word :=
  if p == 0x001 then 0x80000001 else if 0x028 ≤ p && p ≤ 0x032 then 0x80000000 else 0xFFFFFFFF

/-- A write of a header register. -/
def State.writeHead (s : State) (m : Master) (p off : Nat) (v : Word) : Written :=
  if off == 0x008 then taken (s.pageCtrl (Master.num m) p v)
  else if off == 0x010 then taken (s.irqClear p v)
  else if off == 0x014 then taken (pageNote s p (s.wr p off v))
  else if off == 0x01C then taken (pageNote s p (s.wr p R.IRQ_RAW.off (s.rd p R.IRQ_RAW.off ||| (v &&& irqBits p))))
  else if off == 0x034 then s.lockWrite m p v
  else taken (s.plainWrite p off v)

/-! ### DEV_MODE_REQ and RST_CTRL -/

/-- A write of DEV_MODE_REQ (R36, R38): its requests in the order power, trust, service; each refused one is reported. -/
def State.modeRequest (s : State) (m : Master) (v : Word) : Written :=
  let denied : Written := (s, [(Code.MODE_REQ_DENIED, 0x044)])
  let clear := v.getLsbD 8
  if Nat.ble 2 (Master.num m) || (m == .m0 && clear) then denied
  else
    let none_ (x : State) : State × Nat := (x, 0)
    let a := (s.askTrim (v.getLsbD 0), 0)
    let b := if v.getLsbD 1 then a.1.askRest else none_ a.1
    let c := if clear then b.1.askQuarClear else none_ b.1
    let d := match getBits v 5 4 with
      | 1 => c.1.askHalt
      | 2 => c.1.askMaintain
      | 3 => c.1.askLeave
      | _ => none_ c.1
    (d.1, ([b.2, c.2, d.2].filter (· != 0)).map fun x => (x, 0x044))

/-- A write of RST_CTRL (R92): a warm reset, or the reset of domains. -/
def State.resetRequest (s : State) (m : Master) (v : Word) : Written :=
  if Nat.ble 2 (Master.num m) then (s, [(Code.MODE_REQ_DENIED, 0x040)])
  else if v.getLsbD 0 then taken (s.warmReset R.RST_CAUSE_WARM_REQ)
  else taken (s.domainReset (getBits v 31 16))

/-! ### Bridge, function and logbook pages -/

/-- A write of PERR_POP (R372). -/
def State.perrPop (s : State) (k : Nat) : State :=
  let fn := if k == 0 then 0 else 10
  let b := s.bridgeOf fn
  s.setBridge fn { b with log := b.log.tail }

/-- What follows when the ring events of FN page `p` may have changed between `a` and `b` (R388, R397). -/
def ringNote (a : State) (p : Nat) (b : State) : State :=
  if p == 0x032 then
    (List.range 8).foldl (fun c r =>
      if !(a.ringPend p).getLsbD r && (b.ringPend p).getLsbD r then c.message (256 + r) else c) b
  else (List.range 32).foldl (fun c r => aggNote a (32 * (p - 0x028) + r) c) b

/-- A write to the body of an FN page. -/
def State.writeFn (s : State) (p off : Nat) (v : Word) : Written :=
  if off == R.RING_IRQ_EN.off then taken (ringNote s p (s.plainWrite p off v))
  else if off == R.RING_IRQ_SET.off then
    taken (ringNote s p (s.wr p R.RING_IRQ_RAW.off (s.rd p R.RING_IRQ_RAW.off ||| (v &&& accMask (· == .wo) p off))))
  else if 0x100 ≤ off && ringExists (pageFn p) ((off - 0x100) / 64) then
    coded off (s.ringWrite (pageFn p) ((off - 0x100) / 64) ((off - 0x100) % 64 / 4) v)
  else taken (s.plainWrite p off v)

/-- A write of AGG_ROUTE (R464 to R466): a source that is active may now be routed to a vector or to FAULT_N. -/
def State.writeRoute (s : State) (off : Nat) (v : Word) : State :=
  let k := (off - 0x040) / 4
  let b := s.plainWrite pgAggRoute off v
  if !s.sourceActive k then b
  else
    let c := if b.flag pgAggRoute (R.AGG_ROUTE_FAULT k) && !s.flag pgAggRoute (R.AGG_ROUTE_FAULT k) then b.assertFaultN else b
    let n := b.fld pgAggRoute (R.AGG_ROUTE_VECTOR k)
    if !s.vectorActive n && b.vectorActive n then c.message n else c

/-! ### Ports, CAN, LIN and time pages -/

/-- A write of LANE_PHY or LANE_PRBS (R140): LINK falls where it is now held at 0. -/
def State.writeLane (s : State) (p off : Nat) (v : Word) : State :=
  let s1 := s.plainWrite p off v
  if s1.flag (macPage (p - 0x060)) R.MAC_STAT_LINK && s1.linkBarred (p - 0x060) then s1.linkDown (p - 0x060) else s1

/-- A write of LEARN_FLUSH (R193): refused with TBL_BUSY while a flush of the role runs. -/
def State.writeFlush (s : State) (r off : Nat) (v : Word) : Written :=
  if !v.getLsbD 0 then taken s
  else if s.flushRuns r then (s, [(Code.TBL_BUSY, off)])
  else
    taken (s.flush r (s.servingSlice r) (if v.getLsbD 1 then some (getBits v 6 2) else none)
      (if v.getLsbD 7 then some (getBits v 19 8) else none))

/-- A write of SF_UNBLOCK, SG_REOPEN or MTR_CLEAR (R219, R221, R224). -/
def State.sfUnblock (s : State) (v : Word) : State :=
  if v.getLsbD 31 then { s with fwd := { s.fwd with blocked := s.fwd.blocked.filter fun i => i != getBits v 11 0 } } else s
def State.sgReopen (s : State) (v : Word) : State :=
  if v.getLsbD 31 && (mget s.fwd.gates (getBits v 7 0)).isSome then
    s.setGate (getBits v 7 0) { s.gate (getBits v 7 0) with closed := false }
  else s
def State.mtrClear (s : State) (v : Word) : State :=
  match mget s.fwd.meters (getBits v 10 0) with
  | some x => if v.getLsbD 31 then s.setMeter (getBits v 10 0) { x with allRed := false } else s
  | none => s

/-- A write to transmit buffer `b` of channel `c` (R259, R268): refused on a queue-owned buffer, and while REQ = 1 but for CANCEL. -/
def State.writeTxb (s : State) (c b off : Nat) (v : Word) : Written :=
  let p := canPage c
  let asked := s.flag p (R.TXB_CTRL_REQ b)
  if !s.hostOwned c b then (s, [(Code.CAN_TXB_BAD, off)])
  else if off == (R.TXB_CTRL_REQ b).off then
    if v.getLsbD 1 then
      let s1 := s.txbCancel c b
      if v.getLsbD 0 then coded off (s1.txbReq c b) else taken s1
    else if asked then (s, [(Code.CAN_TXB_BAD, off)])
    else if v.getLsbD 0 then coded off (s.txbReq c b) else taken s
  else if asked then (s, [(Code.CAN_TXB_BAD, off)])
  else taken (s.plainWrite p off v)

/-- A write to the body of CAN page `p`. -/
def State.writeCan (s : State) (p off : Nat) (v : Word) : Written :=
  let c := p - 0x100
  if off == R.TXQ_PUSH.off then taken (s.txqPush c)
  else if off == R.TXQ_CANCEL.off then coded off (s.txqCancel c (getBits v 15 0))
  else if 0x200 ≤ off && off < 0x200 + 3 * 0x50 then s.writeTxb c ((off - 0x200) / 0x50) off v
  else taken (s.plainWrite p off v)

/-- A write to the body of LIN page `p`. -/
def State.writeLin (s : State) (p off : Nat) (v : Word) : State :=
  let i := (off - 0x200) / 4
  if off == R.LIN_CMD_WAKE.off then if v.getLsbD 0 then s.linPulse (p - 0x140) else s
  else if 0x200 ≤ off && off < 0x400 then s.linWrite (p - 0x140) (i / 2) (i % 2 == 1) v
  else s.plainWrite p off v

/-- DOM_CFG (R315, R317). -/
def State.domCfg (s : State) (k : Nat) (v : Word) : Written :=
  let p := pgDom k
  if getBits v 2 0 ≥ 5 || getBits v 15 8 ≥ 128 then (s, [(Code.TIME_CFG_BAD, 0x040)])
  else
    let s1 := s.plainWrite p 0x040 v
    let s2 := if s.fld p R.DOM_CFG_SRC != 0 && s1.fld p R.DOM_CFG_SRC == 0 then s1.freeServo k else s1
    taken (s2.settleGm k)

/-- A write to the body of a domain page. -/
def State.writeDom (s : State) (k off : Nat) (v : Word) : Written :=
  let p := pgDom k
  if off == 0x040 then s.domCfg k v
  else if off == R.DOM_RATE.off then
    if s.fld p R.DOM_CFG_SRC == 0 then taken (s.plainWrite p off v) else (s, [(Code.TIME_SERVO_OWNS, off)])
  else if off == R.HOST_OFS.off then
    if s.fld p R.DOM_CFG_SRC == 2 then taken (s.sample k (signed v.toNat 32 * 256) s.time.tl)
    else (s, [(Code.TIME_CFG_BAD, off)])
  else if off == R.SET_CMD_OP.off then
    match getBits v 1 0 with
    | 1 => coded off (s.timeSet k)
    | 2 => taken (s.timeAdj k)
    | _ => taken s
  else taken (s.plainWrite p off v)

/-- A write of PTP_PORT (R328): intervals out of range, a second slave port of a domain, and a host's write of a role that the Coach owns
are refused. -/
def State.writePtp (s : State) (m : Master) (n off : Nat) (v : Word) : Written :=
  let badLog (x : Nat) : Bool := Nat.ble 4 x && Nat.ble x 8
  let role (w : Word) (k : Nat) : Nat := getBits w (11 + 2 * k) (10 + 2 * k)
  let old := s.rd pgPtp off
  let badRole (k : Nat) : Bool :=
    (role v k == 1 && (List.range 24).any fun j => j != n && s.ptpRole j k == 1)
      || (s.flag (pgDom k) R.DOM_CFG_BMCA_EN && m != .m0 && role v k != role old k)
  if badLog (getBits v 5 2) || badLog (getBits v 9 6) || (List.range 4).any badRole then (s, [(Code.TIME_CFG_BAD, off)])
  else taken ((List.range 4).foldl (fun t k => (s.rolesSettled t k).settleGm k) (s.plainWrite pgPtp off v))

/-- CAP_CFG and CTS_CFG: refused values (R337, R339). -/
def badCapture (v : Word) : Bool := getBits v 2 1 == 3 || getBits v 5 3 ≥ 5
def badCts (v : Word) : Bool := getBits v 7 2 ≥ 48

/-- A write to the body of a time page. -/
def State.writeTime (s : State) (m : Master) (p off : Nat) (v : Word) : Written :=
  let refuse : Written := (s, [(Code.TIME_CFG_BAD, off)])
  if 0x181 ≤ p && p ≤ 0x184 then s.writeDom (p - 0x181) off v
  else if p == pgPtp && 0x040 ≤ off && off < 0x0A0 then s.writePtp m ((off - 0x040) / 4) off v
  else if p == pgCapture && (off - 0x040) % 32 == 0 && off < 0x140 && badCapture v then refuse
  else if p == pgCts && (off - 0x040) % 16 == 0 && off < 0x0C0 && badCts v then refuse
  else taken (s.plainWrite p off v)

/-! ### Keys, self-test -/

/-- A write to the body of ATTEST (R415): GO is taken from M1, M2 and M4, and refused as PAGE_LOCKED from the others (DESIGN CHOICE, log
entry 79); a nonce length above 64 or a time domain above 4 is refused with ATTEST_BUSY. -/
def State.writeAtt (s : State) (m : Master) (off : Nat) (v : Word) : Written :=
  let may : Bool := match m with
    | .m0 => false
    | .m3 _ => false
    | _ => true
  if off == 0x040 then if may then coded off (s.attGo v) else (s, [(Code.PAGE_LOCKED, off)])
  else if off == 0x044 && (getBits v 6 0 < 8 || getBits v 6 0 > 64 || getBits v 10 8 > 4) then (s, [(Code.ATTEST_BUSY, off)])
  else taken (s.plainWrite pgAttest off v)

/-- A write to the body of ST_CTRL (R427, R429). A write of ST_CFG leaves the start of the lap interval where it
was. -/
def State.writeSt (s : State) (m : Master) (off : Nat) (v : Word) : Written :=
  if off == 0x044 then
    let x := s.stCmd (Master.num m) (getBits v 3 0) (getBits v 31 16)
    coded off (if x.1.repairBusy then x.1 else x.1.thenLeave, x.2)
  else
    let s1 := s.plainWrite pgSt off v
    if off == 0x040 then
      taken (s.lapRetimed s1)
    else taken s1

/-! ### The body of a page -/

/-- A write to the table port of page `p` that R116 lets through. What a master writes to TBL_DATA of KEY_SLOT may be key material, and no read
returns it (R400). -/
def State.writePort (s : State) (m : Master) (p off : Nat) (v : Word) : Written :=
  if off == 0x040 then
    let (t, code) := s.tblCmd (Master.num m) p (getBits v 3 0)
    (t, if code == 0 then [] else [(code, (s.rd p R.TBL_IDX.off).toNat)])
  else if off == 0x044 then taken ((s.wr p off v).latch m p)
  else
    let t := s.plainWrite p off v
    taken (if p == pgKeySlot && 0x050 ≤ off && off < 0x070 then { t with key := { t.key with shown := false } } else t)

/-- A write to a register of the body of page `p` outside the windows of R116. A write of MDIO_CFG stops the poll timer of its pair, so the next
poll runs at once (DESIGN CHOICE, log entry 154: R165 does not say when the first poll after a change of POLL_INT comes). -/
def State.writeReg (s : State) (m : Master) (p off : Nat) (v : Word) : Written :=
  let n := Master.num m
  if p == 0x000 && off == 0x044 then s.modeRequest m v
  else if p == 0x001 && off == 0x040 then coded off (s.leanCfg v)
  else if p == 0x005 && off == 0x040 then s.resetRequest m v
  else if p == pgHeat && off == 0x040 then coded off (s.heatCmd m v)
  else if p == pgHeat && off == 0x054 && v.toNat > 999999999 then (s, [(Code.TIME_NS_RANGE, off)])
  else if (p == 0x020 || p == 0x021) && off == 0x04C then taken (s.perrPop (p - 0x020))
  else if 0x028 ≤ p && p ≤ 0x032 then s.writeFn p off v
  else if p == pgLog && off == 0x044 then taken (s.logCmd v)
  else if p == pgLog && off == 0x054 then taken (logNote s (s.plainWrite p off v))
  else if p == pgAggCtrl && off == 0x044 then
    let t := s.plainWrite p off v
    taken (if t.faultForced then t.assertFaultN else t)
  else if p == pgAggRoute && 0x040 ≤ off && off < 0x840 then taken (s.writeRoute off v)
  else if p == pgWakeIn && 0x100 ≤ off && off < 0x200 && off % 16 == 0 then coded off (s.wkCfg ((off - 0x100) / 16) v)
  else if 0x060 ≤ p && p < 0x078 && (off == 0x044 || off == 0x04C) then taken (s.writeLane p off v)
  else if (p == 0x07C || p == 0x07D) && off == 0x044 then coded off (s.mdioCmd (p - 0x07C) v)
  else if (p == 0x07C || p == 0x07D) && off == 0x040 then taken ((s.plainWrite p off v).stop (.mdioPoll (p - 0x07C)))
  else if p == pgFwd && 0x060 ≤ off && off < 0x070 then
    if s.mode.service == .halt && s.heat.live = 0 then taken (s.plainWrite p off v) else (s, [(Code.FWD_SEED_LOCKED, off)])
  else if (p == 0x090 || p == 0x091) && off == 0x060 then s.writeFlush (p - 0x090) off v
  else if p == pgCls && off == 0x174 then taken (s.sfUnblock v)
  else if p == pgGate && off == 0x070 then taken (s.sgReopen v)
  else if p == pgMeter && off == 0x070 then taken (s.mtrClear v)
  else if lanesTable p && 0x100 ≤ off && off < 0x200 && off % 32 == 0x18 then
    taken ((s.plainWrite p off v).noteLevel (p - 0x0C8) ((off - 0x100) / 32))
  else if 0x100 ≤ p && p ≤ 0x12F then s.writeCan p off v
  else if 0x140 ≤ p && p ≤ 0x14B then taken (s.writeLin p off v)
  else if 0x180 ≤ p && p < 0x1A0 then s.writeTime m p off v
  else if p == pgKeyCtrl && off == 0x040 then coded off (s.keyCommand n v)
  else if p == pgKeyCtrl && off == 0x04C && (getBits v 5 0 > 32 || getBits v 13 8 > 32) then (s, [(Code.KEY_USAGE, off)])
  else if p == pgAttest then s.writeAtt m off v
  else if p == pgLife && off == 0x040 then coded off (s.lcRequest n v)
  else if p == pgLife && off == 0x054 then coded off (s.rollbackAdvance n v)
  else if p == pgSt then s.writeSt m off v
  else taken (s.plainWrite p off v)

/-- A write to a register of the body, with the latch of R116. -/
def State.writeOwned (s : State) (m : Master) (p off : Nat) (v : Word) : Written :=
  let part := portPart p off
  let code := s.portRefusal m p part
  if code != 0 then (s, [(code, off)])
  else if hasTable p && part != 0 then s.writePort m p off v
  else if part == 0 then s.writeReg m p off v
  else
    let (t, l) := s.writeReg m p off v
    (if part == 1 then t.latch m p else t.portFree p, l)

/-- What a write to the body of a page that is off may do (R110): stage fields, and stage table entries. -/
def State.writeOff (s : State) (m : Master) (p off : Nat) (v : Word) : Written :=
  let part := portPart p off
  if hasTable p && part != 0 && (part != 3 || getBits v 3 0 == 3 || getBits v 3 0 == 4) then s.writeOwned m p off v
  else if accMask (· == .rws) p off != 0 then taken (s.stageReg p off v)
  else (s, [(Code.PAGE_UNPOWERED, off)])

/-- A write by master `m` that has reached page `p` (R108 to R112). A body write to a page that is both off and scratched with no reserve is
refused with PAGE_SCRATCHED and stages nothing (DESIGN CHOICE, log entry 148: R110 and R112 both apply to it). -/
def State.writePage (s0 : State) (m : Master) (p off : Nat) (v : Word) : Written :=
  let s := s0.touch m p
  if off != 0x034 && !s.mayWrite m p then (s, [(Code.PAGE_LOCKED, off)])
  else if off < 0x040 then s.writeHead m p off v
  else if s.pageUnserved p then (s, [(Code.PAGE_SCRATCHED, off)])
  else if !s.pageUp p then s.writeOff m p off v
  else s.writeOwned m p off v

/-! ### A posted write -/

/-- The write that `e` describes has reached its page: every refusal is captured there (R106), and the write fails once (R372). -/
def State.applyWrite (s : State) (m : Master) (e : PostedError) (p off : Nat) (v : Word) : State :=
  let waited := s.portWaits p
  let (t, l) := s.writePage m p off v
  let t1 := l.foldl (fun x c => x.capture p c.2 c.1 (Master.num m) (Master.normal m)) t
  let t2 := if t1.portWaits p && !waited then { t1 with bridge := { t1.bridge with keyWrite := some (m, e) } } else t1
  match Master.fn m, l with
  | some fn, c :: _ => t2.postedFail fn { e with code := c.1 }
  | _, _ => t2

/-- A posted write of function `fn` that its bridge or window refuses (R103, R369): logged, with what the device captures. -/
def State.refuseWrite (s : State) (m : Master) (e : PostedError) (code : Nat) (captured : Bool) : State :=
  let t := if captured then s.rejectAccess m e.offset code else s
  match Master.fn m with
  | some fn => t.postedFail fn { e with code := code }
  | none => t

/-- The bridge of `fn` accepts a posted write: its baton (R371). -/
def State.nextBaton (s : State) (fn : Nat) : State × Nat :=
  let b := s.bridgeOf fn
  let t := s.setBridge fn { b with baton := (b.baton + 1) % 65536 }
  ({ t with bridge := { t.bridge with last := mset t.bridge.last fn b.baton } }, b.baton)

/-- A write to the register window, of one whole word or not: rejected at the bridge, held behind a page under test or a stalled write (R111), or
applied. -/
def State.windowWrite (s : State) (m : Master) (e : PostedError) (v : Word) (whole : Bool) : State :=
  let p := e.offset / 4096
  let off := e.offset % 4096
  let code := if !whole then Code.ACCESS_ALIGN else s.rejection m p off
  if code != 0 then s.refuseWrite m e code true
  else
    match Master.fn m with
    | some fn => if s.writeAhead fn || s.inTest p then s.stallPut fn (.write m e p off v) else s.applyWrite m e p off v
    | none => s.applyWrite m e p off v

/-! ### The other windows -/

/-- Send the messages that are pending on the vectors of `fn` that are no longer masked (R388). -/
def State.sendPending (s : State) (fn : Nat) : State :=
  if !s.bridge.msixEnabled.contains fn then s
  else
    let (first, n) := vectorsOf fn
    let ready (v : Nat) : Bool := first ≤ v && v < first + n && s.bridge.unmasked.contains v
    let send := s.bridge.msixPending.filter ready
    let s1 := { s with bridge := { s.bridge with msixPending := s.bridge.msixPending.filter fun v => !ready v } }
    send.foldl (fun t v => t.emit (.msi fn (v - first))) s1

/-- A write to BAR4: the MSI-X table, 16 bytes a vector; bit 0 of the fourth word masks it. The pending bits are read-only. -/
def State.msixWrite (s : State) (fn off : Nat) (v : Word) : State :=
  let (first, n) := vectorsOf fn
  if off % 4 != 0 || off ≥ 16 * n then s
  else
    let s1 := { s with bridge := { s.bridge with msixTable := mset s.bridge.msixTable (fn * 16384 + off) v } }
    if off % 16 != 12 then s1
    else
      let k := first + off / 16
      let others := s1.bridge.unmasked.filter fun x => x != k
      let s2 := { s1 with bridge := { s1.bridge with unmasked := if v.getLsbD 0 then others else others ++ [k] } }
      s2.sendPending fn

/-- The port of function `fn` has entered Detect: it answers configuration requests (R98). -/
def State.inDetect (s : State) (fn : Nat) : Bool := if fn == 10 then s.boot.detect1 else s.boot.detect0

/-- A write of the MSI-X control word of a function's configuration space: bit 31 enables MSI-X, bit 30 masks every vector. -/
def State.msixControl (s : State) (fn : Nat) (v : Word) : State :=
  let others := s.bridge.msixEnabled.filter fun x => x != fn
  let s1 := { s with bridge := { s.bridge with msixEnabled := if v.getLsbD 31 && !v.getLsbD 30 then others ++ [fn] else others } }
  s1.sendPending fn

/-- A write of the SR-IOV words of PF1's configuration space: VF Enable in bit 31, NumVFs, which is taken while VF Enable is 0, below. Where VF
Enable falls the VFs go, with their rings (PRESUMED, log entry 203). -/
def State.sriovWrite (s : State) (v : Word) : State :=
  let on := v.getLsbD 31
  let n := getBits v 15 0
  let s1 := if s.bridge.vfEnable && !on then s.vfsGone else s
  { s1 with bridge := { s1.bridge with numVfs := if s.bridge.vfEnable || 8 < n then s.bridge.numVfs else n, vfEnable := on } }

/-- The bridge refuses a write to BAR2: of the image buffer once the boot measurement is complete (R369), or to the logbook port of P1 (DESIGN
CHOICE, log entry 81). -/
def State.bar2Refused (s : State) (x : Inbound) : Bool := x.m != .m1 || (Nat.ble 0x10000 x.off && s.boot.measured)

/-- Put words into the image buffer, in which a write may have any length (R369). -/
def State.bootPut (s : State) (off : Nat) (l : List Word) : State :=
  match l with
  | [] => s
  | v :: t =>
    let s1 : State :=
      if off < 0x80000 then { s with bridge := { s.bridge with bootBuffer := mset s.bridge.bootBuffer off v } } else s
    s1.bootPut (off + 4) t

/-- Words written through BAR4, one after the other. -/
def State.msixPut (s : State) (fn off : Nat) (l : List Word) : State :=
  match l with
  | [] => s
  | v :: t => (s.msixWrite fn off v).msixPut fn (off + 4) t

/-- What a write through BAR2, to the configuration space or through BAR4 does: GO of BOOT_STATUS, the image buffer (R98, R100), the MSI-X table. -/
def State.otherWrite (s : State) (x : Inbound) (e : PostedError) : State :=
  match Master.fn x.m with
  | none => s
  | some fn =>
    match x.w with
    | .bar0 => s
    | .bar2 =>
      if s.bar2Refused x then s.refuseWrite x.m e Code.PAGE_UNMAPPED false
      else if x.off < 0x10000 then (if x.off == 0 && x.value.getLsbD 8 then s.bootGo else s)
      else s.bootPut x.off (x.value :: x.more)
    | .bar4 => s.msixPut fn x.off (x.value :: x.more)
    | .msixControl => if s.inDetect fn && s.fnOn fn then s.msixControl fn x.value else s
    | .sriov => if s.inDetect fn && x.m == .m2 then s.sriovWrite x.value else s

/-- A write through another window than BAR0 waits behind a stalled write of its bridge, unless the bridge refuses it (R111). -/
def State.behind (s : State) (fn : Nat) (x : Inbound) (e : PostedError) : State :=
  if s.writeAhead fn && !(x.w == .bar2 && s.bar2Refused x) then s.stallPut fn (.window x e) else s.otherWrite x e

/-- The bridge takes a write: one 32-bit word where `dw` is 1, the first of several words otherwise, 0 for one narrower than a word. A posted
write gets its baton. The Coach has the register window only. -/
def State.takeWrite (s : State) (x : Inbound) : State :=
  let e : PostedError := { baton := 0, master := Master.num x.m, vf := ownerId x.m / 8, bar := 0, offset := x.off, data := x.value, code := 0
                           dw := max 1 x.dw }
  match Master.fn x.m with
  | none => if x.w == .bar0 && s.windowOpen x.m then s.windowWrite x.m e x.value (x.dw == 1) else s
  | some fn =>
    let a := s.nextBaton fn
    match x.w with
    | .bar0 => if s.windowOpen x.m then a.1.windowWrite x.m { e with baton := a.2 } x.value (x.dw == 1) else s
    | .bar2 =>
      if !s.on 4 || !(x.m == .m1 || (x.m == .m4 && s.boot.measured)) then s
      else a.1.behind fn x { e with baton := a.2, bar := 2 }
    | .bar4 => if s.windowOpen x.m then a.1.behind fn x { e with baton := a.2, bar := 4 } else s
    | .msixControl => if s.on 4 then s.behind fn x e else s
    | .sriov => if s.on 4 then s.behind fn x e else s

/-- A write by master `m` through window `w` at byte offset `addr` of the word `v` and the words `more` after it; `narrow` where it is narrower
than a word. -/
def State.hostWrite (s : State) (m : Master) (w : Window) (addr : Nat) (v : Word) (more : List Word) (narrow : Bool) : State :=
  let x : Inbound := { m := m, w := w, off := addr, value := v, more := more, dw := if narrow then 0 else 1 + more.length, read := false }
  match Master.fn m with
  | none => s.takeWrite x
  | some fn => if s.linkHolds fn x then s.linkPut fn x else s.takeWrite x

/-- A write of one aligned word to the register window. -/
def State.regWrite (s : State) (m : Master) (p off : Nat) (v : Word) : State := s.hostWrite m .bar0 (p * 4096 + off) v [] false

/-! ### The end of a stall -/

/-- A read through another window that waited completes. -/
def State.readDone (s : State) (x : Inbound) : State :=
  let t := s.otherRead x
  match t.rdata with
  | some w => { t with rdata := none }.emit (.completion (ownerId x.m) w)
  | none => t

/-- Complete an access that stalled. -/
def State.unstall (s : State) (x : Stalled) : State :=
  match x with
  | .write m e p off v => s.applyWrite m e p off v
  | .read m p off =>
    let (t, w) := s.readNow m p off
    t.emit (.completion (ownerId m) w)
  | .fence m fn baton _ =>
    let (t, w) := s.fenceDone m fn baton
    t.emit (.completion (ownerId m) w)
  | .window x e => if x.read then ({ s with rdata := none }).readDone x else s.otherWrite x e

/-- A stalled access still waits, with `held` saying that a write ahead of it does. -/
def State.stillWaits (s : State) (held : Bool) (x : Stalled) : Bool :=
  match x with
  | .write _ _ p _ _ => held || s.inTest p
  | .read _ p _ => held || s.inTest p
  | .fence m fn _ waits => (held && (Master.fn m).isSome) || waits.any fun b => (s.outstanding fn).contains b
  | .window _ _ => held

/-- Go through the stalled accesses of the bridge of `fn`, oldest first: those that may now complete do. -/
def State.stallScan (s : State) (fn : Nat) (held : Bool) (l : List Stalled) : State :=
  match l with
  | [] => s
  | x :: t =>
    if s.stillWaits held x then s.stallScan fn (held || x.posted) t
    else
      let b := s.bridgeOf fn
      ((s.setBridge fn { b with stall := b.stall.erase x }).unstall x).stallScan fn held t

/-- The requests that wait in the link's queue of `fn` enter, oldest first, until the bridge is full again. What a read of them returns leaves as
its completion. -/
def State.linkServe (s : State) (fn : Nat) (l : List Inbound) : State :=
  match l with
  | [] => s
  | x :: t =>
    if x.posted && s.bridgeFull fn then s
    else
      let b := s.bridgeOf fn
      let s1 := s.setBridge fn { b with link := b.link.drop 1 }
      let s2 := if x.read then s1.takeRead x else s1.takeWrite x
      let s3 := match x.read, s2.rdata with
        | true, some w => { s2 with rdata := none }.emit (.completion (ownerId x.m) w)
        | _, _ => s2
      s3.linkServe fn t

/-- Whatever no longer waits on either bridge completes; then the links' queues move up. -/
def State.stallsSettle (s : State) : State :=
  let t := s.stallScan 0 false s.bridge.p0.stall
  let u := t.stallScan 10 false t.bridge.p1.stall
  let v := u.linkServe 0 u.bridge.p0.link
  v.linkServe 10 v.bridge.p1.link

/-- The oldest stalled access of bridge `k` completes against the preserved configuration state, whether or not its page is still under
test (R111); then those behind it that may. -/
def State.stallEnds (s : State) (k : Nat) : State :=
  let fn := if k == 0 then 0 else 10
  let b := s.bridgeOf fn
  let access (x : Stalled) : Bool := match x with
    | .fence .. => false
    | _ => true
  match b.stall.find? access with
  | none => s.stallsSettle
  | some x => ((s.setBridge fn { b with stall := b.stall.erase x }).unstall x).stallsSettle

end Sys2Proof.Machine
end

