-- ==== Sys2Proof/Machine/Answer.lean ====
section
/-! DEFINITION. The form of every meaning's answer: what the command did, the FAULT_N pin as the conditions that hold require it (R466), and
the queue of waiting commands as it was. -/

namespace Sys2Proof.Machine

/-- What a meaning answers. -/
abbrev Answer := Host.Outcome State Fault Refusal

/-- FAULT_N is asserted while a fixed condition holds, a source routed to it is active, or FORCE is set (R466, R467). -/
def State.settleFault (s : State) : State := if s.fault.pin then s else if s.faultHeld then s.assertFaultN else s

/-- A lap that is due, or a test command that waits for its mode, starts as soon as nothing else runs and the mode lets it (R429, R444). -/
def State.settleTests (s : State) : State := if s.boot.step == .done then s.testResume else s

/-- A scratched unit that nothing serves sets DEV_SCRATCH.UNSERVED, which asserts FAULT_N (R210, R466, R468; the code of the record is
the model's choice, log entry 88). -/
def State.settleScratch (s : State) : State :=
  if s.boot.step != .done || s.fault.unserved then s
  else match s.test.scratch.find? fun e => s.unservedUnit e.1 with
    | some e => s.setUnserved (match unitClass e.1 with
      | 1 => Code.SLICE_LOST
      | 2 => Code.CAN_CHANNEL_LOST
      | 4 => Code.MACSEC_ENGINE_LOST
      | _ => e.2)
    | none => s

/-- The state `t` that a command makes of `s`: waiting tests start where they may, the pin follows its conditions, and no command touches
the queue. -/
def answer (s t : State) : Answer := .next { t.settleTests.settleScratch.settleFault with pending := s.pending }

end Sys2Proof.Machine
end

