-- ==== Sys2Proof/Machine/CmdCan.lean ====
section
/-! DEFINITION. The meanings of the commands of the CAN controllers (chapter 08): frames and errors on the bus, transmit attempts, the
transmit buffers and the push window, mailboxes, handover to the reserve cores. -/

namespace Sys2Proof.Machine

/-! ### The bus (R250 to R258, R269, R270) -/

/-- The frame goes to the relay engine, the high-priority buffer and the mailboxes, or is dropped (R51, R458). -/
def State.canTaken (s : State) (c : Nat) (f : CanFrame) : State :=
  let st := s.canStamp c
  let code := s.ingressCode
  if code == 0 then (s.pduComes (pduOfCan c f st (s.epochOf st))).mbDeliver c f st else s.canDrop c code

/-- A protocol exception or a form error at a receiver (R256). -/
def receiverError (k : CanErrKind) : CanError :=
  { kind := k, xlData := false, inFlag := false, longDominant := 0, dominantAfter := false, passiveDominant := false, arbStuff := false, pastEdge := false }

/-- A slave slot sees a SYNC in a frame of the channel whose start of frame lies back by a span that the command does not name: a free value (R339;
log entry 59). -/
def State.slotsHear (s : State) (c : Nat) (f : CanFrame) : State :=
  let t := s.slotsTake c f (s.sofBack c ((Config.freeValue s.freeIx).toNat % 2 ^ 32))
  if (s.ctsTakers c f 0x10).isEmpty then t else t.draw

/-- A frame from another node reaches its end-of-frame sample point (R257). A CAN XL frame at a controller with XL_EN = 0 is the event of
R256; a CAN FD frame at one with FD_EN = 0 is a form error (PRESUMED, log entry 83). A frame that had `begun` when ENABLE fell to 0 is still
received (R258). -/
def execCanFrameReceive (c : Fin 48) (frame : CanWire) (begun : Bool) (s : State) : Answer :=
  let n := c.val
  let f := CanWire.frame frame
  answer s (
    if begun && s.canServed n && !s.flag (canPage n) R.PAGE_CTRL_ENABLE && s.mode.service != .maintain then ((s.heardCount n).canTaken n f).slotsHear n f
    else if !s.canOn n || s.errState n ≥ 2 then s
    else if f.fmt == 2 && s.canTiming n R.CAN_CTRL_XL_EN == 0 then s.busError n (receiverError .protocol)
    else if f.fmt == 1 && s.canTiming n R.CAN_CTRL_FD_EN == 0 then s.busError n (receiverError .form)
    else ((s.canHeard n).canTaken n f).slotsHear n f)

/-- The controller detects an error, in its own attempt or as a receiver (R253). -/
def execCanBusError (c : Fin 48) (e : CanError) (s : State) : Answer :=
  let n := c.val
  let takesPart : Bool := s.canOn n && Nat.blt (s.errState n) 2
  answer s (if (s.chan n).locked.isSome || takesPart then s.busError n e else s)

/-- Occurrences of 11 recessive bits are seen in bus-off (R254). -/
def execBusOffEnd (c : Fin 48) (seen : Nat) (s : State) : Answer := answer s (if s.canOn c.val then s.busOffSeen c.val seen else s)

/-- Eleven recessive bits are seen (R258). -/
def execCanIntegrated (c : Fin 48) (s : State) : Answer := answer s (if s.canOn c.val then s.integrated c.val else s)

/-- The first intermission or bus-idle bit after a swap that changed the timing (R248). -/
def execCanTimingSwitch (c : Fin 48) (s : State) : Answer :=
  let k := s.chan c.val
  answer s (s.whenClocked 1 (if k.locked.isSome then s else s.setChan c.val { k with timing := [] }))

/-! ### Attempts (R257, R260, R261) -/

/-- A start-of-frame sample point comes. -/
def execCanTxStart (c : Fin 48) (delay : Nat) (s : State) : Answer := answer s (s.startAttempt c.val delay)

/-- The attempt succeeds: SELF_RX stores the frame, LOOPBACK also passes it to the receive path (DEDUCED, log entry 84), and the SYNC of a
time-synchronisation slot brings its FUP (R339). -/
def State.attemptSucceeds (s : State) (c : Nat) : State :=
  match s.attemptDone c with
  | none => s
  | some (t, h, sof) =>
    let u := if s.canCtl c R.CAN_CTRL_LOOPBACK then t.canTaken c h.frame
      else if s.canCtl c R.CAN_CTRL_SELF_RX then t.mbDeliver c h.frame (t.canStamp c)
      else t
    match h.cts with
    | some (slot, false) => u.ctsFup slot (byteAt h.frame.data 2 % 16) sof
    | _ => u

/-- The end-of-frame sample point of an attempt. -/
def execCanTxSuccess (c : Fin 48) (s : State) : Answer := answer s (s.attemptSucceeds c.val)

/-- The attempt loses arbitration. -/
def execCanArbLost (c : Fin 48) (s : State) : Answer :=
  let n := c.val
  answer s (if (s.chan n).locked.isSome then (s.count (canPage n) R.ARB_LOST).attemptFails n else s)

/-! ### Buffers, queue, mailboxes (R259, R265 to R268, R271) -/

/-- TXB_CTRL with REQ. -/
def execTxbReq (m : Master) (c : Fin 48) (b : Fin 3) (s : State) : Answer :=
  answer s (s.regWrite m (canPage c.val) (0x200 + 0x50 * b.val) 1)

/-- TXB_CTRL with CANCEL. -/
def execTxbCancel (m : Master) (c : Fin 48) (b : Fin 3) (s : State) : Answer :=
  answer s (s.regWrite m (canPage c.val) (0x200 + 0x50 * b.val) 2)

/-- A write of TXQ_PUSH. -/
def execTxqPush (m : Master) (c : Fin 48) (value : Word) (s : State) : Answer :=
  answer s (s.regWrite m (canPage c.val) R.TXQ_PUSH.off value)

/-- A write of TXQ_CANCEL. -/
def execTxqCancel (m : Master) (c : Fin 48) (value : Word) (s : State) : Answer :=
  answer s (s.regWrite m (canPage c.val) R.TXQ_CANCEL.off value)

/-- A read of TXEV. -/
def execTxevRead (m : Master) (c : Fin 48) (s : State) : Answer := answer s (s.hostRead m (canPage c.val) R.TXEV_HANDLE.off)

/-- The lifetime of queue-owned frames ends. -/
def execCanLifetimeExpiry (c : Fin 48) (s : State) : Answer := answer s (s.expireCan c.val)

/-- A read of RXMB_HDR i, or of HPB_HDR for i = 32. -/
def execMailboxOpen (m : Master) (c : Fin 48) (i : Fin 33) (s : State) : Answer := answer s (s.hostRead m (canPage c.val) (mbHdr i.val))

/-! ### Handover (R274, R275, R434) -/

/-- The core that takes over attaches: 0 the channel's own, 1 and 2 reserve cores A and B. -/
def execCanHandoverRequest (c : Fin 48) (core : Fin 3) (s : State) : Answer := answer s (s.canAttach c.val core.val)

/-- A point suitable for the move comes. -/
def execCanHandoverMove (c : Fin 48) (s : State) : Answer := answer s (s.canMove c.val)

/-- No such point came within 10 ms. -/
def execCanHandoverAbandon (c : Fin 48) (s : State) : Answer := answer s (s.canAbandon c.val)

/-- The core that serves a channel fails. -/
def execCanCoreFailure (c : Fin 48) (s : State) : Answer := answer s (s.canCoreFail c.val Code.UNIT_FAILED)

end Sys2Proof.Machine
end

