-- ==== Sys2Proof/Machine/CmdFault.lean ====
section
/-! DEFINITION. The meanings of the commands of chapter 16: the FAULT_N pin, the Coach's lockstep, fabric parity. -/

namespace Sys2Proof.Machine

/-- FAULT_N may be released: no condition holds and its 1 ms is over (R467). -/
def execFaultNRelease (s : State) : Answer := answer s s.faultRelease

/-- A write of FAULT_CTRL. -/
def execFaultForce (m : Master) (value : Word) (s : State) : Answer := answer s (s.regWrite m pgAggCtrl 0x044 value)

/-- The Coach's cores differ (R471). -/
def execCoachLockstep (s : State) : Answer := answer s s.lockstepFails

/-- The page whose FAULT record tells of a transfer of master `m`: its bridge, else DEV. -/
def fabricPage (m : Master) : Nat := match Master.fn m with
  | some fn => bridgePage fn
  | none => 0

/-- What a parity error on a fabric link ends (R468, R473); the ring of a descriptor or payload transfer stops as R380 gives. -/
def State.fabricError (s : State) (v : FabricVictim) : State :=
  match v with
  | .read m => if s.windowOpen m then ({ s with rdata := none }).faultRecord (fabricPage m) 0 Code.FABRIC_ERR else s
  | .write m off value =>
    if !s.windowOpen m then s
    else
      let e : PostedError := { baton := 0, master := Master.num m, vf := ownerId m / 8, bar := 0, offset := off.toNat, data := value
                               code := Code.FABRIC_ERR, dw := 1 }
      let t := s.faultRecord (fabricPage m) off.toNat Code.FABRIC_ERR
      match Master.fn m with
      | some fn => let a := t.nextBaton fn; a.1.postedFail fn { e with baton := a.2 }
      | none => t
  | .ring fn r =>
    if ringExists fn.val r.val && s.on 4 && s.ringActive fn.val r.val then
      (s.ringError fn.val r.val Code.DMA_READ_ERR).faultRecord (fnPage fn.val) (ringBlock r.val) Code.FABRIC_ERR
    else s

/-- A parity error on a fabric link. -/
def execFabricErr (victim : FabricVictim) (s : State) : Answer := answer s (s.fabricError victim)

end Sys2Proof.Machine
end

