-- ==== Sys2Proof/Machine/CmdForward.lean ====
section
/-! DEFINITION. The meanings of the commands of chapter 06: classification, lookup, learning, ageing, the shadow compare, slice
substitution and failure, stream gates. -/

namespace Sys2Proof.Machine

/-- CLASSIFY takes the oldest frame (R214): it drops it, or passes it to the slice of its role. -/
def execFrameClassify (s : State) : Answer :=
  answer s <| s.whenClocked 0 (
    match s.fwd.classQ with
    | [] => s
    | f :: t =>
      let c := ({ s with fwd := { s.fwd with classQ := t } }).classify f
      if c.code != 0 then (c.st.drop c.code).txAdmitted f.tx c.code []
      else { c.st with fwd := { c.st.fwd with lookQ := c.st.fwd.lookQ ++ [c.frame] } })

/-- The slice of its role looks the oldest classified frame up (R196), and what follows from its result; the operands say which reads
met bad parity (R206). -/
def execFrameLookup (vlanBad daBad saBad : Bool) (onward : OnwardParity) (s : State) : Answer :=
  answer s <| s.whenClocked 0 (
    match s.fwd.lookQ with
    | [] => s
    | f :: t => ({ s with fwd := { s.fwd with lookQ := t } }).lookupFrame f
        { vlan := vlanBad, da := daBad, sa := saBad, group := onward == OnwardParity.group, route := onward == OnwardParity.route
          hopVlan := onward == OnwardParity.hopVlan })

/-- The learning engine serves the oldest request (R189). -/
def execLearnServe (s : State) : Answer :=
  answer s <| s.whenClocked 0 (
    match s.fwd.learnQ with
    | [] => s
    | r :: t => ({ s with fwd := { s.fwd with learnQ := t } }).serveLearn r)

/-- The sweep of each role's slice in a new ageing tick (R194, R195). -/
def execAgeTick (s : State) : Answer :=
  let sweep (t : State) (r : Nat) : State :=
    let i := t.servingSlice r
    if i < 3 && t.up (5 + i) then t.ageSlice i (rolePage r) else t
  answer s <| s.whenClocked 0 (
    if s.ageNow == s.fwd.ageTick then s
    else sweep (sweep { s with fwd := { s.fwd with ageTick := s.ageNow } } 0) 1)

/-- A write of FWD_FLUSH of a role with GO set (R193). -/
def execLearnFlush (m : Master) (role : Fin 2) (value : Word) (s : State) : Answer :=
  answer s (s.regWrite m (rolePage role.val) 0x060 (value ||| 1))

/-- A write of FWD_SEED (R178). -/
def execFwdSeedWrite (m : Master) (k : Fin 4) (value : Word) (s : State) : Answer :=
  answer s (s.regWrite m pgFwd (0x060 + 4 * k.val) value)

/-! ### The shadow compare (R206, R207) -/

/-- A heat is loading or settling. -/
def State.heatMoves (s : State) : Bool :=
  s.heat.settling.isSome || match s.heat.armed with
    | h :: _ => !h.loaded
    | [] => match s.heat.checking with
      | some k => !k.loaded
      | none => false

/-- A slot of slice `i` differs from the shadow: counted, raised and captured; under SHADOW_WINS the shadow is written back. -/
def State.shadowDiffers (s : State) (i : Nat) : State :=
  let p := slicePage i
  let t := ((s.count p R.SHADOW_MISMATCH).raise p 1).captureInternal p R.SHADOW_MISMATCH.off Code.SHADOW_MISMATCH
  if s.flag pgFwd R.FWD_MISC_CFG_SHADOW_WINS then t.count p R.SHADOW_REPAIR else t

/-- The slot array of a finding: that of the slice's L2 slots, or of the page of a common table. -/
def findingArray (x : ShadowFinding) : Nat := if x.table == 1 then 0x200 + x.slice.val else 0x088 + x.table.val

/-- The compare visits slot `k` of array `tid` of slice `i`: the slice is powered, and the slot static, live in both epochs and not reserved
(R207). -/
def State.compared (s : State) (i tid k : Nat) : Bool :=
  let w := s.slot tid k
  s.poweredSlices.contains i && s.up (5 + i) && w.v && w.b && !w.rsv && (tid < 0x200 || l2Static w.data)

/-- The compare of one slot: bad parity is repaired (R206); where good data differ from the shadow they are kept, or written back under
SHADOW_WINS. -/
def State.shadowFinds (s : State) (x : ShadowFinding) : State :=
  let i := x.slice.val
  let k := x.slot.toNat
  if !s.compared i (findingArray x) k then s
  else if x.parity then s.rewriteSlot i (findingArray x) k
  else if x.data == (s.slot (findingArray x) k).data then s.dropStray i (findingArray x) k
  else
    let t := s.shadowDiffers i
    if s.flag pgFwd R.FWD_MISC_CFG_SHADOW_WINS then t.dropStray i (findingArray x) k else t.setStray i (findingArray x) k x.data

/-- What earlier passes found and kept differs in this pass too. -/
def State.shadowKept (s : State) (e : Nat × Option Entry) : State :=
  let i := e.1 / 2 ^ 40
  let tid := e.1 % 2 ^ 40 / 2 ^ 24
  let k := e.1 % 2 ^ 24
  if !s.compared i tid k then s
  else
    let t := s.shadowDiffers i
    if s.flag pgFwd R.FWD_MISC_CFG_SHADOW_WINS then t.dropStray i tid k else t

/-- A pass of the shadow compare: `findings` are the slots whose hardware copy has changed since the last pass. -/
def execShadowComparePass (findings : List ShadowFinding) (s : State) : Answer :=
  let period := msT (10 * orOne (s.fld pgFwd R.FWD_MISC_CFG_SHADOW_PERIOD))
  answer s <| s.whenClocked 0 (
    if s.heatMoves || (s.running .shadow && !s.due .shadow) then s
    else
      let anew (e : Nat × Option Entry) : Bool := findings.any fun x => e.1 == x.slice.val * 2 ^ 40 + slotKey (findingArray x) x.slot.toNat
      let t := (s.fwd.strays.filter fun e => !anew e).foldl State.shadowKept s
      (findings.foldl State.shadowFinds t).start .shadow period)

/-! ### Slices (R209, R210) -/

/-- A planned substitution starts. -/
def execSliceSubstitution (s : State) : Answer := answer s s.sliceSubstitute

/-- All slots have been walked. -/
def execSliceCopyDone (s : State) : Answer := answer s (s.whenClocked 0 s.sliceCopied)

/-- An active slice fails. -/
def execSliceFailure (i : Fin 3) (s : State) : Answer := answer s (s.sliceFail i.val Code.UNIT_FAILED)

/-! ### Filters, gates, meters (R219 to R224) -/

/-- A stream gate reaches the start of its next entry (R220). -/
def execStreamGateEntry (g : Fin 256) (s : State) : Answer := answer s (s.whenClocked 0 (s.advanceGate g.val))

/-- SF_UNBLOCK (R219). -/
def execSfUnblock (m : Master) (value : Word) (s : State) : Answer := answer s (s.regWrite m pgCls 0x174 (value ||| 0x80000000))

/-- SG_REOPEN (R221). -/
def execSgReopen (m : Master) (value : Word) (s : State) : Answer := answer s (s.regWrite m pgGate 0x070 (value ||| 0x80000000))

/-- MTR_CLEAR (R224). -/
def execMtrClear (m : Master) (value : Word) (s : State) : Answer := answer s (s.regWrite m pgMeter 0x070 (value ||| 0x80000000))

end Sys2Proof.Machine
end

