-- ==== Sys2Proof/Machine/CmdHost.lean ====
section
/-! DEFINITION. The meanings of the commands of the host bridges (chapter 12): contract states, rings, descriptors, receive and transmit, ring
events, resets of functions and links. -/

namespace Sys2Proof.Machine

/-- The contract states follow the present faults and modes (R365). -/
def execContractStateUpdate (s : State) : Answer := answer s (s.whenClocked 1 s.updateContracts)

/-! ### Ring registers (R381, R382) -/

/-- A write of RING_CFG with EN = 1. -/
def execRingEnable (m : Master) (fn : Fin 11) (r : Fin 32) (value : Word) (s : State) : Answer :=
  answer s (s.regWrite m (fnPage fn.val) (ringBlock r.val + 0x14) (value ||| 1))

/-- A write of RING_CFG with EN = 0. -/
def execRingDisable (m : Master) (fn : Fin 11) (r : Fin 32) (value : Word) (s : State) : Answer :=
  answer s (s.regWrite m (fnPage fn.val) (ringBlock r.val + 0x14) (value &&& 0xFFFFFFFE))

/-- A write of RING_TAIL. -/
def execRingTailWrite (m : Master) (fn : Fin 11) (r : Fin 32) (value : Word) (s : State) : Answer :=
  answer s (s.regWrite m (fnPage fn.val) (ringBlock r.val + 0x0C) value)

/-! ### DMA (R378 to R388) -/

/-- The ring exists and runs, and the link of its function is up. -/
def State.ringRuns (s : State) (fn r : Nat) : Bool :=
  ringExists fn r && s.fnOn fn && s.on 4 && s.clocked 0 && s.ringActive fn r && s.flag (bridgePage fn) R.BRG_STAT_LINK_UP

/-- A fetch of at most 8 descriptors completes (R378, R383). -/
def execDescFetch (fn : Fin 11) (r : Fin 32) (descs : List (BitVec 256)) (s : State) : Answer :=
  answer s (if s.ringRuns fn.val r.val then s.descFetch fn.val r.val (descs.take 8) else s)

/-- DMA serves the copy at the head of a receive ring (R384, R385). -/
def execRxCopyWrite (fn : Fin 11) (r : Fin 32) (s : State) : Answer :=
  answer s (if s.ringRuns fn.val r.val && r.val < 16 then s.rxServe fn.val r.val else s)

/-- RING_WAIT has passed with the ring WAITING (R385). -/
def execRingWaitExpiry (fn : Fin 11) (r : Fin 32) (s : State) : Answer :=
  answer s (if s.due (.ringWait (ringKey fn.val r.val)) then s.rxExpire fn.val r.val else s)

/-- The next frame or PDU of P0's transmit rings enters the device, with the bytes read from the host (R386). -/
def execTxFrameEnter (data : List Byte) (s : State) : Answer :=
  answer s (if s.on 4 && s.clocked 0 && s.flag 0x020 R.BRG_STAT_LINK_UP then s.txEnter data else s)

/-- The oldest frame of a transmit ring whose outcome is known is written back (R387). -/
def execTxWriteback (fn : Fin 11) (r : Fin 32) (s : State) : Answer :=
  answer s (if s.on 4 && s.clocked 0 && ringExists fn.val r.val && 16 ≤ r.val then s.txWriteback fn.val r.val else s)

/-- A stamp that was asked for has not come within 100 ms (R387). -/
def execTsLostTimeout (fn : Fin 11) (r : Fin 32) (s : State) : Answer :=
  answer s (if ringExists fn.val r.val && 16 ≤ r.val then s.txLost fn.val r.val else s)

/-- MOD_TIME has passed since the first completion not yet signalled (R388). -/
def execRingIrqModTime (fn : Fin 11) (r : Fin 32) (s : State) : Answer :=
  answer s (if s.due (.ringMod (ringKey fn.val r.val)) then s.ringEvent fn.val r.val else s)

/-- An outbound read of a ring fails (R380). -/
def execOutboundReadError (fn : Fin 11) (r : Fin 32) (s : State) : Answer :=
  answer s (if ringExists fn.val r.val && s.on 4 && s.ringActive fn.val r.val then s.ringError fn.val r.val Code.DMA_READ_ERR else s)

/-! ### Resets (R389) -/

/-- A Function Level Reset of a function of P0. -/
def execFunctionLevelReset (fn : Fin 11) (s : State) : Answer :=
  answer s (if s.on 4 && fn.val < 10 then s.fnReset fn.val else s)

/-- A level of PERSTn_N of link `k`: low takes the link down and out of Detect (R98, R389). -/
def State.perstLevel (s : State) (k : Nat) (high : Bool) : State :=
  let b := if k == 0 then { s.boot with perst0 := high, detect0 := s.boot.detect0 && high }
    else { s.boot with perst1 := high, detect1 := s.boot.detect1 && high }
  let t := { s with boot := b }
  if high || !s.on 4 then t else t.linkReset k

/-- A hot reset of a link, or a level of its PERSTn_N, which has no row of its own (DESIGN CHOICE, log entry 183). -/
def execPcieHotReset (e : LinkEvent) (s : State) : Answer :=
  answer s (match e with
    | .hotReset k => if s.on 4 then s.linkReset k.val else s
    | .perst k high => s.perstLevel k.val high)

end Sys2Proof.Machine
end

