-- ==== Sys2Proof/Machine/CmdKey.lean ====
section
/-! DEFINITION. The meanings of the commands of chapter 13: the key store's table port and commands, the nonvolatile store, attestation, the
random bit generator, the life cycle. -/

namespace Sys2Proof.Machine

/-- WRITE_DIRECT at the table port of KEY_SLOT; TBL_IDX and TBL_DATA hold slot, PART and data, as written before (R401, R402). -/
def State.keyWriteDirect (s : State) (m : Master) : State := s.regWrite m pgKeySlot R.TBL_CMD_OP.off 5

/-- WRITE_DIRECT to PART KEY. -/
def execKeyLoad (m : Master) (s : State) : Answer := answer s (s.keyWriteDirect m)

/-- WRITE_DIRECT to PART SALT. -/
def execSaltLoad (m : Master) (s : State) : Answer := answer s (s.keyWriteDirect m)

/-- WRITE_DIRECT to PART ATTR: the slot is committed (R403). -/
def execAttrCommit (m : Master) (s : State) : Answer := answer s (s.keyWriteDirect m)

/-- A write of KEY_CMD with OP `op` in place of that of `value`. -/
def State.keyOp (s : State) (m : Master) (op : Nat) (value : Word) : State :=
  s.regWrite m pgKeyCtrl R.KEY_CMD_OP.off (BitVec.ofNat 32 (setBits value R.KEY_CMD_OP.hi R.KEY_CMD_OP.lo op).toNat)

/-- DERIVE (R406). -/
def execKeyDerive (m : Master) (value : Word) (s : State) : Answer := answer s (s.keyOp m 1 value)

/-- GENERATE (R405). -/
def execKeyGenerate (m : Master) (value : Word) (s : State) : Answer := answer s (s.keyOp m 2 value)

/-- INVALIDATE (R407). -/
def execKeyInvalidate (m : Master) (value : Word) (s : State) : Answer := answer s (s.keyOp m 3 value)

/-- An orphaned slot is wiped at an idle point (R407). -/
def execOrphanWipe (n : Fin 256) (s : State) : Answer := answer s (s.whenClocked 1 (s.orphanWipe n.val))

/-- The record write in progress commits (R409); fence reads that waited for the write go on (R373). -/
def execNvmWriteDone (s : State) : Answer := answer s (s.whenClocked 1 s.nvCommit.stallsSettle)

/-- The record write in progress fails its verification (R410). -/
def execNvmVerifyFail (s : State) : Answer := answer s (s.whenClocked 1 s.nvFail.stallsSettle)

/-- A write of ATT_CMD with GO (R415). -/
def execAttGo (m : Master) (value : Word) (s : State) : Answer := answer s (s.regWrite m pgAttest R.ATT_CMD_GO.off (value ||| 1))

/-- The statement is ready (R413, R415). -/
def execAttDone (s : State) : Answer := answer s (s.whenClocked 1 s.attDone)

/-- A health test of the noise source fails (R417); in REST, and where its PLL has stopped, the generator is idle (R422). -/
def execDrbgFail (s : State) : Answer := answer s (s.whenClocked 1 s.drbgFail)

/-- The noise source restarts 1 s after a failure, and its tests pass or not (R417). -/
def execDrbgRestart (ok : Bool) (s : State) : Answer := answer s (s.whenClocked 1 (s.drbgRestart ok))

/-- A read of DRBG_OUT (R417). -/
def execDrbgOutRead (m : Master) (s : State) : Answer := answer s (s.hostRead m pgDrbg R.DRBG_OUT.off)

/-- A write of LC_REQ (R418 to R420). -/
def execLcReq (m : Master) (value : Word) (s : State) : Answer := answer s (s.regWrite m pgLife 0x040 value)

/-- A write of LC_ROLLBACK_CMD with GO (R421). -/
def execLcRollbackAdvance (m : Master) (value : Word) (s : State) : Answer := answer s (s.regWrite m pgLife 0x054 (value ||| 1))

end Sys2Proof.Machine
end

