-- ==== Sys2Proof/Machine/CmdLane.lean ====
section
/-! DEFINITION. The meanings of the commands of chapter 07: flow pacers, lanes, transmission, hurdle lists. -/

namespace Sys2Proof.Machine

/-- The head of a pacer's FIFO passes to the admission of step 8 (R229). -/
def State.passPaced (s : State) (x : Paced) : State := s.admitBundle x x.cells

/-- The length a pacer charges, with OVH: that of the frame as its first lane copy is sent, else as it was kept. -/
def State.pacedLen (s : State) (e : Entry) (x : Paced) : Int :=
  match x.copies with
  | (n, _, c) :: _ => (s.sentLen n c : Int) + fpOvh e
  | [] => (x.len : Int) + fpOvh e

/-- The head of flow pacer `k` is released where its tokens are at least 0, or at once where the pacer is off (R229, R232). -/
def execFlowPacerRelease (k : Fin 1024) (s : State) : Answer :=
  let i := k.val
  answer s <| s.whenClocked 0 (
    match s.pacerQ i with
    | [] => s
    | x :: t =>
      match s.pairGet pgPacer i s.heat.liveE with
      | none => (s.setPacerQ i t).passPaced x
      | some e =>
        let s1 := s.advancePacer i e
        let lv := s1.pacerLevels i
        if !fpEn e then (s1.setPacerQ i t).passPaced x
        else if lv.tok < 0 then s1
        else
          let lv' : Levels := { lv with tok := lv.tok - s1.pacedLen e x * (byteU : Nat) }
          let s2 := s1.setPacerQ i t
          ({ s2 with fwd := { s2.fwd with pacerLv := mset s2.fwd.pacerLv i lv' } }).passPaced x)

/-- What port `n` sends next: what its MAC inserts ahead of every lane, a due PAUSE or a waiting mPacket (R147, R155), else what its egress island
chooses. -/
def State.choosePort (s : State) (n : Nat) : State :=
  match s.pauseWaits n with
  | some p => s.insertPause n p
  | none => if (s.mPackets n).isEmpty then s.selectPort n else (s.settleLine n).sendMPacket n

/-- The egress island of a port chooses (R233, R149, R150). `ecc`: a cell of the packet that is or comes onto the line cannot be corrected
(R472). -/
def execLaneSelect (port : Fin 28) (cell : CellRead) (s : State) : Answer :=
  let n := port.val
  let t := if s.portRuns n && s.portEnabled n then s.choosePort n else s
  answer s (
    match t.onLine n with
    | some (_, x) => match cell with
      | .clean => t
      | .corrected m a b => t.bufferCorrected (bufferMemory m.toNat) a.toNat b.toNat
      | .uncorrectable => t.bufferError x.copy.packet
    | none => t)

/-- The last byte of the frame on the line is sent (R164); a looped-back frame is received by its own MAC (R141). -/
def State.frameEnds (s : State) (n : Nat) (pre : Bool) (x : Sending) : State :=
  let s1 := s.finishSending n pre x
  let s2 := { s1 with eth := { s1.eth with attempts := mdel s1.eth.attempts n } }
  let s3 := s2.ptpSent n
  if s.flag (macPage n) R.MAC_CFG_LOOPBACK && s3.portRuns n && s3.portEnabled n then
    let st := s3.rxStampAt n x.full.length
    s3.macFrame n x.full false false false st (s3.epochOf st)
  else s3

/-- The frame on a port's line ends. -/
def execFrameTransmitEnd (port : Fin 28) (s : State) : Answer :=
  let n := port.val
  let t := s.settleLine n
  answer s <| s.whenClocked 0 (
    match t.onLine n with
    | some (pre, x) => if t.lineDue n x then (t.frameEnds n pre x).settlePause n else t
    | none => t.settlePause n)

/-- A port's hurdle list reaches the start of an entry (R237, R239). -/
def execHurdleEntryStart (port : Fin 28) (s : State) : Answer := answer s (s.whenClocked 0 ((s.settleLine port.val).advanceList port.val))

/-- A port's hurdle list issues the hold of its next entry ahead of its start (R241). -/
def execHurdleHoldIssue (port : Fin 28) (s : State) : Answer := answer s (s.whenClocked 0 ((s.settleLine port.val).issueHold port.val))

end Sys2Proof.Machine
end

