-- ==== Sys2Proof/Machine/CmdLin.lean ====
section
/-! DEFINITION. The meanings of the commands of the LIN controllers (chapter 08): slots and headers, responses, data words, sleep and wake,
handover. -/

namespace Sys2Proof.Machine

/-- The exact start of a commander's slot comes (R279). -/
def execLinSlotStart (n : Fin 12) (s : State) : Answer := answer s (if s.linSlotDue n.val then s.linSlotStart n.val else s)

/-- A responder receives a header (R280, R282). -/
def execLinHeaderReceive (n : Fin 12) (pid : Byte) (rate : BitVec 16) (s : State) : Answer :=
  answer s (if s.linOn n.val && !s.linCommander n.val && !s.linAsleep n.val then s.linHeader n.val pid.toNat rate.toNat else s)

/-- A response ends, sent by this node or received (R278 to R280, R282, R286). -/
def State.responseEnds (s : State) (n : Nat) (x : LinSlot) (bytes : List Byte) (framing bitError : Bool) : State :=
  if x.publish then s.linSent n x bitError
  else match s.linReceived n x bytes framing with
    | (t, some (id, d)) =>
      if lfDir (s.linFrame n id) == 2 then t.pduComes (pduOfLin n id d (s.bareStamp .lin) (s.epochOf (s.bareStamp .lin))) else t
    | (t, none) => t

/-- A response ends: the bytes received, the checksum last, whether a stop bit was dominant, and whether a bit of this node's own response
was read back wrong. -/
def execLinResponseEnd (n : Fin 12) (bytes : List Byte) (framing bitError : Bool) (s : State) : Answer :=
  answer s (
    match (s.linChan n.val).slot with
    | some x => if s.linOn n.val then s.responseEnds n.val x bytes framing bitError else s
    | none => s)

/-- The maximum frame time passes (R282); `started`: a response had begun. -/
def execLinResponseTimeout (n : Fin 12) (started : Bool) (s : State) : Answer :=
  answer s (if s.due (.linResponse n.val) then s.linTimeout n.val started else s)

/-- A write of the second word of LIN_DATA (R278). -/
def execLinDataCommit (m : Master) (n : Fin 12) (id : BitVec 6) (value : Word) (s : State) : Answer :=
  answer s (s.regWrite m (linPage n.val) (0x204 + 8 * id.toNat) value)

/-- A read of the first word of LIN_DATA (R278). -/
def execLinDataRead (m : Master) (n : Fin 12) (id : BitVec 6) (s : State) : Answer :=
  answer s (s.hostRead m (linPage n.val) (0x200 + 8 * id.toNat))

/-- LIN_CMD.WAKE (R281). -/
def execLinWakeCmd (m : Master) (n : Fin 12) (s : State) : Answer := answer s (s.regWrite m (linPage n.val) R.LIN_CMD_WAKE.off 1)

/-- A dominant level of `us` microseconds ends on the bus (R281). -/
def execLinBusWake (n : Fin 12) (us : Nat) (s : State) : Answer :=
  answer s (if s.linOn n.val && 250 ≤ us && us ≤ 5000 then s.linWake n.val 0 else s)

/-- The bus has been idle for IDLE_SLEEP (R280). -/
def execLinIdleSleep (n : Fin 12) (s : State) : Answer :=
  answer s (if s.linOn n.val && s.due (.linIdle n.val) then (s.linSleep n.val).stop (.linIdle n.val) else s)

/-- 100 ms have passed since the wake pulse (R281): the commander's schedule may run again. -/
def execLinCommanderResume (n : Fin 12) (s : State) : Answer :=
  answer s (if s.due (.linResume n.val) then s.stop (.linResume n.val) else s)

/-- The LIN reserve core takes a channel or gives it back, or the handover is abandoned (R276, R434). -/
def execLinHandover (n : Fin 12) (s : State) : Answer := answer s (s.linHandover n.val)

end Sys2Proof.Machine
end

