-- ==== Sys2Proof/Machine/CmdMode.lean ====
section
/-! DEFINITION. The meanings of the commands of chapters 02 and 03: mode requests, droop, temperature, supplies and power domains, tamper and
measurement, standby supplies, the reset pins and reset requests, PLLs and the reference, and the steps of the boot. -/

namespace Sys2Proof.Machine

/-! ### Mode requests (R36, R38, R42, R50, R54, R57, R58, R457) -/

/-- A write of DEV_MODE_REQ, with TRIM_REQ as given and the further bits of `v`. -/
def State.modeReqWrite (s : State) (m : Master) (trim : Bool) (v : Word) : State :=
  s.regWrite m 0x000 0x044 (v ||| BitVec.ofNat 32 (b2n trim))

/-- TRIM_REQ (R42). -/
def execTrimReq (m : Master) (on : Bool) (s : State) : Answer := answer s (s.modeReqWrite m on 0)

/-- REST_REQ (R457, R458). -/
def execRestReq (m : Master) (trim : Bool) (s : State) : Answer := answer s (s.modeReqWrite m trim 2)

/-- SERVICE_REQ = HALT (R50). -/
def execServiceReqHalt (m : Master) (trim : Bool) (s : State) : Answer := answer s (s.modeReqWrite m trim 0x10)

/-- SERVICE_REQ = MAINTAIN (R50, R54). -/
def execServiceReqMaintain (m : Master) (trim : Bool) (s : State) : Answer := answer s (s.modeReqWrite m trim 0x20)

/-- SERVICE_REQ = LEAVE_MAINTAIN (R50, R54). -/
def execServiceReqLeaveMaintain (m : Master) (trim : Bool) (s : State) : Answer := answer s (s.modeReqWrite m trim 0x30)

/-- QUAR_CLEAR (R58). -/
def execQuarClear (m : Master) (trim : Bool) (s : State) : Answer := answer s (s.modeReqWrite m trim 0x100)

/-! ### Droop, temperature, supplies (R42 to R47, R73, R82 to R86) -/

/-- A droop sensor crosses below its threshold (R83). -/
def execDroopDetect (s : State) : Answer := answer s s.droop

/-- A sensor is below 0.680 V for 1 µs (R84). -/
def execDroopCrit (s : State) : Answer := answer s s.droopLow

/-- The droop sensors rise: above 0.680 V, and where `clear` above their thresholds + 10 mV (R83, R84). -/
def execDroopEnd (clear : Bool) (s : State) : Answer := answer s (s.droopOver clear)

/-- The thermal sensors are sampled (R85, R86). -/
def execThermalSample (samples : List Int) (s : State) : Answer := answer s (s.thermal samples)

/-- The causes of TRIM have been absent for TRIM_HOLD (R42). -/
def execTrimHoldExpiry (s : State) : Answer := answer s s.trimOver

/-- PG_MAIN falls with PG_BAK high (R45, R73). -/
def execPgMainLoss (s : State) : Answer := answer s s.pgMainLost

/-- PG_MAIN has been high for PG_HOLD (R43). -/
def execPgHoldExpiry (s : State) : Answer := answer s s.pgMainBack

/-- PG_MAIN and PG_BAK are both low (R42). -/
def execSupplyLossRest (s : State) : Answer := answer s s.supplyLost

/-- The next group of domains switches on, 20 µs after the last (R82). -/
def execDomainGroupStart (s : State) : Answer := answer s (if s.due .group then s.startGroup else s)

/-- The Coach restores a domain that was switched on (R47, R81). -/
def execDomainRestore (pd : Fin 16) (s : State) : Answer := answer s (s.restoreDomain pd.val)

/-! ### Tamper, measurement, the activation line (R34, R50, R57) -/

/-- A tamper source becomes active (R57). -/
def execTamperEvent (s : State) : Answer := answer s s.tampered

/-- The tamper source becomes inactive (R34). -/
def execTamperEnd (s : State) : Answer := answer s { s with mode := { s.mode with tamper := false } }

/-- A runtime re-measurement ends with a digest (R57). -/
def execRuntimeRemeasure (hash : BitVec 384) (s : State) : Answer := answer s (s.whenClocked 1 (s.remeasured hash))

/-- The activation line has been inactive for DIAG_EXIT_HOLD (R50). -/
def execDiagExitHoldExpiry (s : State) : Answer := answer s s.diagOver

/-! ### Standby supplies (R69 to R72) -/

/-- VSB_MAIN falls through 2.9 V (R70). -/
def execStandbySwitchover (s : State) : Answer := answer s s.switchover

/-- VSB_MAIN has been above 3.05 V for 1 ms (R69). -/
def execStandbyReturn (s : State) : Answer := answer s s.switchBack

/-- VAON falls to 0.62 V (R72). -/
def execVaonCollapse (s : State) : Answer := answer s s.vaonFalls

/-- The internal power-on reset ends (R72). -/
def execInternalPorRelease (bootsel : BitVec 2) (main bak : Bool) (s : State) : Answer := answer s (s.vaonBack bootsel main bak)

/-! ### Resets (R92, R495, R496) -/

/-- PORST_N falls. -/
def execPorstAssert (s : State) : Answer := answer s s.porstFalls

/-- PORST_N rises: BOOTSEL is sampled and the boot starts (R94, R96). -/
def execPorstRelease (bootsel : BitVec 2) (s : State) : Answer := answer s (s.porstRises bootsel)

/-- WRST_N falls. -/
def execWrstAssert (s : State) : Answer := answer s s.wrstFalls

/-- WRST_N rises. -/
def execWrstRelease (s : State) : Answer := answer s s.wrstRises

/-- RST_CTRL.WARM. -/
def execRstCtrlWarm (m : Master) (s : State) : Answer := answer s (s.regWrite m 0x005 0x040 1)

/-- RST_CTRL.DOM_RST. -/
def execRstCtrlDomRst (m : Master) (mask : BitVec 16) (s : State) : Answer :=
  answer s (s.regWrite m 0x005 0x040 (BitVec.ofNat 32 (mask.toNat * 2 ^ 16)))

/-- The Coach watchdog expires. -/
def execWatchdogExpiry (s : State) : Answer := answer s (s.warmReset R.RST_CAUSE_WATCHDOG)

/-- A write of PWR_LEAN_CFG (R78, R79). -/
def execPwrLeanCfgWrite (m : Master) (value : Word) (s : State) : Answer := answer s (s.regWrite m 0x001 0x040 value)

/-! ### Clocks (R89 to R91) -/

/-- PLLs lose lock (R89, R90). -/
def execPllLockLoss (plls : List (Fin 5)) (s : State) : Answer := answer s (s.pllLoss (plls.map (·.val)))

/-- PLL5 takes the place of a failing PLL (R89). -/
def execPllSubstituteDone (s : State) : Answer := answer s s.pllTaken

/-- The reference shows no edge for 200 ns (R91). -/
def execRefclkLost (s : State) : Answer := answer s s.refLost

/-- The reference is back for 1 ms (R91). -/
def execRefclkReturn (s : State) : Answer := answer s s.refBack

/-! ### Start-up (R94 to R101, R411, R412, R435, R436) -/

/-- The fuses are sensed (R56, R96). -/
def execBootFuseSense (s : State) : Answer := answer s s.bootFuses

/-- PLL0, PLL1, PLL2 and PLL5 lock (R96). -/
def execBootPllLock (s : State) : Answer := answer s s.bootPlls

/-- PD3 and PD4 are switched on (R96). -/
def execBootHostifOn (s : State) : Answer := answer s s.bootHostif

/-- The boot ROM runs memory BIST over the COACH SRAMs (R435). -/
def execBootRomMbist (failures : List MemFailure) (s : State) : Answer := answer s (s.bootRom failures)

/-- An image has been read from xSPI; `none` where the slot gives no header (R94). -/
def execBootImageRead (image : Option ImageFacts) (s : State) : Answer := answer s (s.bootRead image)

/-- The checks of the image (R95). -/
def execBootImageCheck (s : State) : Answer := answer s s.bootCheck

/-- The host writes BOOT_STATUS with GO set in the boot window of PF0 (R98, R100). -/
def execP0BootGo (m : Master) (value : Word) (s : State) : Answer := answer s (s.hostWrite m .bar2 0 (value ||| 0x100) [] false)

/-- No GO within 10 s (R100). -/
def execP0BootTimeout (s : State) : Answer := answer s s.bootTimeout

/-- The nonvolatile store is recovered (R411); the records named fail their digest. -/
def execBootNvmRecovery (badDigest : List (Fin 512)) (s : State) : Answer := answer s (s.bootRecovery (badDigest.map (·.val)))

/-- PG_MAIN and PG_BAK are sampled and PD5 to PD15, or the lean set, are switched on (R99). -/
def execBootDomainSwitchOn (pgMain pgBak : Bool) (s : State) : Answer := answer s (s.bootDomains pgMain pgBak)

/-- Memory BIST of PD4 to PD15 (R435). -/
def execBootDomainMbist (failures : List MemFailure) (s : State) : Answer := answer s (s.bootMbist failures)

/-- The boot measurement is complete (R56, R412). -/
def execBootMeasurement (ok : Bool) (s : State) : Answer := answer s (s.bootMeasure ok)

/-- The boot is complete (R96). -/
def execBootHalt (s : State) : Answer := answer s s.bootHalt

/-- With PD4 on, P0 and P1 enter Detect where their PERSTn_N is high (R98). -/
def execPcieDetect (s : State) : Answer :=
  answer s (if !s.on 4 then s
    else { s with boot := { s.boot with detect0 := s.boot.detect0 || s.boot.perst0, detect1 := s.boot.detect1 || s.boot.perst1 } })

end Sys2Proof.Machine
end

