-- ==== Sys2Proof/Machine/CmdPages.lean ====
section
/-! DEFINITION. The meanings of the commands of chapter 04: register accesses, table ports and heats; and of the bridges, the posted-error
log and the logbook of chapter 12. -/

namespace Sys2Proof.Machine

/-! ### Register accesses (R102 to R112) -/

/-- A write through a window: a word and those after it, or one narrower than a word (R103, R104, R368, R369). -/
def execRegisterWrite (m : Master) (w : Window) (off : BitVec 26) (value : Word) (extent : Extent) (s : State) : Answer :=
  answer s (match extent with
    | .word => s.hostWrite m w off.toNat value [] false
    | .narrow => s.hostWrite m w off.toNat value [] true
    | .words more => s.hostWrite m w off.toNat value more false)

/-- A read of ERR_COUNT (R106). -/
def execErrCountRead (m : Master) (page : BitVec 14) (s : State) : Answer := answer s (s.hostRead m page.toNat R.ERR_COUNT.off)

/-- A read of a counter, or of anything else that a window shows (R103, R107, R368, R369). -/
def execCounterReadClear (m : Master) (w : Window) (span : Span) (s : State) : Answer :=
  answer s (s.windowRead m w span.off.toNat span.dw)

/-- A read of the LO word of a 64-bit counter (R142). -/
def execCounter64LoRead (m : Master) (page : BitVec 14) (off : BitVec 12) (s : State) : Answer :=
  answer s (s.hostRead m page.toNat off.toNat)

/-- PAGE_CTRL with SOFT_RESET set (R92). -/
def execPageSoftReset (m : Master) (page : BitVec 14) (value : Word) (s : State) : Answer :=
  answer s (s.regWrite m page.toNat 0x008 (value ||| 4))

/-- PAGE_CTRL with FREEZE set (R107). -/
def execPageFreeze (m : Master) (page : BitVec 14) (value : Word) (s : State) : Answer :=
  answer s (s.regWrite m page.toNat 0x008 (value ||| 2))

/-- A write of LOCK (R108). -/
def execLockWrite (m : Master) (page : BitVec 14) (value : Word) (s : State) : Answer := answer s (s.regWrite m page.toNat 0x034 value)

/-- A write of LOCK that sets FINAL (R108). -/
def execLockFinal (m : Master) (page : BitVec 14) (value : Word) (s : State) : Answer :=
  answer s (s.regWrite m page.toNat 0x034 (value ||| 0x80000000))

/-- A write of an RWS field (R118). -/
def execStagedRegisterWrite (m : Master) (page : BitVec 14) (off : BitVec 12) (value : Word) (s : State) : Answer :=
  answer s (s.regWrite m page.toNat off.toNat value)

/-- An access stalled at a page under test completes (R111); `k` is the link. -/
def execInTestStallEnd (k : Fin 2) (s : State) : Answer := answer s (s.stallEnds k.val)

/-! ### Table ports (R114 to R116) -/

/-- A write of TBL_CMD. -/
def State.tblCommand (s : State) (m : Master) (page : BitVec 14) (op : Nat) : State :=
  s.regWrite m page.toNat 0x040 (BitVec.ofNat 32 op)

/-- READ_LIVE. -/
def execTblReadLive (m : Master) (page : BitVec 14) (s : State) : Answer := answer s (s.tblCommand m page 1)

/-- READ_STAGED. -/
def execTblReadStaged (m : Master) (page : BitVec 14) (s : State) : Answer := answer s (s.tblCommand m page 2)

/-- WRITE_STAGED (R118, R183). -/
def execTblWriteStaged (m : Master) (page : BitVec 14) (s : State) : Answer := answer s (s.tblCommand m page 3)

/-- DELETE_STAGED (R118). -/
def execTblDeleteStaged (m : Master) (page : BitVec 14) (s : State) : Answer := answer s (s.tblCommand m page 4)

/-- WRITE_DIRECT. -/
def execTblWriteDirect (m : Master) (page : BitVec 14) (s : State) : Answer := answer s (s.tblCommand m page 5)

/-- READ_RAW. -/
def execTblReadRaw (m : Master) (page : BitVec 14) (s : State) : Answer := answer s (s.tblCommand m page 6)

/-- The 1 ms of a latch are over (R116). -/
def execTblOwnerTimeout (page : BitVec 14) (s : State) : Answer := answer s (s.ownerExpires page.toNat)

/-! ### Heats (R118 to R133) -/

/-- HEAT_CMD = COMMIT (R121, R122). -/
def execHeatCommit (m : Master) (s : State) : Answer := answer s (s.regWrite m pgHeat 0x040 1)

/-- HEAT_CMD = ABORT (R134). -/
def execHeatAbort (m : Master) (s : State) : Answer := answer s (s.regWrite m pgHeat 0x040 2)

/-- HEAT_CMD = DISCARD (R120). -/
def execHeatDiscard (m : Master) (s : State) : Answer := answer s (s.regWrite m pgHeat 0x040 3)

/-- The earliest armed heat is loaded (R122, R125). -/
def execHeatLoad (s : State) : Answer := answer s (s.whenClocked 0 s.heatLoad)

/-- The referee check ends (R123, R124). -/
def execRefereeVerdict (s : State) : Answer := answer s (s.whenClocked 1 s.endCheck)

/-- A heat goes live (R127, R130). -/
def execHeatSwap (s : State) : Answer := answer s (s.whenClocked 0 s.heatSwap)

/-- The live heat settles (R133, R185). -/
def execHeatSettle (s : State) : Answer := answer s (s.whenClocked 0 s.heatSettle)

/-- A held heat goes live late (R131). -/
def execHeatLateRelease (s : State) : Answer := answer s (s.whenClocked 0 s.heatLate)

/-! ### The bridges (R370 to R373) -/

/-- A read of BRG_FENCE on the page of function `fn` (R373). -/
def execBrgFenceRead (m : Master) (fn : Fin 11) (s : State) : Answer :=
  answer s (s.hostRead m (if fn.val == 10 then 0x032 else 0x028 + fn.val) R.BRG_FENCE_FAILED.off)

/-- A write of PERR_POP (R372). -/
def execPerrPop (m : Master) (k : Fin 2) (value : Word) (s : State) : Answer :=
  answer s (s.regWrite m (0x020 + k.val) R.PERR_POP.off value)

/-- A link trains or goes down: SPEED, WIDTH, MPS, MRRS and RCB as BRG_STAT shows them (R370). A link that goes down resets the rings of its
functions (R389). -/
def execBrgLinkChange (k : Fin 2) (up : Bool) (stat : BitVec 13) (s : State) : Answer :=
  let t := (s.wr (0x020 + k.val) R.BRG_STAT_LINK_UP.off (BitVec.ofNat 32 (b2n up + 2 * stat.toNat))).raise (0x020 + k.val) 1
  answer s (if !s.on 4 then s else if up then t else t.linkReset k.val)

/-! ### The logbook (R390 to R397) -/

/-- A record reaches LOG-P1 (R392 to R394). -/
def execLogRecordWrite (s : State) : Answer := answer s s.logWrite

/-- SWITCH_TIME has passed since the first record of the FILLING bank (R393). -/
def execLogSwitchTimer (s : State) : Answer := answer s s.logTimer

/-- LOG_CMD.REWIND (R396). -/
def execLogCmdRewind (m : Master) (s : State) : Answer := answer s (s.regWrite m pgLog R.LOG_CMD_REWIND.off 1)

/-- LOG_CMD.MARK (R396). -/
def execLogCmdMark (m : Master) (s : State) : Answer := answer s (s.regWrite m pgLog R.LOG_CMD_REWIND.off 2)

/-- LOG_CMD.RELEASE (R396). -/
def execLogCmdRelease (m : Master) (s : State) : Answer := answer s (s.regWrite m pgLog R.LOG_CMD_REWIND.off 4)

/-- LOG_CMD.SWITCH (R393). -/
def execLogCmdSwitch (m : Master) (s : State) : Answer := answer s (s.regWrite m pgLog R.LOG_CMD_REWIND.off 8)

/-- A read of `n` bytes of the logbook port, BAR2 of P1 (R395). -/
def execLogPortRead (n : Nat) (s : State) : Answer := answer s (s.portRead n)

end Sys2Proof.Machine
end

