-- ==== Sys2Proof/Machine/CmdPort.lean ====
section
/-! DEFINITION. The meanings of the commands of chapter 05: links, MAC frames, preemption, PAUSE and PFC, 10BASE-T1S, MACsec's transmit SA,
MDIO. -/

namespace Sys2Proof.Machine

/-! ### Links (R136 to R140) -/

/-- The lane's condition allows LINK: block lock or synchronisation without high bit-error rate, and where in-band negotiation applies, its
completion at a speed equal to SPEED (R136, R137). Ports E24 to E27 have no lane. -/
def State.laneReady (s : State) (n : Nat) (lane : BitVec 5) (speed : Nat) : Bool :=
  n ≥ 24 || (lane.getLsbD 1 && !lane.getLsbD 2 && (!s.anApplies n || (lane.getLsbD 3 && speed == s.speed n)))

/-- What lane and PHY report of a port changes: LANE_STAT and RX_SPEED take it, and LINK follows with
what depends on it (R137 to R140, R147, R193). -/
def execLinkChange (port : Fin 28) (up : Bool) (lane : LaneReport) (s : State) : Answer :=
  let n := port.val
  let t := if n < 24 && s.up (portDomain n) then s.wr (0x060 + n) R.LANE_STAT_CDR_LOCK.off (BitVec.ofNat 32 lane.stat.toNat) else s
  let u := if s.portRuns n && t.anApplies n then t.noteSpeed n lane.speed.val else t
  answer s (u.setLink n (up && u.laneReady n lane.stat lane.speed.val))

/-- The PHY reports a speed in its in-band control word (R136). -/
def execSpeedMismatch (port : Fin 28) (speed : Fin 8) (s : State) : Answer :=
  answer s (if s.portRuns port.val && s.anApplies port.val then s.noteSpeed port.val speed.val else s)

/-! ### Reception (R20, R25, R51, R141 to R143, R153, R161, R328) -/

/-- A frame is received (R141): its bytes, whether a symbol error ended it, and whether cut-through forwarding had begun. -/
def execEthFrameReceive (port : Fin 28) (bytes : List Byte) (symErr early : Bool) (s : State) : Answer :=
  answer s (s.ethFrame port.val bytes symErr early)

/-- A fragment or verify mPacket is received (R147, R151). -/
def execMmFragmentReceive (port : Fin 28) (frag : Fragment) (s : State) : Answer :=
  let n := port.val
  let on : Bool := s.portRuns n && s.portEnabled n && s.flag (macPage n) R.MAC_STAT_LINK && s.flag (macPage n) R.MM_CFG_EN
  answer s (if on then s.fragment n frag else s)

/-- VERIFY_TIME is over (R147): a further verify mPacket, or FAILED after the third. -/
def execMmVerifyTimer (port : Fin 28) (s : State) : Answer :=
  let n := port.val
  let m := macPage n
  let tries := (mget s.eth.tries n).getD 0
  let again := (s.putMPacket n false).start (.mmVerify n) (msT (within (s.fld m R.MM_CFG_VERIFY_TIME) 1 128))
  answer s (
    if !s.due (.mmVerify n) || s.fld m R.MM_STAT_VERIFY_STATE != 2 then s
    else if tries < 3 then { again with eth := { again.eth with tries := mset again.eth.tries n (tries + 1) } }
    else ((s.stop (.mmVerify n)).setF m R.MM_STAT_VERIFY_STATE 4).raise m 2)

/-- A response mPacket is received (R147). -/
def execMmVerifyResponse (port : Fin 28) (s : State) : Answer :=
  let m := macPage port.val
  let t := (((s.stop (.mmVerify port.val)).setF m R.MM_STAT_VERIFY_STATE 3).setB m R.MM_STAT_TX_ACTIVE true).raise m 2
  answer s (if s.fld m R.MM_STAT_VERIFY_STATE == 2 then t else s)

/-! ### PAUSE and PFC (R153 to R155) -/

/-- A PAUSE or PFC frame of 64 bytes is received. -/
def execPauseReceive (port : Fin 28) (frame : PauseFrame) (s : State) : Answer :=
  let n := port.val
  let on : Bool := s.portRuns n && s.portEnabled n && s.flag (macPage n) R.MAC_STAT_LINK
  answer s (if on then s.pauseFrame n frame 64 else s)

/-- The number of the timer of a pause: 8 for PAUSE, else the priority. -/
def pauseTimer (port : Fin 28) (prio : Option (Fin 8)) : Nat := 16 * port.val + pauseIx (prio.map (·.val))

/-- A pause timer expires. -/
def execPauseTimerExpiry (port : Fin 28) (prio : Option (Fin 8)) (s : State) : Answer :=
  answer s (if s.due (.pause (pauseTimer port prio)) then s.endPause port.val (pauseIx (prio.map (·.val))) else s)

/-- Where the cells call for it the MAC sends XOFF or XON at the next frame boundary; on a preemptable frame it asks for one (R149, R154). -/
def execPauseSend (port : Fin 28) (prio : Option (Fin 8)) (s : State) : Answer :=
  let n := port.val
  let p := prio.map (·.val)
  let t := s.settleLine n
  answer s (if !s.pauseDue n p then s else if t.lineFree n then t.pauseDecision n p else t.preemptNow n)

/-- Every PAUSE_TIME / 2 quanta the XOFF is sent again, at the next frame boundary, while the cells stay at or above XON_CELLS. -/
def execPauseRepeat (port : Fin 28) (prio : Option (Fin 8)) (s : State) : Answer :=
  let n := port.val
  let p := prio.map (·.val)
  let u := s.settleLine n
  let k := pauseTimer port prio
  answer s (
    if !s.due (.pauseRepeat k) then s
    else if !s.sendsPause n p then s.stop (.pauseRepeat k)
    else if !u.lineFree n then u.preemptNow n
    else if s.enteredCells n p < s.xonCells n then u.pauseDecision n p
    else u.repeatPause n p)

/-! ### 10BASE-T1S (R157 to R159) -/

/-- The T1S PHY `i` runs PLCA under the live settings, in HALT too, outside MAINTAIN (R166); from a REST request on it transmits nothing
(R454). -/
def State.plcaOn (s : State) (i : Nat) : Bool :=
  s.portRuns (24 + i) && s.flag (t1sPage i) R.T1S_PLCA_CFG_PLCA_EN && s.mode.service != .maintain
def State.plcaSends (s : State) (i : Nat) : Bool := s.plcaOn i && s.mode.rest == .awake

/-- Every node has had its opportunity of the present cycle, which takes TO_TIMER at least, and the port itself sends nothing. -/
def State.cycleOver (s : State) (i : Nat) : Bool :=
  match mget s.eth.plca i with
  | none => true
  | some c => s.lineIdle (24 + i)
      && c.since + bitTimes ((s.t1sNodes i - c.id) * s.fld (t1sPage i) R.T1S_PLCA_CFG_TO_TIMER) ≤ s.time.tl

/-- The coordinator starts a cycle with a BEACON (R157, R158). -/
def execPlcaCycleStart (i : Fin 4) (s : State) : Answer :=
  answer s (if s.plcaSends i.val && s.fld (t1sPage i.val) R.T1S_PLCA_CFG_NODE_ID == 0 && s.cycleOver i.val then
    ((s.emit (.beacon i.val)).newCycle i.val).setPlca i.val true else s)

/-- A BEACON is received (R158): a follower is active for 400 µs more; a coordinator notes the foreign BEACON. -/
def execPlcaBeaconReceive (i : Fin 4) (s : State) : Answer :=
  let p := t1sPage i.val
  answer s (
    if !s.plcaOn i.val then s
    else if s.fld p R.T1S_PLCA_CFG_NODE_ID == 0 then (s.setB p R.T1S_STAT_DUP_COORD true).raise (macPage (24 + i.val)) 8
    else ((s.newCycle i.val).setPlca i.val true).start (.beacon i.val) (usT 400))

/-- 400 µs pass without a BEACON (R158). -/
def execPlcaBeaconLoss (i : Fin 4) (s : State) : Answer :=
  answer s (if s.due (.beacon i.val) then (s.stop (.beacon i.val)).setPlca i.val false else s)

/-- A collision under CSMA/CD (R159): counted; the frame is sent again after a backoff of r slots of 512 bit times, r a free value below
2^min(attempts, 10), or dropped after 16 attempts (log entry 82). -/
def State.collide (s : State) (n : Nat) (x : Sending) : State :=
  let p := t1sPage (n - 24)
  let tries := (mget s.eth.attempts n).getD 0 + 1
  let s1 := s.count p R.COLLISIONS
  if tries ≥ 16 then
    let s2 := (s1.abortSending n false x Code.MAC_EXCESS_COLL).count p R.TX_EXCESS_COLL
    { s2 with eth := { s2.eth with attempts := mdel s2.eth.attempts n } }
  else
    let r := (Config.freeValue s.freeIx).toNat % 2 ^ min tries 10
    let d := r * 64 * s.byteTime n * nsUnit / 10
    let y : Sending := { x with since := s.time.tl + d, stamp := x.stamp.map fun _ => (s.txStamp n).later (d + s.bytesT n 8) }
    let s2 := s1.draw.setPort n { s1.eport n with express := some y }
    { s2 with eth := { s2.eth with attempts := mset s2.eth.attempts n tries } }

/-- A collision on the segment of T1S PHY `i` while its port sends under CSMA/CD. -/
def execCsmaCollision (i : Fin 4) (s : State) : Answer :=
  let n := 24 + i.val
  answer s (
    if !s.flag (t1sPage i.val) R.T1S_STAT_CSMA then s
    else match (s.eport n).express with
      | some x => s.collide n x
      | none => s)

/-! ### MACsec and MDIO (R162, R165) -/

/-- A write of MACSEC_TXAN (R162). -/
def execMacsecTxanWrite (m : Master) (port : Fin 28) (value : Word) (s : State) : Answer :=
  answer s (s.regWrite m (macPage port.val) R.MACSEC_TXAN.off value)

/-- A write of MDIO_CMD (R165). -/
def execMdioCmdWrite (m : Master) (pair : Fin 2) (value : Word) (s : State) : Answer :=
  answer s (s.regWrite m (mdioPage pair.val) 0x044 value)

/-- The MDIO command in progress ends; `data` is what was read (R165). -/
def execMdioCommandDone (pair : Fin 2) (data : BitVec 16) (s : State) : Answer := answer s (s.whenClocked 0 (s.mdioDone pair.val data.toNat))

/-- POLL_INT is over: the enabled slots are read, with the values given (R165). -/
def execMdioPoll (pair : Fin 2) (values : List (BitVec 16)) (s : State) : Answer :=
  let k := pair.val
  let every := s.fld (mdioPage k) R.MDIO_CFG_POLL_INT
  answer s (if every != 0 && s.on 3 && s.clocked 0 && (!s.running (.mdioPoll k) || s.due (.mdioPoll k)) then
    (s.mdioPoll k values).start (.mdioPoll k) (usT (100 * every)) else s)

end Sys2Proof.Machine
end

