-- ==== Sys2Proof/Machine/CmdRelay.lean ====
section
/-! DEFINITION. The meanings of the commands of the relay engine (chapter 09): its input queue, PDUs, authentication, monitors, IEEE 1722
streams. -/

namespace Sys2Proof.Machine

/-- The oldest PDU on its way reaches RELAY (R288). One from a transmit ring takes its times and its epoch here (R21, R286), and its
descriptor learns the outcome. -/
def execRelayPduEnqueue (s : State) : Answer :=
  answer s (
    match s.relay.coming with
    | [] => s
    | p :: t =>
      let q := if p.src == 60 then { p with stamp := s.bareStamp .relay, epoch := s.heat.liveE } else p
      let r := ({ s with relay := { s.relay with coming := t } }).pduEnters q
      r.1.txAdmitted p.tx r.2 [])

/-- The engine takes the oldest PDU of its queue (R291); the operands say which of its reads met bad parity. One of the old epoch does not pass
the route stage 100 µs after its stamp (R129). While CANAUTH has no room for its copies none is taken (R304). -/
def execRelayPdu (badRoute : Bool) (badRecord : Option (Fin 16)) (s : State) : Answer :=
  answer s (
    match s.relay.inq with
    | [] => s
    | p :: t =>
      if !s.relayOn || !s.authRoom p then s
      else if p.epoch != s.heat.liveE && Nat.blt (p.stamp.tl + usT 100) s.time.tl then (s.setInq t).relayDrop Code.EPOCH_STALE
      else (s.setInq t).routePdu p badRoute (badRecord.map (·.val)))

/-- A ceiling is durable: copies that waited for it go on (R304). -/
def execAuthCeilingCommitted (s : State) : Answer := answer s s.authResume

/-- Monitor `k` finds no update within its time (R297). -/
def execMonitorExpiry (k : Fin 4096) (s : State) : Answer :=
  answer s (if s.monitorDue k.val then s.monitorExpires k.val else s)

/-- AGG_TIME, or the earliest deadline, of stream `k` has come (R301). -/
def execAcfFlush (k : Fin 64) (s : State) : Answer := answer s (if s.relayOn && s.due (.acf k.val) then s.acfFlush k.val else s)

/-- RELAY takes the oldest frame of a receive stream (R302). -/
def execAcfDeencap (s : State) : Answer :=
  answer s (
    match s.fwd.acfIn with
    | [] => s
    | (k, f) :: t =>
      let s1 := { s with fwd := { s.fwd with acfIn := t } }
      if s.relayOn then s1.acfDeencap k f else s1.drop Code.SHED_DOMAIN)

end Sys2Proof.Machine
end

