-- ==== Sys2Proof/Machine/CmdTest.lean ====
section
/-! DEFINITION. The meanings of the commands of chapter 14: laps, test commands, test slices, handovers of MACsec engines, failures found by
a test, the MBIST log. -/

namespace Sys2Proof.Machine

/-- LAP_PERIOD has passed (R429). -/
def execLapStart (s : State) : Answer := answer s (s.whenClocked 0 (if s.due .lap then s.lapComes else s))

/-- A write of ST_CMD. -/
def State.testCommand (s : State) (m : Master) (op unit : Nat) : State :=
  s.regWrite m pgSt 0x044 (BitVec.ofNat 32 (op + unit * 2 ^ 16))

/-- START_LAP. -/
def execStStartLap (m : Master) (s : State) : Answer := answer s (s.testCommand m 1 0)

/-- STOP_LAP. -/
def execStStopLap (m : Master) (s : State) : Answer := answer s (s.testCommand m 2 0)

/-- TEST_UNIT. -/
def execStTestUnit (m : Master) (unit : BitVec 16) (s : State) : Answer := answer s (s.testCommand m 3 unit.toNat)

/-- FULL_BIST. -/
def execStFullBist (m : Master) (s : State) : Answer := answer s (s.testCommand m 4 0)

/-- HARD_REPAIR. -/
def execStHardRepair (m : Master) (s : State) : Answer := answer s (s.testCommand m 5 0)

/-- Full BIST ends with the results of the units (R443). -/
def execFullBistDone (results : List UnitRun) (s : State) : Answer :=
  answer s (s.whenClocked 0 (if s.test.op == 2 then (s.bistDone results).thenLeave else s))

/-- Hard repair ends: what memory BIST found, and the results of the units (R438, R439). Its fuse steps need FULL. -/
def execHardRepairDone (failures : List MemFailure) (results : List UnitRun) (s : State) : Answer :=
  answer s (s.whenClocked 0
    (if s.test.op == 3 && s.mode.power == .full then (s.repairDone failures results).thenLeave else s))

/-- A test slice ends (R430). -/
def execTestSliceEnd (run : SliceRun) (s : State) : Answer := answer s (s.whenClocked 0 (s.sliceEnd run))

/-- TS_GAP has passed (R426). -/
def execTsGapExpiry (s : State) : Answer := answer s (s.whenClocked 0 (if s.due .tsGap then s.gapEnd else s))

/-- The engine that takes over attaches to a port (R432). -/
def execMacsecHandover (port : Fin 28) (s : State) : Answer := answer s (s.engineAttach port.val)

/-- The engine that was replaced holds no frame (R432). -/
def execMacsecEngineRelease (s : State) : Answer := answer s s.engineRelease

/-- A unit fails while another of its class is under test, or itself (R433). -/
def execUnitFailDuringTest (unit : BitVec 16) (s : State) : Answer := answer s (s.unitFail unit.toNat Code.UNIT_FAILED)

/-- The MACsec engine that serves a port fails (R432, R440). -/
def execMacsecEngineFailure (port : Fin 28) (s : State) : Answer := answer s (s.engineFail port.val Code.UNIT_FAILED)

/-- A read of MB_LOG (R437). -/
def execMbLogPop (m : Master) (s : State) : Answer := answer s (s.hostRead m pgMbist 0x040)

end Sys2Proof.Machine
end

