-- ==== Sys2Proof/Machine/CmdTime.lean ====
section
/-! DEFINITION. The meanings of the commands of the time subsystem (chapter 10): the passing of time, steps and rates, checks, gPTP, pistols,
captures, CAN time synchronisation and time-triggered CAN. -/

namespace Sys2Proof.Machine

/-! ### Counters (R18, R19, R310 to R314) -/

/-- `n` reference cycles of 40 ns pass, for the counters and for the fuses of a life-cycle transition (R420). -/
def State.passes (s : State) (n : Nat) : State := if s.released then (s.elapse n).lcPasses (n * (40 * nsUnit)) else s

/-- TIME updates every replica, `cycles` reference cycles after the last; the islands of `off` are found off. -/
def execTimeFanoutUpdate (cycles : Nat) (off : List Island) (s : State) : Answer :=
  answer s ((s.passes cycles).fanout off)

/-- SET_CMD = SET. -/
def execTimeSet (m : Master) (k : Fin 4) (s : State) : Answer := answer s (s.regWrite m (pgDom k.val) 0x07C 1)

/-- SET_CMD = ADJ. -/
def execTimeAdj (m : Master) (k : Fin 4) (s : State) : Answer := answer s (s.regWrite m (pgDom k.val) 0x07C 2)

/-- A write of DOM_RATE. -/
def execDomRateWrite (m : Master) (k : Fin 4) (value : Word) (s : State) : Answer :=
  answer s (s.regWrite m (pgDom k.val) R.DOM_RATE.off value)

/-- A write of HOST_OFS: an offset sample (R316). -/
def execHostOfsWrite (m : Master) (k : Fin 4) (value : Word) (s : State) : Answer := answer s (s.regWrite m (pgDom k.val) 0x088 value)

/-- HOLD_TO passes without a sample (R317). -/
def execServoHoldover (k : Fin 4) (s : State) : Answer :=
  answer s (if s.due (.holdover k.val) then (s.toHoldover k.val).stop (.holdover k.val) else s)

/-- Counters A and B of each domain are compared, and TL voted (R318, R320): by how many counter units B is found to differ from A where it does,
and counters 1 and 2 of TL from counter 0. -/
def execDualCounterCheck (diffs : List (Fin 4 × Int)) (tl : Int × Int) (s : State) : Answer :=
  answer s (if s.released then (diffs.foldl (fun t d => t.dualCheck d.1.val d.2) s).tlVote tl.1 tl.2 else s)

/-- A read of a FRAC word (R313); `g` is a domain, or 4 for TL. -/
def execTimeFracRead (m : Master) (g : Fin 5) (s : State) : Answer :=
  answer s (if g.val < 4 then s.hostRead m (pgDom g.val) 0x060 else s.hostRead m pgTime 0x040)

/-! ### IEEE 802.1AS (R328 to R332) -/

/-- A gPTP message is heard at port `n`: the port runs gPTP and has a link. -/
def State.ptpHears (s : State) (n : Nat) : Bool := s.ptpOn n && s.flag (macPage n) R.MAC_STAT_LINK && s.mode.rest == .awake

/-- The Pdelay_Req interval has passed. -/
def execPdelayReqSend (port : Fin 24) (s : State) : Answer :=
  let n := port.val
  answer s (if s.ptpOn n && (!s.running (.pdelay n) || s.due (.pdelay n)) then s.pdelayReq n else s)

/-- A Pdelay_Resp or its follow-up is received. -/
def execPdelayRespReceive (port : Fin 24) (msg : PtpMsg) (s : State) : Answer :=
  let n := port.val
  answer s (if s.ptpHears n then (s.pdelayResp n msg (s.rxStamp n)).ptpTaken n msg (s.rxStamp n) else s)

/-- No response within 10 ms, to the newest request or to one before it. -/
def execPdelayTimeout (port : Fin 24) (s : State) : Answer :=
  let n := port.val
  let s1 := if s.due (exchangeTmr n true) then s.pdelayMissed n true else s
  answer s (if s1.due (exchangeTmr n false) then s1.pdelayMissed n false else s1)

/-- A Pdelay_Req is received. -/
def execPdelayReqReceive (port : Fin 24) (msg : PtpMsg) (s : State) : Answer :=
  let n := port.val
  answer s (if s.ptpHears n then (s.pdelayAnswer n msg (s.rxStamp n)).ptpTaken n msg (s.rxStamp n) else s)

/-- A Sync is received. -/
def execSyncReceive (port : Fin 24) (msg : PtpMsg) (s : State) : Answer :=
  let n := port.val
  answer s (if s.ptpHears n then (s.syncReceive n msg (s.rxStamp n)).ptpTaken n msg (s.rxStamp n) else s)

/-- A Follow_Up is received. -/
def execFollowUpReceive (port : Fin 24) (msg : PtpMsg) (s : State) : Answer :=
  let n := port.val
  answer s (if s.ptpHears n then (s.followUp n msg).ptpTaken n msg (s.rxStamp n) else s)

/-- The Sync interval of master port `n` in domain `k` has passed (R332). -/
def execSyncSend (port : Fin 24) (k : Fin 4) (s : State) : Answer :=
  let n := port.val
  let t : Tmr := .sync (n * 4 + k.val)
  let master : Bool := s.ptpOn n && s.ptpRole n k.val == 2 && s.syncSource k.val
  answer s (if master && (!s.running t || s.due t) then s.syncSend n k.val else s)

/-- An Announce is received and the Coach decides (R329). -/
def execAnnounceReceive (port : Fin 24) (msg : PtpMsg) (decision : Option BmcaResult) (s : State) : Answer :=
  let n := port.val
  answer s (if s.ptpHears n then (s.announce n msg decision).ptpTaken n msg (s.rxStamp n) else s)

/-! ### Pistols and captures (R333 to R337) -/

/-- A pistol reaches its next edge. -/
def execPistolEdge (p : Fin 16) (s : State) : Answer := answer s (if s.pistolDue p.val then s.pistolEdge p.val else s)

/-- A pulse has lasted its width. -/
def execPistolPulseEnd (p : Fin 16) (s : State) : Answer := answer s (if s.pulseDue p.val then s.pulseEnd p.val else s)

/-- An edge comes on a capture input. Captures are held in REST and while PLL2 is held (R88, R90); while PLL2 is being replaced a stamp is taken,
with INVALID (R89). -/
def execCaptureEdge (i : Fin 8) (rising : Bool) (s : State) : Answer :=
  answer s (if s.released && s.mode.power != .rest && (s.clocked 2 || s.power.substituting == some 2) then s.captureEdge i.val rising else s)

/-- A read of CAP_TS_NS. -/
def execCapTsPop (m : Master) (i : Fin 8) (s : State) : Answer := answer s (s.hostRead m pgCapture (0x044 + 32 * i.val))

/-! ### CAN time synchronisation and time-triggered CAN (R338 to R342) -/

/-- PERIOD of a master slot has passed. -/
def execCtsSyncPeriod (i : Fin 8) (s : State) : Answer := answer s (if s.ctsDue i.val then s.ctsPush i.val else s)

/-- The channel of slot `i` takes frames from its bus. -/
def State.ctsHears (s : State) (i : Nat) : Bool := s.canOn (s.ctsChannel i) && Nat.blt (s.errState (s.ctsChannel i)) 2

/-- A SYNC is received on the channel of a slave slot; its start of frame lies `sofNs` back (R327). It is received, routed and stored like any
other frame (R339). -/
def execCtsSyncReceive (i : Fin 8) (frame : CanWire) (sofNs : Nat) (s : State) : Answer :=
  let c := s.ctsChannel i.val
  let f := CanWire.frame frame
  answer s (if s.ctsHears i.val && s.ctsMatches i.val c f 0x10 then ((s.canHeard c).canTaken c f).slotsTake c f (s.sofBack c sofNs) else s)

/-- A FUP is received on the channel of a slave slot, like any other frame (R339). -/
def execCtsFupReceive (i : Fin 8) (frame : CanWire) (s : State) : Answer :=
  let c := s.ctsChannel i.val
  let f := CanWire.frame frame
  answer s (if s.ctsHears i.val && s.ctsMatches i.val c f 0x18 then ((s.canHeard c).canTaken c f).slotsTake c f (s.canStamp c) else s)

/-- A window of a time-triggered schedule opens. -/
def execTtWindowOpen (c : Fin 48) (j : Fin 16) (s : State) : Answer := answer s (s.ttOpen c.val j.val)

/-- Windows of a time-triggered schedule close. -/
def execTtWindowClose (c : Fin 48) (s : State) : Answer := answer s (s.ttClose c.val)

end Sys2Proof.Machine
end

