-- ==== Sys2Proof/Machine/CmdWake.lean ====
section
/-! DEFINITION. The meanings of the commands of chapter 15: wake inputs, partial-network filters, entry to REST and exit. -/

namespace Sys2Proof.Machine

/-! ### Wake inputs (R446 to R449) -/

/-- A write of WK_CFG of input `n`. -/
def execWkCfgWrite (m : Master) (n : Fin 16) (value : Word) (s : State) : Answer :=
  answer s (s.regWrite m pgWakeIn (0x100 + 16 * n.val) value)

/-- The filtered level of a ball changes. -/
def execWakeRawChange (n : Fin 16) (ball : Bool) (s : State) : Answer := answer s (if s.alive then s.rawChange n.val ball else s)

/-- RAW has held its level for DEBOUNCE. -/
def execWakeDebounceExpiry (n : Fin 16) (s : State) : Answer :=
  answer s (if s.due (.debounce n.val) then s.debounced n.val else s)

/-- The hold-off of a chattering input ends. -/
def execWakeHoldoffEnd (n : Fin 16) (s : State) : Answer := answer s (if s.due (.holdoff n.val) then s.holdoffEnd n.val else s)

/-- An input has been active for STUCK_TIME. -/
def execWakeStuck (n : Fin 16) (s : State) : Answer := answer s (if s.due (.stuck n.val) then s.stuckComes n.val else s)

/-! ### Partial networking and T1S (R452 to R454) -/

/-- A wake-up pattern on a channel. -/
def execPnWup (c : Fin 48) (s : State) : Answer := answer s (if s.alive then s.pnWup c else s)

/-- A Classical frame on a channel: a wake-up frame where it matches. -/
def execPnWuf (c : Fin 48) (ide : Bool) (id : BitVec 29) (dlc : BitVec 4) (data : List Byte) (s : State) : Answer :=
  answer s (if s.alive then s.pnWuf c ide id dlc.toNat data else s)

/-- A frame error on a channel, or a CAN FD or CAN XL frame where `fd`. -/
def execPnFrameError (c : Fin 48) (fd : Bool) (s : State) : Answer := answer s (if s.alive then s.pnError c fd else s)

/-- A wake signal on a T1S segment. -/
def execT1sWakeSignal (i : Fin 4) (s : State) : Answer := answer s (if s.alive then s.t1sWake i else s)

/-- A wake event of any source (R459, R460). -/
def execWakeEvent (src : WakeSource) (s : State) : Answer := answer s (if s.alive then s.wakeBy src else s)

/-! ### REST (R447, R458 to R460) -/

/-- The journal is empty: the entry commits. -/
def execRestJournalDone (s : State) : Answer := answer s s.restJournaled

/-- PD3 to PD15 go off. -/
def execRestDomainsOff (s : State) : Answer := answer s s.restOff

/-- PWR_REQ falls. -/
def execRestPwrReqLow (s : State) : Answer := answer s s.restLast

/-- PG_MAIN and PG_BAK are sampled on the way out. -/
def execRestExitPgSample (pgMain pgBak : Bool) (s : State) : Answer := answer s (s.exitSample pgMain pgBak)

/-- No PG line rises within PG_WAIT. -/
def execPgWaitExpiry (s : State) : Answer := answer s s.exitTimeout

/-- The pulse of a PHY_WAKE_OUT ball ends. -/
def execPhyWakeOutEnd (n : Fin 16) (s : State) : Answer := answer s (if s.due (.phyWake n.val) then s.phyWakeEnd n.val else s)

end Sys2Proof.Machine
end

