-- ==== Sys2Proof/Machine/Dispatch.lean ====
section
/-! DEFINITION. One arm per command: a direct call of its meaning. -/

namespace Sys2Proof.Machine

def exec (i : Instr) (s : State) : Host.Outcome State Fault Refusal :=
  match i with
  | .trimReq m on => Sys2Proof.Machine.execTrimReq m on s
  | .restReq m trim => Sys2Proof.Machine.execRestReq m trim s
  | .serviceReqHalt m trim => Sys2Proof.Machine.execServiceReqHalt m trim s
  | .serviceReqMaintain m trim => Sys2Proof.Machine.execServiceReqMaintain m trim s
  | .serviceReqLeaveMaintain m trim => Sys2Proof.Machine.execServiceReqLeaveMaintain m trim s
  | .quarClear m trim => Sys2Proof.Machine.execQuarClear m trim s
  | .droopDetect => Sys2Proof.Machine.execDroopDetect s
  | .droopCrit => Sys2Proof.Machine.execDroopCrit s
  | .thermalSample samples => Sys2Proof.Machine.execThermalSample samples s
  | .trimHoldExpiry => Sys2Proof.Machine.execTrimHoldExpiry s
  | .pgMainLoss => Sys2Proof.Machine.execPgMainLoss s
  | .pgHoldExpiry => Sys2Proof.Machine.execPgHoldExpiry s
  | .domainGroupStart => Sys2Proof.Machine.execDomainGroupStart s
  | .domainRestore pd => Sys2Proof.Machine.execDomainRestore pd s
  | .supplyLossRest => Sys2Proof.Machine.execSupplyLossRest s
  | .tamperEvent => Sys2Proof.Machine.execTamperEvent s
  | .runtimeRemeasure hash => Sys2Proof.Machine.execRuntimeRemeasure hash s
  | .diagExitHoldExpiry => Sys2Proof.Machine.execDiagExitHoldExpiry s
  | .standbySwitchover => Sys2Proof.Machine.execStandbySwitchover s
  | .standbyReturn => Sys2Proof.Machine.execStandbyReturn s
  | .vaonCollapse => Sys2Proof.Machine.execVaonCollapse s
  | .internalPorRelease bootsel main bak => Sys2Proof.Machine.execInternalPorRelease bootsel main bak s
  | .porstAssert => Sys2Proof.Machine.execPorstAssert s
  | .porstRelease bootsel => Sys2Proof.Machine.execPorstRelease bootsel s
  | .wrstAssert => Sys2Proof.Machine.execWrstAssert s
  | .wrstRelease => Sys2Proof.Machine.execWrstRelease s
  | .rstCtrlWarm m => Sys2Proof.Machine.execRstCtrlWarm m s
  | .rstCtrlDomRst m mask => Sys2Proof.Machine.execRstCtrlDomRst m mask s
  | .watchdogExpiry => Sys2Proof.Machine.execWatchdogExpiry s
  | .pwrLeanCfgWrite m value => Sys2Proof.Machine.execPwrLeanCfgWrite m value s
  | .pllLockLoss plls => Sys2Proof.Machine.execPllLockLoss plls s
  | .pllSubstituteDone => Sys2Proof.Machine.execPllSubstituteDone s
  | .refclkLost => Sys2Proof.Machine.execRefclkLost s
  | .refclkReturn => Sys2Proof.Machine.execRefclkReturn s
  | .bootFuseSense => Sys2Proof.Machine.execBootFuseSense s
  | .bootPllLock => Sys2Proof.Machine.execBootPllLock s
  | .bootHostifOn => Sys2Proof.Machine.execBootHostifOn s
  | .bootRomMbist failures => Sys2Proof.Machine.execBootRomMbist failures s
  | .bootImageRead image => Sys2Proof.Machine.execBootImageRead image s
  | .bootImageCheck => Sys2Proof.Machine.execBootImageCheck s
  | .p0BootGo m value => Sys2Proof.Machine.execP0BootGo m value s
  | .p0BootTimeout => Sys2Proof.Machine.execP0BootTimeout s
  | .bootNvmRecovery badDigest => Sys2Proof.Machine.execBootNvmRecovery badDigest s
  | .bootDomainSwitchOn pgMain pgBak => Sys2Proof.Machine.execBootDomainSwitchOn pgMain pgBak s
  | .bootDomainMbist failures => Sys2Proof.Machine.execBootDomainMbist failures s
  | .bootMeasurement ok => Sys2Proof.Machine.execBootMeasurement ok s
  | .bootHalt => Sys2Proof.Machine.execBootHalt s
  | .pcieDetect => Sys2Proof.Machine.execPcieDetect s
  | .registerWrite m w off value extent => Sys2Proof.Machine.execRegisterWrite m w off value extent s
  | .errCountRead m page => Sys2Proof.Machine.execErrCountRead m page s
  | .counterReadClear m w span => Sys2Proof.Machine.execCounterReadClear m w span s
  | .counter64LoRead m page off => Sys2Proof.Machine.execCounter64LoRead m page off s
  | .pageSoftReset m page value => Sys2Proof.Machine.execPageSoftReset m page value s
  | .pageFreeze m page value => Sys2Proof.Machine.execPageFreeze m page value s
  | .lockWrite m page value => Sys2Proof.Machine.execLockWrite m page value s
  | .lockFinal m page value => Sys2Proof.Machine.execLockFinal m page value s
  | .stagedRegisterWrite m page off value => Sys2Proof.Machine.execStagedRegisterWrite m page off value s
  | .tblReadLive m page => Sys2Proof.Machine.execTblReadLive m page s
  | .tblReadStaged m page => Sys2Proof.Machine.execTblReadStaged m page s
  | .tblWriteStaged m page => Sys2Proof.Machine.execTblWriteStaged m page s
  | .tblDeleteStaged m page => Sys2Proof.Machine.execTblDeleteStaged m page s
  | .tblWriteDirect m page => Sys2Proof.Machine.execTblWriteDirect m page s
  | .tblReadRaw m page => Sys2Proof.Machine.execTblReadRaw m page s
  | .tblOwnerTimeout page => Sys2Proof.Machine.execTblOwnerTimeout page s
  | .heatCommit m => Sys2Proof.Machine.execHeatCommit m s
  | .heatAbort m => Sys2Proof.Machine.execHeatAbort m s
  | .heatDiscard m => Sys2Proof.Machine.execHeatDiscard m s
  | .heatLoad => Sys2Proof.Machine.execHeatLoad s
  | .refereeVerdict => Sys2Proof.Machine.execRefereeVerdict s
  | .heatSwap => Sys2Proof.Machine.execHeatSwap s
  | .heatSettle => Sys2Proof.Machine.execHeatSettle s
  | .heatLateRelease => Sys2Proof.Machine.execHeatLateRelease s
  | .linkChange port up lane => Sys2Proof.Machine.execLinkChange port up lane s
  | .ethFrameReceive port bytes symErr early => Sys2Proof.Machine.execEthFrameReceive port bytes symErr early s
  | .mmFragmentReceive port frag => Sys2Proof.Machine.execMmFragmentReceive port frag s
  | .mmVerifyTimer port => Sys2Proof.Machine.execMmVerifyTimer port s
  | .mmVerifyResponse port => Sys2Proof.Machine.execMmVerifyResponse port s
  | .pauseReceive port frame => Sys2Proof.Machine.execPauseReceive port frame s
  | .pauseTimerExpiry port prio => Sys2Proof.Machine.execPauseTimerExpiry port prio s
  | .pauseSend port prio => Sys2Proof.Machine.execPauseSend port prio s
  | .pauseRepeat port prio => Sys2Proof.Machine.execPauseRepeat port prio s
  | .plcaCycleStart ix => Sys2Proof.Machine.execPlcaCycleStart ix s
  | .plcaBeaconReceive ix => Sys2Proof.Machine.execPlcaBeaconReceive ix s
  | .plcaBeaconLoss ix => Sys2Proof.Machine.execPlcaBeaconLoss ix s
  | .macsecTxanWrite m port value => Sys2Proof.Machine.execMacsecTxanWrite m port value s
  | .mdioCmdWrite m pair value => Sys2Proof.Machine.execMdioCmdWrite m pair value s
  | .mdioCommandDone pair data => Sys2Proof.Machine.execMdioCommandDone pair data s
  | .mdioPoll pair values => Sys2Proof.Machine.execMdioPoll pair values s
  | .frameClassify => Sys2Proof.Machine.execFrameClassify s
  | .frameLookup vlanBad daBad saBad onward => Sys2Proof.Machine.execFrameLookup vlanBad daBad saBad onward s
  | .learnServe => Sys2Proof.Machine.execLearnServe s
  | .ageTick => Sys2Proof.Machine.execAgeTick s
  | .learnFlush m role value => Sys2Proof.Machine.execLearnFlush m role value s
  | .fwdSeedWrite m k value => Sys2Proof.Machine.execFwdSeedWrite m k value s
  | .shadowComparePass findings => Sys2Proof.Machine.execShadowComparePass findings s
  | .sliceSubstitution => Sys2Proof.Machine.execSliceSubstitution s
  | .sliceCopyDone => Sys2Proof.Machine.execSliceCopyDone s
  | .sliceFailure ix => Sys2Proof.Machine.execSliceFailure ix s
  | .streamGateEntry g => Sys2Proof.Machine.execStreamGateEntry g s
  | .sfUnblock m value => Sys2Proof.Machine.execSfUnblock m value s
  | .sgReopen m value => Sys2Proof.Machine.execSgReopen m value s
  | .mtrClear m value => Sys2Proof.Machine.execMtrClear m value s
  | .flowPacerRelease k => Sys2Proof.Machine.execFlowPacerRelease k s
  | .laneSelect port cell => Sys2Proof.Machine.execLaneSelect port cell s
  | .frameTransmitEnd port => Sys2Proof.Machine.execFrameTransmitEnd port s
  | .hurdleEntryStart port => Sys2Proof.Machine.execHurdleEntryStart port s
  | .hurdleHoldIssue port => Sys2Proof.Machine.execHurdleHoldIssue port s
  | .canFrameReceive c frame begun => Sys2Proof.Machine.execCanFrameReceive c frame begun s
  | .canTxStart c delay => Sys2Proof.Machine.execCanTxStart c delay s
  | .canTxSuccess c => Sys2Proof.Machine.execCanTxSuccess c s
  | .canArbLost c => Sys2Proof.Machine.execCanArbLost c s
  | .canBusError c e => Sys2Proof.Machine.execCanBusError c e s
  | .busOffEnd c seen => Sys2Proof.Machine.execBusOffEnd c seen s
  | .canIntegrated c => Sys2Proof.Machine.execCanIntegrated c s
  | .canTimingSwitch c => Sys2Proof.Machine.execCanTimingSwitch c s
  | .txbReq m c b => Sys2Proof.Machine.execTxbReq m c b s
  | .txbCancel m c b => Sys2Proof.Machine.execTxbCancel m c b s
  | .txqPush m c value => Sys2Proof.Machine.execTxqPush m c value s
  | .txqCancel m c value => Sys2Proof.Machine.execTxqCancel m c value s
  | .txevRead m c => Sys2Proof.Machine.execTxevRead m c s
  | .canLifetimeExpiry c => Sys2Proof.Machine.execCanLifetimeExpiry c s
  | .mailboxOpen m c ix => Sys2Proof.Machine.execMailboxOpen m c ix s
  | .canHandoverRequest c core => Sys2Proof.Machine.execCanHandoverRequest c core s
  | .canHandoverMove c => Sys2Proof.Machine.execCanHandoverMove c s
  | .canHandoverAbandon c => Sys2Proof.Machine.execCanHandoverAbandon c s
  | .canCoreFailure c => Sys2Proof.Machine.execCanCoreFailure c s
  | .linSlotStart n => Sys2Proof.Machine.execLinSlotStart n s
  | .linHeaderReceive n pid rate => Sys2Proof.Machine.execLinHeaderReceive n pid rate s
  | .linResponseEnd n bytes framing bitError => Sys2Proof.Machine.execLinResponseEnd n bytes framing bitError s
  | .linResponseTimeout n started => Sys2Proof.Machine.execLinResponseTimeout n started s
  | .linDataCommit m n id value => Sys2Proof.Machine.execLinDataCommit m n id value s
  | .linDataRead m n id => Sys2Proof.Machine.execLinDataRead m n id s
  | .linWakeCmd m n => Sys2Proof.Machine.execLinWakeCmd m n s
  | .linBusWake n us => Sys2Proof.Machine.execLinBusWake n us s
  | .linIdleSleep n => Sys2Proof.Machine.execLinIdleSleep n s
  | .linCommanderResume n => Sys2Proof.Machine.execLinCommanderResume n s
  | .linHandover n => Sys2Proof.Machine.execLinHandover n s
  | .relayPduEnqueue => Sys2Proof.Machine.execRelayPduEnqueue s
  | .relayPdu badRoute badRecord => Sys2Proof.Machine.execRelayPdu badRoute badRecord s
  | .authCeilingCommitted => Sys2Proof.Machine.execAuthCeilingCommitted s
  | .monitorExpiry k => Sys2Proof.Machine.execMonitorExpiry k s
  | .acfFlush k => Sys2Proof.Machine.execAcfFlush k s
  | .acfDeencap => Sys2Proof.Machine.execAcfDeencap s
  | .timeFanoutUpdate cycles off => Sys2Proof.Machine.execTimeFanoutUpdate cycles off s
  | .timeSet m k => Sys2Proof.Machine.execTimeSet m k s
  | .timeAdj m k => Sys2Proof.Machine.execTimeAdj m k s
  | .domRateWrite m k value => Sys2Proof.Machine.execDomRateWrite m k value s
  | .hostOfsWrite m k value => Sys2Proof.Machine.execHostOfsWrite m k value s
  | .servoHoldover k => Sys2Proof.Machine.execServoHoldover k s
  | .dualCounterCheck diffs tl => Sys2Proof.Machine.execDualCounterCheck diffs tl s
  | .timeFracRead m g => Sys2Proof.Machine.execTimeFracRead m g s
  | .pdelayReqSend port => Sys2Proof.Machine.execPdelayReqSend port s
  | .pdelayRespReceive port msg => Sys2Proof.Machine.execPdelayRespReceive port msg s
  | .pdelayTimeout port => Sys2Proof.Machine.execPdelayTimeout port s
  | .pdelayReqReceive port msg => Sys2Proof.Machine.execPdelayReqReceive port msg s
  | .syncReceive port msg => Sys2Proof.Machine.execSyncReceive port msg s
  | .followUpReceive port msg => Sys2Proof.Machine.execFollowUpReceive port msg s
  | .syncSend port k => Sys2Proof.Machine.execSyncSend port k s
  | .announceReceive port msg decision => Sys2Proof.Machine.execAnnounceReceive port msg decision s
  | .pistolEdge p => Sys2Proof.Machine.execPistolEdge p s
  | .pistolPulseEnd p => Sys2Proof.Machine.execPistolPulseEnd p s
  | .captureEdge ix rising => Sys2Proof.Machine.execCaptureEdge ix rising s
  | .capTsPop m ix => Sys2Proof.Machine.execCapTsPop m ix s
  | .ctsSyncPeriod ix => Sys2Proof.Machine.execCtsSyncPeriod ix s
  | .ctsSyncReceive ix frame sofNs => Sys2Proof.Machine.execCtsSyncReceive ix frame sofNs s
  | .ctsFupReceive ix frame => Sys2Proof.Machine.execCtsFupReceive ix frame s
  | .ttWindowOpen c j => Sys2Proof.Machine.execTtWindowOpen c j s
  | .ttWindowClose c => Sys2Proof.Machine.execTtWindowClose c s
  | .contractStateUpdate => Sys2Proof.Machine.execContractStateUpdate s
  | .brgFenceRead m fn => Sys2Proof.Machine.execBrgFenceRead m fn s
  | .perrPop m k value => Sys2Proof.Machine.execPerrPop m k value s
  | .brgLinkChange k up stat => Sys2Proof.Machine.execBrgLinkChange k up stat s
  | .ringEnable m fn r value => Sys2Proof.Machine.execRingEnable m fn r value s
  | .ringDisable m fn r value => Sys2Proof.Machine.execRingDisable m fn r value s
  | .ringTailWrite m fn r value => Sys2Proof.Machine.execRingTailWrite m fn r value s
  | .descFetch fn r descs => Sys2Proof.Machine.execDescFetch fn r descs s
  | .rxCopyWrite fn r => Sys2Proof.Machine.execRxCopyWrite fn r s
  | .ringWaitExpiry fn r => Sys2Proof.Machine.execRingWaitExpiry fn r s
  | .txFrameEnter data => Sys2Proof.Machine.execTxFrameEnter data s
  | .txWriteback fn r => Sys2Proof.Machine.execTxWriteback fn r s
  | .tsLostTimeout fn r => Sys2Proof.Machine.execTsLostTimeout fn r s
  | .ringIrqModTime fn r => Sys2Proof.Machine.execRingIrqModTime fn r s
  | .outboundReadError fn r => Sys2Proof.Machine.execOutboundReadError fn r s
  | .functionLevelReset fn => Sys2Proof.Machine.execFunctionLevelReset fn s
  | .pcieHotReset e => Sys2Proof.Machine.execPcieHotReset e s
  | .logRecordWrite => Sys2Proof.Machine.execLogRecordWrite s
  | .logSwitchTimer => Sys2Proof.Machine.execLogSwitchTimer s
  | .logCmdRewind m => Sys2Proof.Machine.execLogCmdRewind m s
  | .logCmdMark m => Sys2Proof.Machine.execLogCmdMark m s
  | .logCmdRelease m => Sys2Proof.Machine.execLogCmdRelease m s
  | .logCmdSwitch m => Sys2Proof.Machine.execLogCmdSwitch m s
  | .logPortRead n => Sys2Proof.Machine.execLogPortRead n s
  | .keyLoad m => Sys2Proof.Machine.execKeyLoad m s
  | .saltLoad m => Sys2Proof.Machine.execSaltLoad m s
  | .attrCommit m => Sys2Proof.Machine.execAttrCommit m s
  | .keyDerive m value => Sys2Proof.Machine.execKeyDerive m value s
  | .keyGenerate m value => Sys2Proof.Machine.execKeyGenerate m value s
  | .keyInvalidate m value => Sys2Proof.Machine.execKeyInvalidate m value s
  | .orphanWipe n => Sys2Proof.Machine.execOrphanWipe n s
  | .nvmWriteDone => Sys2Proof.Machine.execNvmWriteDone s
  | .nvmVerifyFail => Sys2Proof.Machine.execNvmVerifyFail s
  | .attGo m value => Sys2Proof.Machine.execAttGo m value s
  | .attDone => Sys2Proof.Machine.execAttDone s
  | .drbgFail => Sys2Proof.Machine.execDrbgFail s
  | .drbgRestart ok => Sys2Proof.Machine.execDrbgRestart ok s
  | .drbgOutRead m => Sys2Proof.Machine.execDrbgOutRead m s
  | .lcReq m value => Sys2Proof.Machine.execLcReq m value s
  | .lcRollbackAdvance m value => Sys2Proof.Machine.execLcRollbackAdvance m value s
  | .lapStart => Sys2Proof.Machine.execLapStart s
  | .stStartLap m => Sys2Proof.Machine.execStStartLap m s
  | .stStopLap m => Sys2Proof.Machine.execStStopLap m s
  | .stTestUnit m unit => Sys2Proof.Machine.execStTestUnit m unit s
  | .stFullBist m => Sys2Proof.Machine.execStFullBist m s
  | .fullBistDone results => Sys2Proof.Machine.execFullBistDone results s
  | .stHardRepair m => Sys2Proof.Machine.execStHardRepair m s
  | .hardRepairDone failures results => Sys2Proof.Machine.execHardRepairDone failures results s
  | .testSliceEnd run => Sys2Proof.Machine.execTestSliceEnd run s
  | .macsecHandover port => Sys2Proof.Machine.execMacsecHandover port s
  | .macsecEngineRelease => Sys2Proof.Machine.execMacsecEngineRelease s
  | .unitFailDuringTest unit => Sys2Proof.Machine.execUnitFailDuringTest unit s
  | .macsecEngineFailure port => Sys2Proof.Machine.execMacsecEngineFailure port s
  | .mbLogPop m => Sys2Proof.Machine.execMbLogPop m s
  | .wkCfgWrite m n value => Sys2Proof.Machine.execWkCfgWrite m n value s
  | .wakeRawChange n ball => Sys2Proof.Machine.execWakeRawChange n ball s
  | .wakeDebounceExpiry n => Sys2Proof.Machine.execWakeDebounceExpiry n s
  | .wakeHoldoffEnd n => Sys2Proof.Machine.execWakeHoldoffEnd n s
  | .wakeStuck n => Sys2Proof.Machine.execWakeStuck n s
  | .pnWup c => Sys2Proof.Machine.execPnWup c s
  | .pnWuf c ide id dlc data => Sys2Proof.Machine.execPnWuf c ide id dlc data s
  | .pnFrameError c fd => Sys2Proof.Machine.execPnFrameError c fd s
  | .t1sWakeSignal ix => Sys2Proof.Machine.execT1sWakeSignal ix s
  | .restJournalDone => Sys2Proof.Machine.execRestJournalDone s
  | .restDomainsOff => Sys2Proof.Machine.execRestDomainsOff s
  | .restPwrReqLow => Sys2Proof.Machine.execRestPwrReqLow s
  | .wakeEvent src => Sys2Proof.Machine.execWakeEvent src s
  | .restExitPgSample pgMain pgBak => Sys2Proof.Machine.execRestExitPgSample pgMain pgBak s
  | .pgWaitExpiry => Sys2Proof.Machine.execPgWaitExpiry s
  | .phyWakeOutEnd n => Sys2Proof.Machine.execPhyWakeOutEnd n s
  | .faultNRelease => Sys2Proof.Machine.execFaultNRelease s
  | .faultForce m value => Sys2Proof.Machine.execFaultForce m value s
  | .coachLockstep => Sys2Proof.Machine.execCoachLockstep s
  | .fabricErr victim => Sys2Proof.Machine.execFabricErr victim s
  | .speedMismatch port speed => Sys2Proof.Machine.execSpeedMismatch port speed s
  | .tamperEnd => Sys2Proof.Machine.execTamperEnd s
  | .droopEnd clear => Sys2Proof.Machine.execDroopEnd clear s
  | .tsGapExpiry => Sys2Proof.Machine.execTsGapExpiry s
  | .csmaCollision ix => Sys2Proof.Machine.execCsmaCollision ix s
  | .inTestStallEnd k => Sys2Proof.Machine.execInTestStallEnd k s

end Sys2Proof.Machine
end

