-- ==== Sys2Proof/Machine/Step.lean ====
section
/-! DEFINITION. One step of the machine: the command at the front of the queue, or, with the queue empty, one AON cycle of time. -/

namespace Sys2Proof.Machine

/-- Take the oldest waiting command and run it with the rest of the queue. With no command waiting, one AON cycle (40 ns, R38) passes
in the time subsystem and nothing else happens (DESIGN CHOICE, log entry 1). -/
def step (s : State) : Host.Outcome State Fault Refusal :=
  match s.pending with
  | c :: rest => exec c { s with pending := rest }
  | [] => answer s (s.passes 1)

/-- The state with the command that a word of the opcode table spells put at the front of its queue; unchanged where it spells none. -/
def State.withFetchWord (s : State) (nbits w : Nat) : State :=
  match decodeTableWord nbits w with
  | some c => { s with pending := c :: s.pending }
  | none => s

end Sys2Proof.Machine
end

