-- ==== Sys2Proof/Machine/Pins.lean ====
section
/-! DEFINITION. The signal balls of the package: their positions (R478), their pad rings (R479) and the state of their pads, a view of State
(R480, R481). -/

namespace Sys2Proof.Machine

/-- The four balls of a SerDes or PCIe lane. -/
inductive LaneBall where
  | txp
  | txn
  | rxn
  | rxp
  deriving DecidableEq, Repr

/-- The signals of the package (R478). `false` and `true` of a pair are its P and N balls. -/
inductive Signal where
  | sd (k : Fin 24) (b : LaneBall)
  | sdRext (q : Fin 6)
  | pcie (k : Fin 2) (j : Fin 4) (b : LaneBall)
  | refclk (k : Fin 2) (n : Bool)
  | perst (k : Fin 2)
  | canTx (c : Fin 48)
  | canRx (c : Fin 48)
  | linTx (n : Fin 12)
  | linRx (n : Fin 12)
  | t1s (i : Fin 4) (n : Bool)
  | pst (p : Fin 16)
  | cap (i : Fin 8)
  | wake (n : Fin 16)
  | xspiCs
  | xspiCk
  | xspiDqs
  | xspiDq (i : Fin 8)
  | xspiRst
  | mdc (m : Fin 2)
  | mdio (m : Fin 2)
  | tck
  | tms
  | tdi
  | tdo
  | trst
  | porst
  | wrst
  | bootsel (i : Fin 2)
  | faultN
  | pwrReq
  | pgMain
  | pgBak
  | xin
  | xout
  deriving DecidableEq, Repr

/-- The row of a lane's ball. -/
def LaneBall.row : LaneBall → Nat
  | .txp => 34
  | .txn => 33
  | .rxn => 32
  | .rxp => 31

/-- Row and column of a signal's ball (R478). -/
def Signal.ball : Signal → Nat × Nat
  | .sd k b => (b.row, 3 + k.val)
  | .sdRext q => (30, 4 + 4 * q.val)
  | .pcie k j b => (b.row, 27 + 4 * k.val + j.val)
  | .refclk k n => (30, 27 + 4 * k.val + b2n n)
  | .perst k => (30, 29 + 4 * k.val)
  | .canTx c => if c.val < 32 then (1, c.val + 2) else (c.val - 29, 1)
  | .canRx c => if c.val < 32 then (2, c.val + 2) else (c.val - 29, 2)
  | .linTx n => (n.val + 19, 1)
  | .linRx n => (n.val + 19, 2)
  | .t1s i n => (19 + 2 * i.val + b2n n, 33)
  | .pst p => (p.val + 3, 34)
  | .cap i => (i.val + 19, 34)
  | .wake n => (n.val + 3, 33)
  | .xspiCs => (3, 32)
  | .xspiCk => (4, 32)
  | .xspiDqs => (5, 32)
  | .xspiDq i => (6 + i.val, 32)
  | .xspiRst => (14, 32)
  | .mdc m => (15 + 2 * m.val, 32)
  | .mdio m => (16 + 2 * m.val, 32)
  | .tck => (19, 32)
  | .tms => (20, 32)
  | .tdi => (21, 32)
  | .tdo => (22, 32)
  | .trst => (23, 32)
  | .porst => (24, 32)
  | .wrst => (25, 32)
  | .bootsel i => (26 + i.val, 32)
  | .faultN => (28, 32)
  | .pwrReq => (29, 32)
  | .pgMain => (27, 34)
  | .pgBak => (28, 34)
  | .xin => (27, 33)
  | .xout => (28, 33)

/-- The pad rings (R479). -/
inductive PadRing where
  | aon
  | io33
  | io18
  deriving DecidableEq, Repr

/-- The ring of a signal; the lanes, the T1S pairs, the PCIe sideband and the reference stand in none that R479 names. -/
def Signal.ring : Signal → Option PadRing
  | .porst | .pgMain | .pgBak | .pwrReq | .faultN | .wake _ | .canRx _ => some .aon
  | .canTx _ | .linTx _ | .linRx _ => some .io33
  | .xspiCs | .xspiCk | .xspiDqs | .xspiDq _ | .xspiRst | .mdc _ | .mdio _ | .tck | .tms | .tdi | .tdo | .trst | .wrst | .bootsel _
  | .pst _ | .cap _ => some .io18
  | _ => none

/-- What a pad does (R480): it takes an input or ignores it; floats, with or without its pull; is driven to a level or as its protocol says;
stands at electrical idle; or is unpowered. An open drain floats or is driven low. -/
inductive Pad where
  | input
  | ignored
  | highZ
  | pulledUp
  | pulledDown
  | driven (high : Bool)
  | active
  | idle
  | off
  deriving DecidableEq, Repr

/-- Clocks and resets stand at the REST column: PD3 to PD15 are off for REST (R480). -/
def State.padsRest (s : State) : Bool := s.mode.rest == .off || s.mode.rest == .asleep || s.mode.rest == .waking

/-- From the 130 µs step of R96 on, outside REST: the pads of xSPI are driven. -/
def State.padsBooted (s : State) : Bool := s.released && !s.padsRest

/-- A transmitter of CAN or LIN whose channel's domain is `pd`: pulled up until it is on, then recessive, and the controller's while the channel
takes part in its bus, which it does in HALT too (R480, R481, R283; DEDUCED, log 181). -/
def State.busPad (s : State) (pd : Nat) (channelOn : Bool) : Pad :=
  if !s.alive || !s.on pd then .pulledUp
  else if s.boot.step == .done && channelOn then .active
  else .driven true

/-- A differential output of a port or link in domain `pd`: electrical idle until it trains, in MAINTAIN, in REST and where shed. -/
def State.linePad (s : State) (pd : Nat) (trained : Bool) : Pad :=
  if !s.alive then .highZ else if s.up pd && trained then .active else .idle

/-- The lane of port `n` has trained: under the live settings in every service state but MAINTAIN (R166; DEDUCED, log 181). A T1S port has no
lane to train. -/
def State.laneTrained (s : State) (n : Nat) : Bool :=
  s.portRuns n && s.mode.service != .maintain && (if n < 24 then s.flag (0x060 + n) R.LANE_STAT_SYNC else s.portEnabled n)

/-- A pad that is on whenever the device is out of REST. -/
def State.awakePad (s : State) (p : Pad) : Pad := if s.padsRest then .off else p

/-- A pistol's ball: driven only while its pistol is enabled in the live heat (R481); INVERT inverts the level. -/
def State.pistolPad (s : State) (p : Nat) : Pad :=
  if s.alive && s.boot.step == .done && s.mode.power != .rest && s.mode.service != .maintain && s.pstEn p then
    .driven (s.flag pgPistol (R.PST_STAT_LEVEL p) != s.flag pgPistol (R.PST_CFG_INVERT p))
  else .pulledDown

/-- The state of every signal's pad (R480, R481). -/
def State.pad (s : State) : Signal → Pad
  | .canTx c => s.busPad (pageDomain (canPage c.val)) (s.canOn c.val)
  | .canRx _ => .input
  | .linTx n => s.busPad 14 (s.linOn n.val)
  | .linRx _ => if s.padsRest || (s.boot.step == .done && !s.on 14) then .ignored else .input
  | .sd k b => match b with
    | .txp | .txn => s.linePad (portDomain k.val) (s.laneTrained k.val)
    | _ => .input
  | .t1s i _ => s.linePad 11 (s.laneTrained (24 + i.val))
  | .pcie k _ b => match b with
    | .txp | .txn => s.linePad 4 (if k.val == 0 then s.boot.detect0 else s.boot.detect1)
    | _ => .input
  | .pst p => s.pistolPad p.val
  | .cap _ => .input
  | .wake n => if s.running (.phyWake n.val) then .driven (!s.flag pgWakeIn (R.WK_CFG_POL n.val)) else .input
  | .pgMain | .pgBak | .porst | .perst _ | .refclk _ _ | .xin | .sdRext _ => .input
  | .xout => .active
  | .xspiCs => if !s.alive then .pulledUp else s.awakePad (if s.padsBooted then .active else .pulledUp)
  | .xspiCk => if !s.alive then .highZ else s.awakePad (if s.padsBooted then .active else .highZ)
  | .xspiDq _ | .xspiDqs => if !s.alive then .pulledDown else s.awakePad (if s.padsBooted then .active else .pulledDown)
  | .xspiRst => if !s.alive then .driven false else s.awakePad (.driven s.padsBooted)
  | .mdc m => if !s.alive then .highZ else s.awakePad (if (mget s.eth.mdio m.val).isSome then .active else .driven false)
  | .mdio m => if !s.alive then .pulledUp else s.awakePad (if (mget s.eth.mdio m.val).isSome then .active else .pulledUp)
  | .tdo => if !s.alive then .highZ else s.awakePad (if s.jtag == .opn then .active else .highZ)
  | .tck | .tms | .tdi | .trst => s.awakePad .input
  | .wrst | .bootsel _ => s.awakePad .input
  | .faultN => if s.fault.pin then .driven false else .highZ
  | .pwrReq => .driven (!s.alive || s.flag 1 R.PWR_STAT_PWR_REQ)

end Sys2Proof.Machine
end

