-- ==== Sys2Proof/WellFormed.lean ====
section
/-! DEFINITION. Which commands the surroundings of the device can present: the bounds that the spec sets on the operands of a command. A
meaning is total and does not rest on them; the tests show that each check refuses an ill-formed term. -/

namespace Sys2Proof

/-- The payload lengths with a CAN FD length code (the format table of chapter 08). -/
def codedLength (n : Nat) : Bool := Nat.ble n 8 || [12, 16, 20, 24, 32, 48, 64].contains n

/-- A frame as a CAN bus can carry it (R250, the format table of chapter 08): at most 8 bytes of Classical CAN, a coded length of CAN FD, 1 to
2,048 bytes of CAN XL; a remote frame and the fields of other formats only where the format has them; 11 bits of a base identifier. -/
def CanWire.wf (f : CanWire) : Bool :=
  let n := f.data.length
  let len : Bool := match f.fmt.val with
    | 0 => Nat.ble n 8
    | 1 => codedLength n
    | _ => Nat.ble 1 n && Nat.ble n 2048
  len && (f.ide || Nat.blt f.id.toNat 2048) && (f.fmt != 2 || !f.ide) && (f.fmt == 0 || !f.rtr) && (f.fmt == 1 || !(f.brs || f.esi))
    && (f.fmt == 2 || (!f.sec && f.sdt == 0 && f.vcid == 0 && f.af == 0)) && (!f.rtr || f.data.isEmpty)

/-- A PAUSE frame carries one time, a PFC frame eight (R153). -/
def PauseFrame.wf (f : PauseFrame) : Bool := f.times.length == (if f.pfc then 8 else 1)

/-- An mPacket: a verify mPacket carries no data of a frame, a fragment of a frame some (R147, R151). -/
def Fragment.wf (f : Fragment) : Bool := f.verify || !f.bytes.isEmpty

/-- The unit that holds a failing memory is one of the classes 1 to 7 (R436). -/
def MemFailure.wf (f : MemFailure) : Bool := f.holder.all fun u => 1 ≤ u.toNat / 256 && u.toNat / 256 ≤ 7

/-- A run of a test slice applies at most its target (R430). -/
def SliceRun.wf (r : SliceRun) : Bool := Nat.ble r.patterns.toNat r.target.toNat

/-- A repeat is made only of a slice that failed (R431). -/
def UnitRun.wf (u : UnitRun) : Bool :=
  u.runs.all fun e => SliceRun.wf e.1 && match e.2 with
    | some r => SliceRun.wf r && e.1.misr != e.1.golden
    | none => true

/-- An offset of a 32-bit word. -/
def aligned (off : BitVec 12) : Bool := off.toNat % 4 == 0

/-- The list names nothing twice. -/
def once {α : Type} [DecidableEq α] (l : List α) : Bool :=
  match l with
  | [] => true
  | x :: t => !t.contains x && once t

/-- A command that the device's surroundings can present. -/
def Instr.wf (c : Instr) : Bool :=
  match c with
  | .trimReq _ _ => true
  | .restReq _ _ => true
  | .serviceReqHalt _ _ => true
  | .serviceReqMaintain _ _ => true
  | .serviceReqLeaveMaintain _ _ => true
  | .quarClear _ _ => true
  | .droopDetect => true
  | .droopCrit => true
  | .thermalSample samples => samples.length == 8
  | .trimHoldExpiry => true
  | .pgMainLoss => true
  | .pgHoldExpiry => true
  | .domainGroupStart => true
  | .domainRestore _ => true
  | .supplyLossRest => true
  | .tamperEvent => true
  | .runtimeRemeasure _ => true
  | .diagExitHoldExpiry => true
  | .standbySwitchover => true
  | .standbyReturn => true
  | .vaonCollapse => true
  | .internalPorRelease _ _ _ => true
  | .porstAssert => true
  | .porstRelease _ => true
  | .wrstAssert => true
  | .wrstRelease => true
  | .rstCtrlWarm _ => true
  | .rstCtrlDomRst _ _ => true
  | .watchdogExpiry => true
  | .pwrLeanCfgWrite _ _ => true
  | .pllLockLoss plls => !plls.isEmpty && once plls
  | .pllSubstituteDone => true
  | .refclkLost => true
  | .refclkReturn => true
  | .bootFuseSense => true
  | .bootPllLock => true
  | .bootHostifOn => true
  | .bootRomMbist failures => failures.all MemFailure.wf
  | .bootImageRead _ => true
  | .bootImageCheck => true
  | .p0BootGo _ _ => true
  | .p0BootTimeout => true
  | .bootNvmRecovery badDigest => once badDigest
  | .bootDomainSwitchOn _ _ => true
  | .bootDomainMbist failures => failures.all MemFailure.wf
  | .bootMeasurement _ => true
  | .bootHalt => true
  | .pcieDetect => true
  | .registerWrite _ _ _ _ _ => true
  | .errCountRead _ _ => true
  | .counterReadClear _ _ _ => true
  | .counter64LoRead _ _ off => aligned off
  | .pageSoftReset _ _ _ => true
  | .pageFreeze _ _ _ => true
  | .lockWrite _ _ _ => true
  | .lockFinal _ _ _ => true
  | .stagedRegisterWrite _ _ off _ => aligned off
  | .tblReadLive _ _ => true
  | .tblReadStaged _ _ => true
  | .tblWriteStaged _ _ => true
  | .tblDeleteStaged _ _ => true
  | .tblWriteDirect _ _ => true
  | .tblReadRaw _ _ => true
  | .tblOwnerTimeout _ => true
  | .heatCommit _ => true
  | .heatAbort _ => true
  | .heatDiscard _ => true
  | .heatLoad => true
  | .refereeVerdict => true
  | .heatSwap => true
  | .heatSettle => true
  | .heatLateRelease => true
  | .linkChange _ _ lane => Nat.ble lane.speed.val 5 || lane.speed.val == 7
  | .ethFrameReceive _ bytes _ _ => !bytes.isEmpty
  | .mmFragmentReceive _ frag => Fragment.wf frag
  | .mmVerifyTimer _ => true
  | .mmVerifyResponse _ => true
  | .pauseReceive _ frame => PauseFrame.wf frame
  | .pauseTimerExpiry _ _ => true
  | .pauseSend _ _ => true
  | .pauseRepeat _ _ => true
  | .plcaCycleStart _ => true
  | .plcaBeaconReceive _ => true
  | .plcaBeaconLoss _ => true
  | .macsecTxanWrite _ _ _ => true
  | .mdioCmdWrite _ _ _ => true
  | .mdioCommandDone _ _ => true
  | .mdioPoll _ values => values.length == 8
  | .frameClassify => true
  | .frameLookup _ _ _ _ => true
  | .learnServe => true
  | .ageTick => true
  | .learnFlush _ _ _ => true
  | .fwdSeedWrite _ _ _ => true
  | .shadowComparePass _ => true
  | .sliceSubstitution => true
  | .sliceCopyDone => true
  | .sliceFailure _ => true
  | .streamGateEntry _ => true
  | .sfUnblock _ _ => true
  | .sgReopen _ _ => true
  | .mtrClear _ _ => true
  | .flowPacerRelease _ => true
  | .laneSelect _ _ => true
  | .frameTransmitEnd _ => true
  | .hurdleEntryStart _ => true
  | .hurdleHoldIssue _ => true
  | .canFrameReceive _ frame _ => CanWire.wf frame
  | .canTxStart _ _ => true
  | .canTxSuccess _ => true
  | .canArbLost _ => true
  | .canBusError _ _ => true
  | .busOffEnd _ seen => Nat.ble 1 seen
  | .canIntegrated _ => true
  | .canTimingSwitch _ => true
  | .txbReq _ _ _ => true
  | .txbCancel _ _ _ => true
  | .txqPush _ _ _ => true
  | .txqCancel _ _ _ => true
  | .txevRead _ _ => true
  | .canLifetimeExpiry _ => true
  | .mailboxOpen _ _ _ => true
  | .canHandoverRequest _ _ => true
  | .canHandoverMove _ => true
  | .canHandoverAbandon _ => true
  | .canCoreFailure _ => true
  | .linSlotStart _ => true
  | .linHeaderReceive _ _ _ => true
  | .linResponseEnd _ bytes _ _ => Nat.ble bytes.length 9
  | .linResponseTimeout _ _ => true
  | .linDataCommit _ _ _ _ => true
  | .linDataRead _ _ _ => true
  | .linWakeCmd _ _ => true
  | .linBusWake _ us => Nat.ble 1 us
  | .linIdleSleep _ => true
  | .linCommanderResume _ => true
  | .linHandover _ => true
  | .relayPduEnqueue => true
  | .relayPdu _ _ => true
  | .authCeilingCommitted => true
  | .monitorExpiry _ => true
  | .acfFlush _ => true
  | .acfDeencap => true
  | .timeFanoutUpdate cycles off => Nat.ble 1 cycles && once off
  | .timeSet _ _ => true
  | .timeAdj _ _ => true
  | .domRateWrite _ _ _ => true
  | .hostOfsWrite _ _ _ => true
  | .servoHoldover _ => true
  | .dualCounterCheck diffs _ => once (diffs.map (·.1))
  | .timeFracRead _ _ => true
  | .pdelayReqSend _ => true
  | .pdelayRespReceive _ msg => msg.kind == .pdelayResp || msg.kind == .pdelayRespFollowUp
  | .pdelayTimeout _ => true
  | .pdelayReqReceive _ msg => msg.kind == .pdelayReq
  | .syncReceive _ msg => msg.kind == .sync
  | .followUpReceive _ msg => msg.kind == .followUp
  | .syncSend _ _ => true
  | .announceReceive _ msg _ => msg.kind == .announce
  | .pistolEdge _ => true
  | .pistolPulseEnd _ => true
  | .captureEdge _ _ => true
  | .capTsPop _ _ => true
  | .ctsSyncPeriod _ => true
  | .ctsSyncReceive _ frame _ => CanWire.wf frame
  | .ctsFupReceive _ frame => CanWire.wf frame
  | .ttWindowOpen _ _ => true
  | .ttWindowClose _ => true
  | .contractStateUpdate => true
  | .brgFenceRead _ _ => true
  | .perrPop _ _ _ => true
  | .brgLinkChange _ _ _ => true
  | .ringEnable _ _ _ _ => true
  | .ringDisable _ _ _ _ => true
  | .ringTailWrite _ _ _ _ => true
  | .descFetch _ _ descs => !descs.isEmpty
  | .rxCopyWrite _ _ => true
  | .ringWaitExpiry _ _ => true
  | .txFrameEnter data => !data.isEmpty
  | .txWriteback _ _ => true
  | .tsLostTimeout _ _ => true
  | .ringIrqModTime _ _ => true
  | .outboundReadError _ _ => true
  | .functionLevelReset _ => true
  | .pcieHotReset _ => true
  | .logRecordWrite => true
  | .logSwitchTimer => true
  | .logCmdRewind _ => true
  | .logCmdMark _ => true
  | .logCmdRelease _ => true
  | .logCmdSwitch _ => true
  | .logPortRead n => Nat.ble 1 n
  | .keyLoad _ => true
  | .saltLoad _ => true
  | .attrCommit _ => true
  | .keyDerive _ _ => true
  | .keyGenerate _ _ => true
  | .keyInvalidate _ _ => true
  | .orphanWipe _ => true
  | .nvmWriteDone => true
  | .nvmVerifyFail => true
  | .attGo _ _ => true
  | .attDone => true
  | .drbgFail => true
  | .drbgRestart _ => true
  | .drbgOutRead _ => true
  | .lcReq _ _ => true
  | .lcRollbackAdvance _ _ => true
  | .lapStart => true
  | .stStartLap _ => true
  | .stStopLap _ => true
  | .stTestUnit _ _ => true
  | .stFullBist _ => true
  | .fullBistDone results => results.all UnitRun.wf
  | .stHardRepair _ => true
  | .hardRepairDone failures results => failures.all MemFailure.wf && results.all UnitRun.wf
  | .testSliceEnd run => SliceRun.wf run
  | .macsecHandover _ => true
  | .macsecEngineRelease => true
  | .unitFailDuringTest _ => true
  | .macsecEngineFailure _ => true
  | .mbLogPop _ => true
  | .wkCfgWrite _ _ _ => true
  | .wakeRawChange _ _ => true
  | .wakeDebounceExpiry _ => true
  | .wakeHoldoffEnd _ => true
  | .wakeStuck _ => true
  | .pnWup _ => true
  | .pnWuf _ ide id _ data => Nat.ble data.length 8 && (ide || Nat.blt id.toNat 2048)
  | .pnFrameError _ _ => true
  | .t1sWakeSignal _ => true
  | .restJournalDone => true
  | .restDomainsOff => true
  | .restPwrReqLow => true
  | .wakeEvent _ => true
  | .restExitPgSample _ _ => true
  | .pgWaitExpiry => true
  | .phyWakeOutEnd _ => true
  | .faultNRelease => true
  | .faultForce _ _ => true
  | .coachLockstep => true
  | .fabricErr _ => true
  | .speedMismatch _ speed => Nat.ble speed.val 5
  | .tamperEnd => true
  | .droopEnd _ => true
  | .tsGapExpiry => true
  | .csmaCollision _ => true
  | .inTestStallEnd _ => true

end Sys2Proof
end

