-- ==== Sys2Proof/Safety.lean ====
section
/-! DEFINITION. The terms in which statements are made: what it means that a command completes, when nothing else is waiting to happen, when a
master reaches a register, and what holds after every step. -/

namespace Sys2Proof.Machine

/-- Command `c` completes from `s`, in a state of which `q` holds. -/
def Completes (c : Instr) (s : State) (q : State → Prop) : Prop := ∃ t, exec c s = .next t ∧ q t

/-- No self-test runs or waits and no unit is scratched: a command does what it says and nothing that another command left to do. -/
def State.quiet (s : State) : Bool :=
  s.test.waiting.isNone && !s.test.lapDue && s.test.run.isNone && s.test.op == 0 && s.test.todo.isEmpty && s.test.scratch.isEmpty

/-- No earlier write of the bridge of master `m` is stalled, no request waits in its link's queue, and its partner has credit for a further one
(R111, R375); the Coach has no bridge. -/
def State.bridgeFree (s : State) (m : Master) : Bool :=
  match Master.fn m with
  | some fn => !s.writeAhead fn && (s.bridgeOf fn).link.isEmpty && (s.credits fn).nph != 0
  | none => true

/-- An access by master `m` to `off` of page `p` gets to the page: the window answers, the address is a mapped word, LOCK shows the page to the
master, and nothing stalls it (R98, R103, R109, R111). -/
def State.arrives (s : State) (m : Master) (p off : Nat) : Bool :=
  s.windowOpen m && s.rejection m p off == 0 && s.bridgeFree m && !s.inTest p

/-- A read by master `m` is answered by the page: it is powered and restored, and a unit serves it (R81, R110, R112). -/
def State.readable (s : State) (m : Master) (p off : Nat) : Bool := s.arrives m p off && s.pageUp p && !s.pageUnserved p

/-- A write by master `m` to a header register of page `p` is taken (R108). -/
def State.headWritable (s : State) (m : Master) (p off : Nat) : Bool := s.arrives m p off && s.mayWrite m p

/-- A write by master `m` to `off` of page `p` is taken: LOCK allows it, and no other master has latched the window that the register belongs
to (R108, R110, R112, R116). -/
def State.writable (s : State) (m : Master) (p off : Nat) : Bool :=
  s.readable m p off && s.mayWrite m p && s.portRefusal m p (portPart p off) == 0

/-- The state in which a write by master `m` reaches page `p`: its bridge has given it a baton, and the 1 ms of a latch that the master holds
run again (R116, R371). -/
def State.asWritten (s : State) (m : Master) (p : Nat) : State :=
  (match Master.fn m with
    | some fn => (s.nextBaton fn).1
    | none => s).touch m p

/-- No self-test waits to start and no unit is scratched; one may run. -/
def State.calm (s : State) : Bool := s.test.waiting.isNone && !s.test.lapDue && s.test.scratch.isEmpty

/-- The field `f` of page `p` counts one from `s` to `t`, wrapping at its width. -/
def Counted (s t : State) (p : Nat) (f : Fld) : Prop := t.fld p f = (s.fld p f + 1) % 2 ^ (f.hi + 1 - f.lo)

/-- The device with the oldest entry of a queue taken out: of CLASSIFY, of the slices, of the learning engine, of the PDUs on their way to
RELAY, of the frames for RELAY. -/
def State.classRest (s : State) : State := { s with fwd := { s.fwd with classQ := s.fwd.classQ.tail } }
def State.lookRest (s : State) : State := { s with fwd := { s.fwd with lookQ := s.fwd.lookQ.tail } }
def State.learnRest (s : State) : State := { s with fwd := { s.fwd with learnQ := s.fwd.learnQ.tail } }
def State.comingRest (s : State) : State := { s with relay := { s.relay with coming := s.relay.coming.tail } }
def State.acfRest (s : State) : State := { s with fwd := { s.fwd with acfIn := s.fwd.acfIn.tail } }

/-- A PDU from a host as the relay engine takes it: with the time and the epoch of that moment (R286). -/
def State.takenPdu (s : State) (p : Pdu) : Pdu := { p with stamp := s.bareStamp .relay, epoch := s.heat.liveE }

/-- What the express class of port `n` chooses once pauses, too long frames and shapers are brought to the present (R233). -/
def State.chosen (s : State) (n : Nat) : State × Option Nat :=
  ((((s.settleLine n).settlePause n).dropTooLong n 64).advancePort n).winnerLane n false

/-- What every step leaves true: FAULT_N is asserted while a condition of R466 holds. -/
def State.faultShown (s : State) : Prop := s.faultHeld = true → s.fault.pin = true

end Sys2Proof.Machine
end

