-- ==== Sys2Proof/Certificates/Slice0/Obligations.lean ====
section
/-! DEFINITION. The statements for the provers. Each says which part of the specification it formalises; those about a command say that it
completes and with what effect, under hypotheses on the state and the operands alone. -/

open Sys2Proof Sys2Proof.Machine

/-- A write of DEV_MODE_REQ by M0 or M1 that reaches the page: TRIM_REQ takes the value written; REST_REQ begins a REST entry where a wake source is
  enabled and the service state is not DIAGNOSE; SERVICE_REQ HALT leads from RUN or DIAGNOSE to HALT, MAINTAIN from RUN or HALT to MAINTAIN with no
  live and no armed heat, no active CAN transmitter and no driven pistol, LEAVE_MAINTAIN from MAINTAIN with no repair in progress to HALT;
  QUAR_CLEAR by M1 leads from QUARANTINE, with matching measurements and no tamper source, to SEALED without a QUARANTINE record. Model's choices:
  The effects at once rest on the choice of log entry 5, the pads in HALT and MAINTAIN on log entry 181. (chapter 02 (DEV_MODE_REQ, service and
  trust axes); R50; R54; R58; R458; R283; R481.) -/
def Obligations.ModeRequestsTaken : Prop :=
  (∀ (s : State) (m : Master) (on : Bool), s.quiet = true → (m = .m0 ∨ m = .m1) → s.writable m 0x000 0x044 = true → Completes (.trimReq m on) s fun
    t => t.flag 0 R.DEV_MODE_REQ_TRIM_REQ = on) ∧
  (∀ (s : State) (m : Master) (trim : Bool), s.quiet = true → (m = .m0 ∨ m = .m1) → s.writable m 0x000 0x044 = true → s.mode.rest = .awake →
    s.mode.service ≠ .diagnose → s.canWake = true → Completes (.restReq m trim) s fun t => t.mode.rest = .requested) ∧
  (∀ (s : State) (m : Master) (trim : Bool), s.quiet = true → (m = .m0 ∨ m = .m1) → s.writable m 0x000 0x044 = true → (s.mode.service = .run ∨
    s.mode.service = .diagnose) → Completes (.serviceReqHalt m trim) s fun t => t.mode.service = .halt) ∧
  (∀ (s : State) (m : Master) (trim : Bool), s.quiet = true → (m = .m0 ∨ m = .m1) → s.writable m 0x000 0x044 = true → (s.mode.service = .run ∨
    s.mode.service = .halt) → Completes (.serviceReqMaintain m trim) s fun t => (∀ c, t.pad (.canTx c) ≠ .active) ∧ (∀ p, t.pad (.pst p) =
    .pulledDown) ∧ t.mode.service = .maintain ∧ t.heat.live = 0 ∧ t.heat.armed = []) ∧
  (∀ (s : State) (m : Master) (trim : Bool), s.quiet = true → (m = .m0 ∨ m = .m1) → s.writable m 0x000 0x044 = true → s.mode.service = .maintain →
    Completes (.serviceReqLeaveMaintain m trim) s fun t => t.mode.service = .halt ∧ t.mode.maintPending = false) ∧
  (∀ (s : State) (trim : Bool), s.quiet = true → s.writable .m1 0x000 0x044 = true → s.mode.trust = .quarantine → s.mode.measuresMatch = true →
    s.mode.tamper = false → Completes (.quarClear .m1 trim) s fun t => t.mode.trust = .sealed ∧ t.mode.quarRecord = none)

/-- From a quiet state: TRIM_HOLD over with no TRIM cause leads from TRIM to FULL; the loss of PG_MAIN leads from FULL or TRIM to LEAN; PG_MAIN back for
  PG_HOLD leads from LEAN to FULL, or TRIM where a cause is present; the loss of both supplies leads to REST; a due group of domains is switched on;
  a domain restored waits no more for its restore. Model's choices: That the effect comes with the command rests on log entry 5; a supply that fails
  during a boot is that of log entry 136. (R42; R43; R45; R47; R82.) -/
def Obligations.PowerAxisMoves : Prop :=
  (∀ (s : State), s.quiet = true → s.due .trimHold = true → s.mode.power = .trim → s.trimCause = false → Completes .trimHoldExpiry s fun t =>
    t.mode.power = .full) ∧
  (∀ (s : State), s.quiet = true → s.settled = true → (s.mode.power = .full ∨ s.mode.power = .trim) → Completes .pgMainLoss s fun t => t.mode.power
    = .lean ∧ t.flag 1 R.PWR_STAT_PG_MAIN = false) ∧
  (∀ (s : State), s.quiet = true → s.settled = true → s.mode.power = .lean → (s.running .pgHold = true → s.due .pgHold = true) → Completes
    .pgHoldExpiry s fun t => t.mode.power = (if s.trimCause = true then .trim else .full) ∧ t.mode.maintPending = false) ∧
  (∀ (s : State), s.quiet = true → s.settled = true → s.mode.power ≠ .rest → Completes .supplyLossRest s fun t => t.mode.power = .rest ∧
    t.mode.service ≠ .run ∧ t.heat.live = 0) ∧
  (∀ (s : State) (g : List Nat) (l : List (List Nat)), s.quiet = true → s.due .group = true → s.power.groups = g :: l → Completes .domainGroupStart
    s fun t => t.power.groups = l ∧ ∀ d ∈ g, d < 16 → t.on d = true) ∧
  (∀ (s : State) (d : Fin 16), s.quiet = true → s.power.restoring.contains d.val = true → s.fault.lockstep = false → Completes (.domainRestore d) s
    fun t => t.power.restoring.contains d.val = false)

/-- While the main rails are on: a droop sets TRIM_DROOP; its end clears it and the DROOP_CRIT condition; a reading below 0.680 V for 1 µs is a FAULT_N
  condition; TRIM_THERMAL is set when the hottest of the 8 sensors is at THERM_TRIM or above, and clears when it is below THERM_TRIM - THERM_HYST.
  Droop, temperatures and the end of TRIM_HOLD (the pages DEV and THERM) leave unchanged: the boot, the power, the heats, the tables, the wake
  logic, self-test, the time subsystem, the Ethernet ports, the pipeline, the keys, the rings, the CAN channels, the LIN channels, the relay engine,
  and the registers of every page but those named. (R83; R84; R85.) -/
def Obligations.SensorsSetTrim : Prop :=
  (∀ (s : State), s.quiet = true → s.mainOn = true → Completes .droopDetect s fun t => t.mode.trimDroop = true ∧ t.flag 2 R.THERM_STAT_DROOP_NOW =
    true) ∧
  (∀ (s : State), s.quiet = true → Completes (.droopEnd true) s fun t => t.mode.trimDroop = false ∧ t.fault.droopCrit = false) ∧
  (∀ (s : State), s.quiet = true → s.mainOn = true → Completes .droopCrit s fun t => t.fault.droopCrit = true ∧ (s.fault.droopCrit = false →
    t.fault.pin = true)) ∧
  (∀ (s : State) (l : List Int), s.quiet = true → s.mainOn = true → l.length = 8 → (∃ x ∈ l, (within (s.fld 2 R.PWR_SENSE_CFG_THERM_TRIM) 85 125 :
    Int) ≤ x) → Completes (.thermalSample l) s fun t => t.mode.trimThermal = true) ∧
  (∀ (s : State) (l : List Int), s.quiet = true → s.mainOn = true → l.length = 8 → (∀ x ∈ l, x < (within (s.fld 2 R.PWR_SENSE_CFG_THERM_TRIM) 85 125
    : Int) - atLeast1 (s.fld 2 R.PWR_SENSE_CFG_THERM_HYST)) → Completes (.thermalSample l) s fun t => t.mode.trimThermal = false) ∧
  (∀ (l : List Int) (s t : State), ∀ cmd ∈ ([.droopDetect, .droopCrit, .thermalSample l, .trimHoldExpiry] : List Instr), s.quiet = true → exec cmd s
    = .next t → t.boot = s.boot ∧ t.power = s.power ∧ t.heat = s.heat ∧ t.slots = s.slots ∧ t.wake = s.wake ∧ t.test = s.test ∧ t.time = s.time ∧
    t.eth = s.eth ∧ t.fwd = s.fwd ∧ t.key = s.key ∧ t.rings = s.rings ∧ t.can = s.can ∧ t.lin = s.lin ∧ t.relay = s.relay ∧ ∀ q o, ¬ (q = 0 ∨ q = 2)
    → t.rd q o = s.rd q o)

/-- From a quiet state: a tamper source in SEALED, and a runtime re-measurement that does not match in SEALED, lead to QUARANTINE; a tamper source that
  ends clears DEV_MODE.TAMPER; a re-measurement that matches stays in its trust state; the activation line inactive for DIAG_EXIT_HOLD leads from
  DIAGNOSE to RUN. Model's choices: DIAG_EXIT_HOLD is that of log entry 107. (R34; R50; R57.) -/
def Obligations.TrustAxisMoves : Prop :=
  (∀ (s : State), s.quiet = true → s.alive = true → s.mode.trust = .sealed → s.mode.power ≠ .rest → Completes .tamperEvent s fun t => t.mode.trust =
    .quarantine ∧ t.mode.tamper = true ∧ t.mode.quarCause = 3) ∧
  (∀ (s : State), s.quiet = true → Completes .tamperEnd s fun t => t.mode = { s.mode with tamper := false }) ∧
  (∀ (s : State) (h : BitVec 384), s.quiet = true → s.clocked 1 = true → s.boot.step = .done → s.mode.power ≠ .rest → s.fault.lockstep = false →
    s.mode.trust = .sealed → h ≠ s.key.bodyHash → Completes (.runtimeRemeasure h) s fun t => t.mode.trust = .quarantine ∧ t.mode.quarCause = 2 ∧
    t.key.runHash = h) ∧
  (∀ (s : State) (h : BitVec 384), s.quiet = true → s.clocked 1 = true → s.boot.step = .done → s.mode.power ≠ .rest → s.fault.lockstep = false → h =
    s.key.bodyHash → Completes (.runtimeRemeasure h) s fun t => t.mode.trust = s.mode.trust ∧ t.key.runHash = h) ∧
  (∀ (s : State), s.quiet = true → s.due .diagExit = true → s.mode.service = .diagnose → Completes .diagExitHoldExpiry s fun t => t.mode.service =
    .run)

/-- The standby switch goes to VSB_BAK when VSB_MAIN falls and back when it has returned; a single PLL that loses lock is replaced by a free PLL5 and
  its islands are held until then; the loss of the reference makes every domain invalid and is a FAULT_N condition; its return is a warm reset. The
  two commands of the standby switch (the page PWR) leave unchanged: the modes, the boot, the power, the heats, the tables, the wake logic,
  self-test, the time subsystem, the Ethernet ports, the pipeline, the keys, the rings, the CAN channels, the LIN channels, the relay engine, and
  the registers of every page but those named. Model's choices: The standby and clock effects come with the command (log entry 5). (R69; R70; R89;
  R91.) -/
def Obligations.SuppliesAndClocks : Prop :=
  (∀ (s : State), s.quiet = true → s.alive = true → s.flag 1 R.PWR_STAT_VSB_BAK_OK = true → s.flag 1 R.PWR_STAT_VSB_SRC = false → Completes
    .standbySwitchover s fun t => t.flag 1 R.PWR_STAT_VSB_SRC = true ∧ t.flag 1 R.PWR_STAT_VSB_MAIN_OK = false) ∧
  (∀ (s : State), s.quiet = true → s.alive = true → Completes .standbyReturn s fun t => t.flag 1 R.PWR_STAT_VSB_SRC = false ∧ t.flag 1
    R.PWR_STAT_VSB_MAIN_OK = true) ∧
  (∀ (s : State) (n : Fin 5), s.quiet = true → s.mainOn = true → s.locked n.val = true → s.pll5Free = true → Completes (.pllLockLoss [n]) s fun t =>
    t.power.substituting = some n.val ∧ t.power.heldPlls.contains n.val = true ∧ t.locked n.val = false) ∧
  (∀ (s : State) (n : Nat), s.quiet = true → n < 5 → s.power.substituting = some n → Completes .pllSubstituteDone s fun t => t.power.substituting =
    none ∧ t.power.heldPlls.contains n = false ∧ t.fld 4 R.PLL_STAT_SUBST = n ∧ t.scratched (0x500 + n) = true) ∧
  (∀ (s : State), s.quiet = true → s.alive = true → s.flag 4 R.PLL_STAT_REF_ON_RC = false → Completes .refclkLost s fun t => t.flag 4
    R.PLL_STAT_REF_ON_RC = true ∧ t.fault.refclkLost = true ∧ t.fault.pin = true ∧ ∀ k < 4, t.domainValid k = false) ∧
  (∀ (s : State), s.alive = true → s.flag 4 R.PLL_STAT_REF_ON_RC = true → s.mode.rest = .awake → s.boot.step = .done → Completes .refclkReturn s fun
    t => t.flag 4 R.PLL_STAT_REF_ON_RC = false ∧ t.boot.kind = .warm ∧ t.boot.step ≠ .done ∧ t.heat.live = 0) ∧
  (∀  (s t : State), ∀ cmd ∈ ([.standbySwitchover, .standbyReturn] : List Instr), s.quiet = true → exec cmd s = .next t → t.mode = s.mode ∧ t.boot =
    s.boot ∧ t.power = s.power ∧ t.heat = s.heat ∧ t.slots = s.slots ∧ t.wake = s.wake ∧ t.test = s.test ∧ t.time = s.time ∧ t.eth = s.eth ∧ t.fwd =
    s.fwd ∧ t.key = s.key ∧ t.rings = s.rings ∧ t.can = s.can ∧ t.lin = s.lin ∧ t.relay = s.relay ∧ ∀ q o, ¬ (q = 1) → t.rd q o = s.rd q o)

/-- VAON collapse and PORST_N low are power-on resets, and while PORST_N is low the CAN transmitters are pulled up, the pistols pulled down, FAULT_N low
  and PWR_REQ high; the release of either starts the boot at the fuse step with its cause shown; WRST_N low, RST_CTRL.WARM and the watchdog are warm
  resets outside a boot; WRST_N high lets the boot go on; RST_CTRL.DOM_RST makes each named domain that is on wait for its restore. Model's choices:
  The effect of an internal power-on reset on its operands is that of log entry 109, of WRST_N that of log entry 108, the pads that of log entry
  181. (R72; R92; R96; R495; R480; R481.) -/
def Obligations.ResetsTakeEffect : Prop :=
  (∀ (s : State), Completes .vaonCollapse s fun t => t.boot.internalPor = true ∧ t.time.tl = 0 ∧ t.heat = HeatState.reset ∧ t.mode.life =
    s.mode.life) ∧
  (∀ (s : State) (b : BitVec 2) (x y : Bool), s.boot.internalPor = true → s.boot.porstLow = false → (x || y) = true → Completes (.internalPorRelease
    b x y) s fun t => t.boot.step = .fuses ∧ t.boot.bootsel = b ∧ t.boot.internalPor = false ∧ t.flag 5 R.RST_CAUSE_POR_INTERNAL = true) ∧
  (∀ (s : State), Completes .porstAssert s fun t => (∀ c, t.pad (.canTx c) = .pulledUp) ∧ (∀ p, t.pad (.pst p) = .pulledDown) ∧ t.pad .faultN =
    .driven false ∧ t.pad .pwrReq = .driven true ∧ t.boot.porstLow = true ∧ t.time.tl = 0 ∧ t.heat = HeatState.reset ∧ t.mode.trust = .unmeasured) ∧
  (∀ (s : State) (b : BitVec 2), s.boot.porstLow = true → s.boot.internalPor = false → Completes (.porstRelease b) s fun t => t.boot.step = .fuses ∧
    t.boot.bootsel = b ∧ t.boot.porstLow = false ∧ t.flag 5 R.RST_CAUSE_PORST_PIN = true) ∧
  (∀ (s : State), s.alive = true → s.boot.step = .done → s.mode.rest = .awake → Completes .wrstAssert s fun t => t.boot.wrstLow = true ∧ t.boot.kind
    = .warm ∧ t.heat.live = 0 ∧ t.flag 5 R.RST_CAUSE_WRST_PIN = true ∧ ∀ d < 16, 3 ≤ d → t.on d = false) ∧
  (∀ (s : State), s.quiet = true → Completes .wrstRelease s fun t => t.boot = { s.boot with wrstLow := false }) ∧
  (∀ (s : State) (m : Master), (m = .m0 ∨ m = .m1) → s.writable m 0x005 0x040 = true → s.alive = true → s.boot.step = .done → s.mode.rest = .awake →
    Completes (.rstCtrlWarm m) s fun t => t.boot.kind = .warm ∧ t.heat.live = 0 ∧ t.flag 5 R.RST_CAUSE_WARM_REQ = true ∧ t.mode.trust = .unmeasured)
    ∧
  (∀ (s : State) (m : Master) (mask : BitVec 16), s.quiet = true → (m = .m0 ∨ m = .m1) → s.writable m 0x005 0x040 = true → Completes (.rstCtrlDomRst
    m mask) s fun t => ∀ d < 16, 5 ≤ d → mask.getLsbD d = true → s.on d = true → t.power.restoring.contains d = true) ∧
  (∀ (s : State), s.alive = true → s.boot.step = .done → s.mode.rest = .awake → Completes .watchdogExpiry s fun t => t.boot.kind = .warm ∧
    t.heat.live = 0 ∧ t.flag 5 R.RST_CAUSE_WATCHDOG = true)

/-- In LEAN a write of PWR_LEAN_CFG is refused with LEAN_CFG_BUSY: the register stays as it was, the page captures the error, and where it is the first
  its code is 0x0A21. Outside LEAN, a value whose lean set fits its BUDGET is taken, reserved bits 0, and another leaves the register as it was.
  (R79.) -/
def Obligations.LeanConfigChecked : Prop :=
  (∀ (s : State) (m : Master) (v : Word), s.quiet = true → s.writable m 0x001 0x040 = true → s.mode.power = .lean → Completes (.pwrLeanCfgWrite m v)
    s fun t => t.rd 1 0x040 = s.rd 1 0x040 ∧ t.flag 1 ⟨0x010, 31, 31⟩ = true ∧ t.fld 1 R.ERR_COUNT ≠ 0 ∧ (s.fld 1 R.ERR_COUNT = 0 → t.fld 1
    R.ERR_INFO_CODE = 0x0A21)) ∧
  (∀ (s : State) (m : Master) (v : Word), s.quiet = true → s.writable m 0x001 0x040 = true → s.mode.power ≠ .lean → leanCost v ≤ getBits v 11 0 * 10
    → Completes (.pwrLeanCfgWrite m v) s fun t => t.rd 1 0x040 = v &&& accMask (· == .rw) 1 0x040) ∧
  (∀ (s : State) (m : Master) (v : Word), s.quiet = true → s.writable m 0x001 0x040 = true → getBits v 11 0 * 10 < leanCost v → Completes
    (.pwrLeanCfgWrite m v) s fun t => t.rd 1 0x040 = s.rd 1 0x040)

/-- The boot goes from the fuses (END stays there) over the PLLs, PD3 and PD4, the ROM memory BIST, the image of the first source (P0 for BOOTSEL 2),
  its checks, recovery, domains, domain BIST and measurement to HALT or MAINTAIN; GO in the boot window ends the wait, and where the buffer holds an
  image with a good header it is the image read; without GO for 10 s the boot fails; a port whose PERSTn_N is high enters Detect, and a level of
  PERSTn_N shows, a low one ending Detect. The steps up to the image check, the memory test without a failure, and PCIE_DETECT leave unchanged: the
  heats, the tables, the wake logic, the time subsystem, the Ethernet ports, the pipeline, the rings, the CAN channels, the LIN channels, the relay
  engine, the logbook. The memory test leave unchanged: the heats, the wake logic, the time subsystem, the LIN channels, the relay engine. Model's
  choices: The outcomes of tests and checks are operands (log entry 7); which PLLs lock at which step is that of log entry 105; the image of the
  boot buffer is that of log entry 142, PERSTn_N that of log entry 183. (R94; R95; R96; R98; R100.) -/
def Obligations.BootSequenceAdvances : Prop :=
  (∀ (s : State), s.boot.step = .fuses → s.fuseRow < 4 → Completes .bootFuseSense s fun t => t.boot.step = .plls) ∧
  (∀ (s : State), s.boot.step = .fuses → s.fuseRow = 4 → Completes .bootFuseSense s fun t => t.boot.step = .held) ∧
  (∀ (s : State), s.boot.step = .plls → s.fault.refclkLost = false → Completes .bootPllLock s fun t => t.boot.step = .hostif ∧ (s.test.scratch = []
    → t.locked 0 = true ∧ t.locked 1 = true ∧ t.locked 2 = true ∧ t.locked 5 = true)) ∧
  (∀ (s : State), s.boot.step = .hostif → s.boot.wrstLow = false → Completes .bootHostifOn s fun t => t.boot.step = .romMbist ∧ t.on 3 = true ∧ t.on
    4 = true ∧ t.on 5 = false) ∧
  (∀ (s : State) (l : List MemFailure), s.boot.step = .romMbist → s.coachFails l = false → Completes (.bootRomMbist l) s fun t => t.boot.step = (if
    s.boot.bootsel = 2 then .p0Wait else .imageRead)) ∧
  (∀ (s : State) (f : ImageFacts), s.boot.step = .imageRead → f.headerOk = true → Completes (.bootImageRead (some f)) s fun t => t.boot.step =
    .imageCheck ∧ t.boot.image = some f) ∧
  (∀ (s : State) (f : ImageFacts), s.boot.step = .imageCheck → s.boot.image = some f → f.sigOk = true → s.key.rollback ≤ f.secver.toNat → f.factory
    = (s.mode.life == .blank) → Completes .bootImageCheck s fun t => t.boot.step = .recovery ∧ t.key.bodyHash = f.bodyHash) ∧
  (∀ (s : State) (v : Word), s.boot.step = .p0Wait → s.on 4 = true → s.bridgeFree .m1 = true → Completes (.p0BootGo .m1 v) s fun t => t.boot.step ≠
    .p0Wait ∧ t.running .bootGo = false ∧ ∀ f, Config.maljor s.bridge.bootBuffer = some f → f.headerOk = true → t.boot.step = .imageRead ∧
    t.boot.stage = 2 ∧ t.boot.image = some f) ∧
  (∀ (s : State), s.boot.step = .p0Wait → s.due .bootGo = true → Completes .p0BootTimeout s fun t => t.boot.step = .failed ∧ t.boot.code =
    Code.BOOT_P0_TIMEOUT) ∧
  (∀ (s : State) (l : List (Fin 512)), s.boot.step = .recovery → Completes (.bootNvmRecovery l) s fun t => t.boot.step = .domains) ∧
  (∀ (s : State) (b : Bool), s.boot.step = .domains → Completes (.bootDomainSwitchOn true b) s fun t => t.boot.step = .domainMbist ∧ t.mode.power ≠
    .lean ∧ t.mode.power ≠ .rest) ∧
  (∀ (s : State) (l : List MemFailure), s.boot.step = .domainMbist → s.power.groups = [] → Completes (.bootDomainMbist l) s fun t => t.boot.step =
    .measure ∧ t.power.restoring = []) ∧
  (∀ (s : State) (ok : Bool), s.boot.step = .measure → Completes (.bootMeasurement ok) s fun t => t.boot.step = .halt ∧ t.boot.measured = true ∧
    t.boot.matched = ok) ∧
  (∀ (s : State), s.quiet = true → s.boot.step = .halt → Completes .bootHalt s fun t => t.boot.step = .done ∧ t.mode.service = (if s.mode.service =
    .maintain then .maintain else .halt) ∧ t.fault.boot = false) ∧
  (∀ (s : State) (h : Bool), s.quiet = true → Completes (.pcieHotReset (.perst 1 h)) s fun t => t.boot.perst1 = h ∧ t.boot.detect1 = (s.boot.detect1
    && h) ∧ t.boot.perst0 = s.boot.perst0 ∧ t.boot.detect0 = s.boot.detect0) ∧
  (∀ (s : State), s.quiet = true → s.on 4 = true → Completes .pcieDetect s fun t => t.boot.detect0 = (s.boot.detect0 || s.boot.perst0) ∧
    t.boot.detect1 = (s.boot.detect1 || s.boot.perst1) ∧ t.boot.step = s.boot.step ∧ t.boot.perst0 = s.boot.perst0 ∧ t.boot.perst1 = s.boot.perst1)
    ∧
  (∀ (f : Option ImageFacts) (s t : State), ∀ cmd ∈ ([.bootFuseSense, .bootRomMbist [], .bootImageRead f, .bootImageCheck, .p0BootTimeout,
    .pcieDetect] : List Instr), s.quiet = true → exec cmd s = .next t → t.heat = s.heat ∧ t.slots = s.slots ∧ t.wake = s.wake ∧ t.time = s.time ∧
    t.eth = s.eth ∧ t.fwd = s.fwd ∧ t.rings = s.rings ∧ t.can = s.can ∧ t.lin = s.lin ∧ t.relay = s.relay ∧ t.log = s.log) ∧
  (∀ (l : List MemFailure) (s t : State), ∀ cmd ∈ ([.bootRomMbist l] : List Instr), s.quiet = true → exec cmd s = .next t → t.heat = s.heat ∧ t.wake
    = s.wake ∧ t.time = s.time ∧ t.lin = s.lin ∧ t.relay = s.relay)

/-- A debounced change of a watched input becomes its LEVEL and raises EDGE n; a hold-off ends unmasked; a watched input stuck active shows STUCK and
  STUCK_HIT; a wake output returns to its inactive level; a write of WK_CFG that enables an input makes LEVEL follow RAW; the REST entry commits
  when the journal is empty, switches PD3 to PD15 off and lets PWR_REQ fall, with the pads of JTAG off, unless an event came; an event of a watched
  input in REST raises PWR_REQ; a PG line starts the boot at the PLL lock step; no PG line within PG_WAIT returns to sleep. A filter in mode WUP or
  ANY takes a wake-up pattern; a filter in mode WUF takes a frame that matches; a frame error counts; a wake signal on a T1S segment with WAKE_EN
  acts once a REST entry is under way. What acts sets its WAKE_PEND bit. A change of a wake input, a stuck one, the end of a wake output and what
  the filters and the T1S detectors find (the pages of the wake logic, DEV and PWR) leave unchanged: the boot, the power, the heats, the tables,
  self-test, the time subsystem, the Ethernet ports, the pipeline, the keys, the rings, the CAN channels, the LIN channels, the relay engine, and
  the registers of every page but those named. Model's choices: The wake signals of T1S act as in log entry 106, the pads as in log entry 181.
  (R446; R447; R448; R449; R458; R460; R480; R452; R453; R454; R456.) -/
def Obligations.WakeSources : Prop :=
  (∀ (s : State) (n : Fin 16) (ball : Bool), s.quiet = true → s.alive = true → (ball != s.flag pgWakeIn (R.WK_CFG_POL n.val)) ≠ s.wkRaw n.val →
    s.wkWatched n.val = true → s.wkMasked n.val = false → s.fld pgWakeIn (R.WK_LIM_CHATTER_EDGES n.val) = 0 → s.fld pgWakeIn (R.WK_CFG_DEBOUNCE
    n.val) = 5 → Completes (.wakeRawChange n ball) s fun t => t.wkRaw n.val = (ball != s.flag pgWakeIn (R.WK_CFG_POL n.val)) ∧ t.wkLevel n.val =
    s.wkLevel n.val) ∧
  (∀ (s : State) (n : Fin 16), s.quiet = true → s.due (.debounce n.val) = true → s.wkWatched n.val = true → s.wkMasked n.val = false → s.wkRaw n.val
    ≠ s.wkLevel n.val → Completes (.wakeDebounceExpiry n) s fun t => t.wkLevel n.val = s.wkRaw n.val ∧ (t.rd pgWakeIn R.IRQ_RAW.off).getLsbD n.val =
    true) ∧
  (∀ (s : State) (n : Fin 16), s.quiet = true → s.due (.holdoff n.val) = true → Completes (.wakeHoldoffEnd n) s fun t => t.wkMasked n.val = false ∧
    t.wkLevel n.val = s.wkDebounced n.val) ∧
  (∀ (s : State) (n : Fin 16), s.quiet = true → s.due (.stuck n.val) = true → s.wkWatched n.val = true → Completes (.wakeStuck n) s fun t => t.flag
    pgWakeIn (R.WK_STAT_STUCK n.val) = true ∧ t.flag pgWakeIn (R.WK_STAT_STUCK_HIT n.val) = true) ∧
  (∀ (s : State) (n : Fin 16), s.quiet = true → s.due (.phyWake n.val) = true → Completes (.phyWakeOutEnd n) s fun t => Out.pin (.wake n.val)
    (s.flag pgWakeIn (R.WK_CFG_POL n.val)) ∈ t.outbox ∧ t.running (.phyWake n.val) = false) ∧
  (∀ (s : State) (m : Master) (n : Fin 16) (v : Word), s.quiet = true → s.writable m 0x1D1 (0x100 + 16 * n.val) = true → getBits v 3 2 ≠ 1 → getBits
    v 1 1 = b2n (s.flag pgWakeIn (R.WK_CFG_POL n.val)) → s.flag pgWakeIn (R.WK_CFG_EN n.val) = false → v.getLsbD 0 = true → Completes (.wkCfgWrite m
    n v) s fun t => t.rd 0x1D1 (0x100 + 16 * n.val) = v &&& 0x3FFF ∧ t.wkLevel n.val = s.wkRaw n.val) ∧
  (∀ (s : State), s.quiet = true → s.mode.rest = .requested → s.key.writes = [] → Completes .restJournalDone s fun t => t.mode.rest = .committed ∧
    t.mode.power = .rest ∧ t.heat.live = 0) ∧
  (∀ (s : State), s.mode.rest = .committed → s.due .restOff = true → s.quiet = true → Completes .restDomainsOff s fun t => t.mode.rest = .off ∧ (∀ d
    < 16, t.on d = true ↔ d < 3) ∧ t.fld 4 R.PLL_STAT_LOCKED = 0) ∧
  (∀ (s : State), s.quiet = true → s.alive = true → s.mode.rest = .off → s.due .restPwr = true → s.mode.wakeSeen = false → Completes .restPwrReqLow
    s fun t => t.pad .pwrReq = .driven false ∧ t.pad .tdo = .off ∧ t.mode.rest = .asleep ∧ t.flag 1 R.PWR_STAT_PWR_REQ = false) ∧
  (∀ (s : State) (n : Fin 16), s.quiet = true → s.alive = true → s.mode.rest = .asleep → s.mode.wakeSeen = false → s.wkWatched n.val = true →
    Completes (.wakeEvent (.input n)) s fun t => t.mode.rest = .waking ∧ t.flag 1 R.PWR_STAT_PWR_REQ = true ∧ t.fld pgWake R.WAKE_CAUSE_INDEX =
    n.val) ∧
  (∀ (s : State) (x y : Bool), s.mode.rest = .waking → (x || y) = true → Completes (.restExitPgSample x y) s fun t => t.boot.step = .plls ∧
    t.boot.kind = .restExit ∧ t.mode.rest = .awake) ∧
  (∀ (s : State), s.quiet = true → s.mode.rest = .waking → s.due .pgWait = true → Completes .pgWaitExpiry s fun t => t.mode.rest = .asleep ∧ t.flag
    1 R.PWR_STAT_PWR_REQ = false) ∧
  (∀ (s : State) (c : Fin 48), s.quiet = true → s.alive = true → (s.pnMode c.val = 1 ∨ s.pnMode c.val = 3) → Completes (.pnWup c) s fun t => t.flag
    pgPnf (R.PN_STAT_MATCHED c.val) = true ∧ bit (t.fld pgWake R.WAKE_PEND) 16 = true) ∧
  (∀ (s : State) (c : Fin 48) (ide : Bool) (id : BitVec 29) (n : BitVec 4) (l : List Byte), s.quiet = true → s.alive = true → s.pnMode c.val = 2 →
    s.pnMatches c.val ide id.toNat n.toNat l = true → Completes (.pnWuf c ide id n l) s fun t => t.flag pgPnf (R.PN_STAT_MATCHED c.val) = true ∧ bit
    (t.fld pgWake R.WAKE_PEND) 16 = true) ∧
  (∀ (s : State) (c : Fin 48), s.quiet = true → s.alive = true → 2 ≤ s.pnMode c.val → s.fld pgPnf (R.PN_STAT_FEC c.val) < 31 → Completes
    (.pnFrameError c false) s fun t => t.fld pgPnf (R.PN_STAT_FEC c.val) = s.fld pgPnf (R.PN_STAT_FEC c.val) + 1) ∧
  (∀ (s : State) (i : Fin 4), s.quiet = true → s.alive = true → s.mode.rest ≠ .awake → s.flag pgT1sWake (R.T1S_WAKE_CFG_WAKE_EN i.val) = true →
    Completes (.t1sWakeSignal i) s fun t => bit (t.fld pgWake R.WAKE_PEND) 17 = true) ∧
  (∀ (n : Fin 16) (ball : Bool) (c : Fin 48) (ide fd : Bool) (id : BitVec 29) (dlc : BitVec 4) (l : List Byte) (i : Fin 4) (s t : State), ∀ cmd ∈
    ([.wakeRawChange n ball, .wakeStuck n, .phyWakeOutEnd n, .pnWup c, .pnWuf c ide id dlc l, .pnFrameError c fd, .t1sWakeSignal i] : List Instr),
    s.quiet = true → exec cmd s = .next t → t.boot = s.boot ∧ t.power = s.power ∧ t.heat = s.heat ∧ t.slots = s.slots ∧ t.test = s.test ∧ t.time =
    s.time ∧ t.eth = s.eth ∧ t.fwd = s.fwd ∧ t.key = s.key ∧ t.rings = s.rings ∧ t.can = s.can ∧ t.lin = s.lin ∧ t.relay = s.relay ∧ ∀ q o, ¬ (q = 0
    ∨ q = 1 ∨ q = pgWake ∨ q = pgWakeIn ∨ q = pgPnf) → t.rd q o = s.rd q o)

/-- FAULT_N is released once no condition holds and 1 ms has passed; FAULT_CTRL.FORCE asserts it while PD3 is on; a Coach lockstep mismatch holds the
  Coach and asserts it. A parity error on a fabric link ends a read without data, fails a posted write of a function, and stops a running ring with
  DMA_READ_ERR (R380). The release, FORCE and a lockstep mismatch leave unchanged: the modes, the boot, the power, the heats, the tables, the wake
  logic, self-test, the time subsystem, the Ethernet ports, the pipeline, the keys, the rings, the CAN channels, the LIN channels, the relay engine.
  Model's choices: The page of the lockstep capture is log entry 111, that of a fabric error log entry 85. (R466; R467; R471; R473; R380.) -/
def Obligations.FaultPinCommands : Prop :=
  (∀ (s : State), s.quiet = true → s.fault.pin = true → s.faultHeld = false → s.running .faultMin = false → Completes .faultNRelease s fun t =>
    t.fault.pin = false) ∧
  (∀ (s : State) (m : Master) (v : Word), s.quiet = true → s.writable m 0x1E0 0x044 = true → (v &&& accMask (· == .rw) 0x1E0 0x044).getLsbD
    R.FAULT_CTRL_FORCE.lo = true → Completes (.faultForce m v) s fun t => t.flag 0x1E0 R.FAULT_CTRL_FORCE = true ∧ t.fault.pin = true) ∧
  (∀ (s : State), s.quiet = true → s.on 3 = true → s.fault.lockstep = false → Completes .coachLockstep s fun t => t.fault.lockstep = true ∧
    t.fault.pin = true) ∧
  (∀ (s : State) (m : Master), s.quiet = true → s.windowOpen m = true → Completes (.fabricErr (.read m)) s fun t => t.rdata = none ∧ t.regs = s.regs
    ∧ t.slots = s.slots) ∧
  (∀ (s : State) (m : Master) (fn : Fin 11) (off : BitVec 26) (v : Word), s.quiet = true → s.windowOpen m = true → Master.fn m = some fn.val →
    Completes (.fabricErr (.write m off v)) s fun t => mget t.bridge.failed fn.val = some (min ((mget s.bridge.failed fn.val).getD 0 + 1) 0xFFFF) ∧
    t.slots = s.slots ∧ t.heat = s.heat) ∧
  (∀ (s : State) (fn : Fin 11) (r : Fin 32), s.quiet = true → ringExists fn.val r.val = true → s.on 4 = true → s.ringActive fn.val r.val = true →
    Completes (.fabricErr (.ring fn r)) s fun t => t.ringActive fn.val r.val = false ∧ t.flag (fnPage fn.val) (R.RING_STAT_STOPPED r.val) = true ∧
    t.fld (fnPage fn.val) (R.RING_STAT_CODE r.val) = Code.DMA_READ_ERR) ∧
  (∀ (m : Master) (v : Word) (s t : State), ∀ cmd ∈ ([.faultNRelease, .faultForce m v, .coachLockstep] : List Instr), s.quiet = true → exec cmd s =
    .next t → t.mode = s.mode ∧ t.boot = s.boot ∧ t.power = s.power ∧ t.heat = s.heat ∧ t.slots = s.slots ∧ t.wake = s.wake ∧ t.test = s.test ∧
    t.time = s.time ∧ t.eth = s.eth ∧ t.fwd = s.fwd ∧ t.key = s.key ∧ t.rings = s.rings ∧ t.can = s.can ∧ t.lin = s.lin ∧ t.relay = s.relay)

/-- A read of ERR_COUNT, of another counter register of a page that is not frozen, or of the LO word of a 64-bit counter that reaches the page returns
  the value held and clears it; reading LO latches the HI word. Model's choices: The value returned is kept in a field of the model (log entry 9).
  (R106; R107; R142.) -/
def Obligations.ReadsClearCounters : Prop :=
  (∀ (s : State) (m : Master) (p : BitVec 14), s.quiet = true → s.arrives m p.toNat 0x028 = true → s.frozen p.toNat = false → Completes
    (.errCountRead m p) s fun t => t.rdata = some (s.rd p.toNat 0x028) ∧ t.fld p.toNat R.ERR_COUNT = 0) ∧
  (∀ (s : State) (m : Master) (p : BitVec 14) (off : BitVec 12), s.quiet = true → s.readable m p.toNat off.toNat = true → countsAt p.toNat off.toNat
    = true → wideCounter p.toNat off.toNat = false → s.frozen p.toNat = false → Completes (.counterReadClear m .bar0 ⟨BitVec.ofNat 26 (p.toNat *
    4096 + off.toNat), 1⟩) s fun t => t.rdata = some (s.rd p.toNat off.toNat) ∧ t.rd p.toNat off.toNat &&& accMask (· == .rc) p.toNat off.toNat = 0)
    ∧
  (∀ (s : State) (m : Master) (p : BitVec 14) (off : BitVec 12), s.quiet = true → s.readable m p.toNat off.toNat = true → wideCounter p.toNat
    off.toNat = true → s.frozen p.toNat = false → Completes (.counter64LoRead m p off) s fun t => t.rdata = some (BitVec.ofNat 32 (s.counterAt
    p.toNat off.toNat).toNat) ∧ t.counterAt p.toNat off.toNat = 0 ∧ t.rd p.toNat (off.toNat + 4) = BitVec.ofNat 32 ((s.counterAt p.toNat
    off.toNat).toNat / 2 ^ 32))

/-- A write of IRQ_EN that reaches its page sets it and leaves every other register, the table slots, the modes and the heats as they were; SOFT_RESET
  of a CAN or LIN page that is on clears ERR_COUNT and its events; FREEZE on a page that was not frozen freezes it with a snapshot. A write to a
  register of a MAC page that holds RWS fields sets them in the staged view and leaves their live copy as it was. Writes of LOCK leave unchanged:
  the modes, the boot, the power, the tables, the wake logic, self-test, the logbook, the time subsystem, the Ethernet ports, the pipeline, the
  keys, the rings, the CAN channels, the LIN channels, the relay engine. Model's choices: Which pages take SOFT_RESET is log entry 12; ERR_COUNT in
  the snapshot is log entry 15. (R92; R106; R107; R108; R104; R118.) -/
def Obligations.RegisterWritesTaken : Prop :=
  (∀ (s : State) (m : Master) (p : BitVec 14) (v : Word), s.quiet = true → s.headWritable m p.toNat 0x014 = true → Completes (.registerWrite m .bar0
    (BitVec.ofNat 26 (p.toNat * 4096 + 0x014)) v .word) s fun t => t.rd p.toNat 0x014 = v ∧ (∀ q o, regKey q o ≠ regKey p.toNat 0x014 → t.rd q o =
    s.rd q o) ∧ t.slots = s.slots ∧ t.mode = s.mode ∧ t.heat = s.heat) ∧
  (∀ (s : State) (m : Master) (p : BitVec 14) (v : Word), s.quiet = true → s.headWritable m p.toNat 0x008 = true → softResettable p.toNat = true →
    s.pageUp p.toNat = true → Completes (.pageSoftReset m p v) s fun t => t.fld p.toNat R.ERR_COUNT = 0 ∧ t.rd p.toNat 0x010 &&& accMask (· == .w1c)
    p.toNat 0x010 = 0) ∧
  (∀ (s : State) (m : Master) (p : BitVec 14) (v : Word), s.quiet = true → s.headWritable m p.toNat 0x008 = true → s.frozen p.toNat = false →
    v.getLsbD 2 = false → Completes (.pageFreeze m p v) s fun t => t.frozen p.toNat = true ∧ t.snap = (s.snapshot p.toNat).snap) ∧
  (∀ (s : State) (m : Master) (p : BitVec 14) (off : BitVec 12) (v : Word), s.quiet = true → 0x040 ≤ p.toNat → p.toNat ≤ 0x05B → 0x040 ≤ off.toNat →
    s.writable m p.toNat off.toNat = true → accMask (· == .rws) p.toNat off.toNat ≠ 0 → Completes (.stagedRegisterWrite m p off v) s fun t =>
    t.stagedRd p.toNat off.toNat &&& accMask (· == .rws) p.toNat off.toNat = v &&& accMask (· == .rws) p.toNat off.toNat ∧ t.rd p.toNat off.toNat
    &&& accMask (· == .rws) p.toNat off.toNat = s.rd p.toNat off.toNat &&& accMask (· == .rws) p.toNat off.toNat) ∧
  (∀ (m : Master) (p : BitVec 14) (v : Word) (s t : State), ∀ cmd ∈ ([.lockWrite m p v, .lockFinal m p v] : List Instr), s.quiet = true → exec cmd s
    = .next t → t.mode = s.mode ∧ t.boot = s.boot ∧ t.power = s.power ∧ t.slots = s.slots ∧ t.wake = s.wake ∧ t.test = s.test ∧ t.log = s.log ∧
    t.time = s.time ∧ t.eth = s.eth ∧ t.fwd = s.fwd ∧ t.key = s.key ∧ t.rings = s.rings ∧ t.can = s.can ∧ t.lin = s.lin ∧ t.relay = s.relay)

/-- No access of M0 or M1 to a mapped, aligned word is rejected by LOCK, for reading or writing. A write of LOCK by M0 or M1 sets its RW bits while
  FINAL is 0, and sets FINAL where bit 31 is set; from another master, or once FINAL is 1, LOCK stays as it was and the page captures PAGE_LOCKED.
  No command comes from a master numbered 11 to 15. (R108.) -/
def Obligations.LockKept : Prop :=
  (∀ (s : State) (m : Master) (p : BitVec 14) (v : Word), s.quiet = true → (m = .m0 ∨ m = .m1) → s.arrives m p.toNat 0x034 = true → s.flag p.toNat
    R.LOCK_FINAL = false → v.getLsbD 31 = false → Completes (.lockWrite m p v) s fun t => t.rd p.toNat 0x034 = (s.rd p.toNat 0x034 &&& ~~~ accMask
    (· == .rw) p.toNat 0x034) ||| (v &&& accMask (· == .rw) p.toNat 0x034)) ∧
  (∀ (s : State) (m : Master) (p : BitVec 14) (v : Word), s.quiet = true → (m = .m0 ∨ m = .m1) → s.arrives m p.toNat 0x034 = true → s.flag p.toNat
    R.LOCK_FINAL = false → Completes (.lockFinal m p v) s fun t => t.flag p.toNat R.LOCK_FINAL = true) ∧
  (∀ (s : State) (m : Master) (p : BitVec 14) (v : Word), s.quiet = true → (2 ≤ Master.num m ∨ s.flag p.toNat R.LOCK_FINAL = true) → s.arrives m
    p.toNat 0x034 = true → Completes (.lockWrite m p v) s fun t => t.rd p.toNat 0x034 = s.rd p.toNat 0x034 ∧ t.flag p.toNat ⟨0x010, 31, 31⟩ = true ∧
    (s.fld p.toNat R.ERR_COUNT = 0 → t.fld p.toNat R.ERR_INFO_CODE = 0x0103)) ∧
  (∀ (s : State) (m : Master) (p off : Nat), (m = .m0 ∨ m = .m1) → mapped p = true → off % 4 = 0 → s.rejection m p off = 0 ∧ s.mayWrite m p = true)
    ∧
  (∀ m : Master, Master.num m < 11)

/-- Where the one access that a bridge holds is a read of a header register, the end of the stall completes it and leaves nothing stalled. A read of
  BRG_FENCE by its own function with no write outstanding returns the failures since the last such read with the baton of its last write, and clears
  the failures; PERR_POP takes the oldest entry from the posted-error log; a link change shows in LINK_UP. Fence reads, pops and changes of a link
  leave unchanged: the modes, the boot, the power, the heats, the tables, the wake logic, self-test, the logbook, the time subsystem, the Ethernet
  ports, the keys, the CAN channels, the LIN channels, the relay engine. Model's choices: What a read returns is kept in a field of the model (log
  entry 9); a write waits in the queue of its link while the bridge holds its 128 (log entry 67). (R111; R370; R371; R372; R373.) -/
def Obligations.BridgeReports : Prop :=
  (∀ (s : State) (k : Fin 2) (m : Master) (p off : Nat), s.calm = true → (if k.val = 0 then s.bridge.p0.stall else s.bridge.p1.stall) = [.read m p
    off] → (if k.val = 0 then s.bridge.p1.stall else s.bridge.p0.stall) = [] → s.bridge.p0.link = [] → s.bridge.p1.link = [] → off < 0x040 →
    Completes (.inTestStallEnd k) s fun t => (∃ w, Out.completion (ownerId m) w ∈ t.outbox) ∧ t.bridge.p0.stall = [] ∧ t.bridge.p1.stall = []) ∧
  (∀ (s : State) (m : Master) (fn : Fin 11), s.quiet = true → Master.fn m = some fn.val → s.readable m (if fn.val == 10 then 0x032 else 0x028 +
    fn.val) 0x044 = true → s.outstanding fn.val = [] → Completes (.brgFenceRead m fn) s fun t => t.rdata = some (BitVec.ofNat 32 ((mget
    s.bridge.failed fn.val).getD 0 + (mget s.bridge.last fn.val).getD 0 * 2 ^ 16)) ∧ mget t.bridge.failed fn.val = none) ∧
  (∀ (s : State) (m : Master) (k : Fin 2) (v : Word), s.quiet = true → s.writable m (0x020 + k.val) 0x04C = true → Completes (.perrPop m k v) s fun
    t => (t.bridgeOf (if k.val = 0 then 0 else 10)).log = (s.bridgeOf (if k.val = 0 then 0 else 10)).log.tail) ∧
  (∀ (s : State) (k : Fin 2) (up : Bool) (stat : BitVec 13), s.quiet = true → s.on 4 = true → Completes (.brgLinkChange k up stat) s fun t => t.flag
    (0x020 + k.val) R.BRG_STAT_LINK_UP = up) ∧
  (∀ (m : Master) (fn : Fin 11) (k : Fin 2) (v : Word) (up : Bool) (stat : BitVec 13) (s t : State), ∀ cmd ∈ ([.brgFenceRead m fn, .perrPop m k v,
    .brgLinkChange k up stat] : List Instr), s.quiet = true → exec cmd s = .next t → t.mode = s.mode ∧ t.boot = s.boot ∧ t.power = s.power ∧ t.heat
    = s.heat ∧ t.slots = s.slots ∧ t.wake = s.wake ∧ t.test = s.test ∧ t.log = s.log ∧ t.time = s.time ∧ t.eth = s.eth ∧ t.key = s.key ∧ t.can =
    s.can ∧ t.lin = s.lin ∧ t.relay = s.relay)

/-- A command at the port of VLAN_TBL that R116 lets through ends with code 0: READ_LIVE gives the live entry, READ_STAGED the staged one (zeros where
  there is none), READ_RAW the physical slot with V, E and B. WRITE_STAGED and DELETE_STAGED change the staged view of the entry at TBL_IDX and
  leave the live one; WRITE_DIRECT of IMAGE_TBL changes the half image at once; a latch not used for 1 ms is released. Model's choices: READ_STAGED
  of an entry that is not there, and READ_RAW, rest on log entries 14 and 26; the bytes of an image on 74. (R114; R115; R175; R132; R116; R118;
  R285.) -/
def Obligations.TablePorts : Prop :=
  (∀ (s : State) (m : Master), s.quiet = true → s.writable m pgVlan 0x040 = true → s.fld pgVlan R.TBL_IDX < 4096 → Completes (.tblReadLive m 0x088)
    s fun t => t.tblData pgVlan = (s.liveEntry pgVlan (s.fld pgVlan R.TBL_IDX)).getD 0 ∧ t.fld pgVlan R.TBL_STAT_CODE = 0 ∧ t.flag pgVlan
    R.TBL_STAT_DONE = true) ∧
  (∀ (s : State) (m : Master), s.quiet = true → s.writable m pgVlan 0x040 = true → s.fld pgVlan R.TBL_IDX < 4096 → Completes (.tblReadStaged m
    0x088) s fun t => t.tblData pgVlan = (s.stagedEntry pgVlan (s.fld pgVlan R.TBL_IDX)).getD 0 ∧ t.fld pgVlan R.TBL_STAT_CODE = 0 ∧ t.flag pgVlan
    R.TBL_STAT_DONE = true) ∧
  (∀ (s : State) (m : Master), s.quiet = true → s.writable m pgVlan 0x040 = true → s.fld pgVlan R.TBL_IDX < 8192 → Completes (.tblReadRaw m 0x088) s
    fun t => t.tblData pgVlan = shownSlot pgVlan (s.slot pgVlan (2 * (s.fld pgVlan R.TBL_IDX % 4096) + s.fld pgVlan R.TBL_IDX / 4096)) ∧ t.fld
    pgVlan R.TBL_STAT_CODE = 0 ∧ t.flag pgVlan R.TBL_STAT_DONE = true) ∧
  (∀ (s : State) (m : Master), s.quiet = true → s.writable m pgVlan 0x040 = true → s.fld pgVlan R.TBL_IDX < 4096 → entryRefused pgVlan (s.fld pgVlan
    R.TBL_IDX) (s.tblData pgVlan) = 0 → Completes (.tblWriteStaged m 0x088) s fun t => t.stagedEntry pgVlan (s.fld pgVlan R.TBL_IDX) = some
    (keptEntry pgVlan (s.tblData pgVlan)) ∧ t.liveEntry pgVlan (s.fld pgVlan R.TBL_IDX) = s.liveEntry pgVlan (s.fld pgVlan R.TBL_IDX)) ∧
  (∀ (s : State) (m : Master), s.quiet = true → s.writable m pgVlan 0x040 = true → s.fld pgVlan R.TBL_IDX < 4096 → Completes (.tblDeleteStaged m
    0x088) s fun t => t.stagedEntry pgVlan (s.fld pgVlan R.TBL_IDX) = none ∧ t.liveEntry pgVlan (s.fld pgVlan R.TBL_IDX) = s.liveEntry pgVlan (s.fld
    pgVlan R.TBL_IDX)) ∧
  (∀ (s : State) (m : Master), s.quiet = true → s.writable m pgImage 0x040 = true → s.fld pgImage R.TBL_IDX < 8192 → s.fld pgImage R.TBL_IDX % 4096
    < 2048 → Completes (.tblWriteDirect m 0x155) s fun t => t.imageHalf (s.fld pgImage R.TBL_IDX) = s.tblData pgImage ∧ t.fld pgImage
    R.TBL_STAT_CODE = 0) ∧
  (∀ (s : State) (p : BitVec 14), s.quiet = true → s.due (.tblOwner p.toNat) = true → Completes (.tblOwnerTimeout p) s fun t => mget t.owners
    p.toNat = none ∧ t.running (.tblOwner p.toNat) = false)

/-- COMMIT that no condition of R121 refuses captures the open heat for the check and leaves it empty; ABORT of an armed heat at least 20 us ahead
  removes it and those armed behind it, with the result ABORTED; DISCARD empties the open heat, with the result DISCARDED; both leave the live heat.
  Writes of COMMIT leave unchanged: the modes, the boot, the power, the tables, the wake logic, self-test, the logbook, the time subsystem, the
  Ethernet ports, the pipeline, the keys, the rings, the CAN channels, the LIN channels, the relay engine. Writes of ABORT and DISCARD leave
  unchanged: the modes, the boot, the power, the wake logic, self-test, the logbook, the time subsystem, the Ethernet ports, the keys, the rings,
  the CAN channels, the LIN channels, the relay engine. Model's choices: HEAT_STAT.RESULT while a check runs is that of log entry 22; the order of
  the checks of COMMIT that of log entry 63. (R119; R120; R121; R122; R134.) -/
def Obligations.HeatCommands : Prop :=
  (∀ (s : State) (m : Master), s.quiet = true → s.writable m pgHeat 0x040 = true → (s.asWritten m pgHeat).commitRefusal m = 0 → Completes
    (.heatCommit m) s fun t => t.heat.opn = Changes.empty ∧ t.heat.checking.map (·.tag) = some (s.rd pgHeat R.HEAT_TAG.off) ∧ t.heat.checking.map
    (·.chg) = some s.heat.opn ∧ t.heat.live = s.heat.live) ∧
  (∀ (s : State) (m : Master) (h : Armed), s.quiet = true → s.writable m pgHeat 0x040 = true → s.heat.checking = none → s.heat.armed.find? (fun x =>
    x.tag == s.rd pgHeat R.HEAT_TAG.off) = some h → s.liesAhead h = true → Completes (.heatAbort m) s fun t => t.heat.armed = s.heat.armed.takeWhile
    (fun x => x.tag != h.tag) ∧ t.heat.opn = Changes.empty ∧ t.fld pgHeat R.HEAT_STAT_RESULT = 3 ∧ t.heat.live = s.heat.live) ∧
  (∀ (s : State) (m : Master), s.quiet = true → s.writable m pgHeat 0x040 = true → s.heat.checking = none → Completes (.heatDiscard m) s fun t =>
    t.heat.opn = Changes.empty ∧ t.fld pgHeat R.HEAT_STAT_RESULT = 4 ∧ t.heat.live = s.heat.live ∧ t.heat.armed = s.heat.armed) ∧
  (∀ (m : Master) (s t : State), ∀ cmd ∈ ([.heatCommit m] : List Instr), s.quiet = true → exec cmd s = .next t → t.mode = s.mode ∧ t.boot = s.boot ∧
    t.power = s.power ∧ t.slots = s.slots ∧ t.wake = s.wake ∧ t.test = s.test ∧ t.log = s.log ∧ t.time = s.time ∧ t.eth = s.eth ∧ t.fwd = s.fwd ∧
    t.key = s.key ∧ t.rings = s.rings ∧ t.can = s.can ∧ t.lin = s.lin ∧ t.relay = s.relay) ∧
  (∀ (m : Master) (s t : State), ∀ cmd ∈ ([.heatAbort m, .heatDiscard m] : List Instr), s.quiet = true → exec cmd s = .next t → t.mode = s.mode ∧
    t.boot = s.boot ∧ t.power = s.power ∧ t.wake = s.wake ∧ t.test = s.test ∧ t.log = s.log ∧ t.time = s.time ∧ t.eth = s.eth ∧ t.key = s.key ∧
    t.rings = s.rings ∧ t.can = s.can ∧ t.lin = s.lin ∧ t.relay = s.relay)

/-- The check of a NOW heat that the referee accepts arms it behind the others, one that it refuses returns with the result REFUSED and the code of the
  verdict; the first armed heat is loaded when no heat settles; a loaded heat whose time has come goes live, its tag in HEAT_LIVE and the table
  epoch flipped; a heat held late goes live at its late time; the live heat settles when no frame of the old epoch remains undecided. Model's
  choices: That the verdict arms the heat in one command is log entry 23; when a heat settles what is dropped is log entry 66. (R122; R123; R124;
  R127; R130; R131; R132; R133.) -/
def Obligations.HeatProgress : Prop :=
  (∀ (s : State) (k : Checking), s.quiet = true → s.clocked 1 = true → s.heat.checking = some k → k.mode = 1 → k.loaded = true → (refVerdict
    (s.checkedConfigs k).1 (s.checkedConfigs k).2 k.chg (k.mode == 0) k.domain k.time).code = 0 → Completes .refereeVerdict s fun t =>
    t.heat.checking = none ∧ t.heat.armed.map (·.tag) = s.heat.armed.map (·.tag) ++ [k.tag] ∧ t.fld pgHeat R.HEAT_STAT_RESULT = 1) ∧
  (∀ (s : State) (k : Checking), s.quiet = true → s.clocked 1 = true → s.heat.checking = some k → (refVerdict (s.checkedConfigs k).1
    (s.checkedConfigs k).2 k.chg (k.mode == 0) k.domain k.time).code ≠ 0 → Completes .refereeVerdict s fun t => t.heat.checking = none ∧
    t.heat.armed = s.heat.armed ∧ t.fld pgHeat R.HEAT_STAT_RESULT = 2 ∧ t.fld pgHeat R.HEAT_STAT_CODE = (refVerdict (s.checkedConfigs k).1
    (s.checkedConfigs k).2 k.chg (k.mode == 0) k.domain k.time).code % 2 ^ 16) ∧
  (∀ (s : State) (h : Armed) (l : List Armed), s.quiet = true → s.clocked 0 = true → s.heat.settling = none → s.heat.armed = h :: l → h.loaded =
    false → Completes .heatLoad s fun t => t.heat.armed.map (·.tag) = s.heat.armed.map (·.tag) ∧ t.heat.armed.head?.map (·.loaded) = some true ∧
    t.heat.live = s.heat.live) ∧
  (∀ (s : State) (h : Armed) (l : List Armed), s.quiet = true → s.clocked 0 = true → s.heat.armed = h :: l → h.loaded = true → h.lateTime = none →
    s.domainValid h.domain = true → h.time ≤ s.clock h.domain → h.late = false → Completes .heatSwap s fun t => t.heat.live = h.tag ∧ t.heat.liveE =
    (!s.heat.liveE) ∧ t.heat.armed = l) ∧
  (∀ (s : State) (h : Armed) (l : List Armed) (x : Nat), s.quiet = true → s.clocked 0 = true → s.heat.armed = h :: l → h.loaded = true → h.lateTime
    = some x → x ≤ s.time.tl → Completes .heatLateRelease s fun t => t.heat.live = h.tag ∧ t.heat.liveE = (!s.heat.liveE)) ∧
  (∀ (s : State) (c : Changes) (x : Nat), s.quiet = true → s.clocked 0 = true → s.heat.settling = some (c, x) → s.oldWork = false → Completes
    .heatSettle s fun t => t.heat.settling = none ∧ t.heat.old = [] ∧ t.heat.live = s.heat.live)

/-- LOG_CMD.REWIND moves the read position to the split mark, MARK the mark to the read position, RELEASE the release point to the mark, and frees the
  older bank where it is CLOSED and wholly released; SWITCH closes a FILLING bank that holds a record where the other is FREE; a read of n bytes no
  longer than AVAIL returns them and moves the read position. A record on its way is written at the end of the FILLING bank where it fits, with the
  next SEQ; where both banks are CLOSED it is lost, with LOST set; when SWITCH_TIME is over the FILLING bank closes, and the other, if FREE, becomes
  FILLING. The commands of the logbook leave unchanged: the modes, the boot, the power, the heats, the tables, the wake logic, self-test, the time
  subsystem, the Ethernet ports, the pipeline, the keys, the rings, the CAN channels, the LIN channels, the relay engine. Model's choices: The
  positions in a bank that becomes FREE are those of log entry 72, the numbers of lost records those of log entry 175. (R393; R395; R396; R390;
  R392; R394.) -/
def Obligations.LogbookWorks : Prop :=
  (∀ (s : State) (m : Master), s.quiet = true → s.writable m pgLog 0x044 = true → Completes (.logCmdRewind m) s fun t => t.log.rp = s.log.mark ∧
    t.log.mark = s.log.mark ∧ t.log.a = s.log.a ∧ t.log.b = s.log.b) ∧
  (∀ (s : State) (m : Master), s.quiet = true → s.writable m pgLog 0x044 = true → Completes (.logCmdMark m) s fun t => t.log.mark = s.log.rp ∧
    t.log.rp = s.log.rp ∧ t.log.a = s.log.a ∧ t.log.b = s.log.b) ∧
  (∀ (s : State) (m : Master), s.quiet = true → s.writable m pgLog 0x044 = true → s.log.a.st ≠ .closed → s.log.b.st ≠ .closed → Completes
    (.logCmdRelease m) s fun t => t.log.rel = s.log.mark ∧ t.log.a = s.log.a ∧ t.log.b = s.log.b) ∧
  (∀ (s : State) (m : Master), s.quiet = true → s.writable m pgLog 0x044 = true → (s.log.bank s.log.olderB).st = .closed → (s.log.bank
    s.log.olderB).bytes.length ≤ s.log.place s.log.mark → Completes (.logCmdRelease m) s fun t => t.log.bank s.log.olderB = ⟨.free, []⟩) ∧
  (∀ (s : State) (m : Master) (x : Bool), s.quiet = true → s.writable m pgLog 0x044 = true → s.log.filling = some x → (s.log.bank x).bytes ≠ [] →
    (s.log.bank (!x)).st = .free → Completes (.logCmdSwitch m) s fun t => (t.log.bank x).st = .closed ∧ (t.log.bank x).bytes = (s.log.bank x).bytes
    ∧ t.log.filling = some (!x)) ∧
  (∀ (s : State) (n : Nat), s.quiet = true → s.windowOpen .m4 = true → s.bridgeFree .m4 = true → n ≤ s.log.avail → Completes (.logPortRead n) s fun
    t => Out.portData ((s.log.stream.drop (s.log.place s.log.rp)).take n) ∈ t.outbox ∧ t.log.rp = s.log.at_ (s.log.place s.log.rp + n)) ∧
  (∀ (s : State) (r : LogRec) (l : List LogRec), s.quiet = true → s.log.coming = r :: l → s.log.a.st = .closed → s.log.b.st = .closed → Completes
    .logRecordWrite s fun t => t.log.coming = l ∧ t.log.a = s.log.a ∧ t.log.b = s.log.b ∧ t.log.lostBefore = true ∧ t.flag pgLog R.LOG_STAT_LOST =
    true) ∧
  (∀ (s : State) (r : LogRec) (l : List LogRec) (x : Bool), s.quiet = true → s.log.coming = r :: l → s.log.filling = some x → (s.log.bank
    x).bytes.length + (logBytes r 0 false).length ≤ bankSize → Completes .logRecordWrite s fun t => t.log.coming = l ∧ (t.log.bank x).bytes =
    (s.log.bank x).bytes ++ logBytes r s.log.seq s.log.lostBefore ∧ t.log.seq = (s.log.seq + 1) % 2 ^ 16) ∧
  (∀ (s : State) (x : Bool), s.quiet = true → s.logSwitchDue = true → s.log.filling = some x → (s.log.bank x).bytes ≠ [] → (s.log.bank (!x)).st =
    .free → Completes .logSwitchTimer s fun t => (t.log.bank x).st = .closed ∧ t.log.filling = some (!x)) ∧
  (∀ (m : Master) (s t : State), ∀ cmd ∈ ([.logCmdRewind m, .logCmdMark m, .logCmdRelease m, .logCmdSwitch m] : List Instr), s.quiet = true → exec
    cmd s = .next t → t.mode = s.mode ∧ t.boot = s.boot ∧ t.power = s.power ∧ t.heat = s.heat ∧ t.slots = s.slots ∧ t.wake = s.wake ∧ t.test =
    s.test ∧ t.time = s.time ∧ t.eth = s.eth ∧ t.fwd = s.fwd ∧ t.key = s.key ∧ t.rings = s.rings ∧ t.can = s.can ∧ t.lin = s.lin ∧ t.relay =
    s.relay)

/-- At a port that runs, LINK rises when the lane is ready and nothing bars it, falls when the PHY reports it down, and is held at 0 with SPEED_MISMATCH
  while the in-band control word reports another speed than SPEED. A frame of 64 bytes to MAXLEN with a good check sequence that is no MAC control
  or gPTP frame, received without error in RUN or DIAGNOSE at a port without MACsec reception whose link is up, is queued for CLASSIFY without its
  FCS; outside RUN and DIAGNOSE it is dropped and counted in RX_NOT_RUNNING. A speed reported, a fragment and a frame received leave unchanged: the
  modes, the boot, the power, the wake logic, self-test, the keys, the LIN channels, the relay engine. (R136; R137; R138; R139; R140; R51; R141;
  R142; R161.) -/
def Obligations.LinkAndFrames : Prop :=
  (∀ (s : State) (port : Fin 28) (lane : BitVec 5) (v : Fin 8), s.quiet = true → s.linkBarred port.val = false → s.flag (macPage port.val)
    R.MAC_STAT_LINK = false → s.laneReady port.val lane v.val = true → Completes (.linkChange port true ⟨lane, v⟩) s fun t => t.flag (macPage
    port.val) R.MAC_STAT_LINK = true) ∧
  (∀ (s : State) (port : Fin 28) (lane : BitVec 5) (v : Fin 8), s.quiet = true → Completes (.linkChange port false ⟨lane, v⟩) s fun t => t.flag
    (macPage port.val) R.MAC_STAT_LINK = false) ∧
  (∀ (s : State) (port : Fin 28) (v : Fin 8), s.quiet = true → s.portRuns port.val = true → port.val < 24 → s.flag (0x060 + port.val)
    R.LANE_CFG_AN_EN = true → (s.laneMode port.val = 1 ∨ s.laneMode port.val = 5) → v.val ≠ s.speed port.val → v.val ≠ 7 → Completes (.speedMismatch
    port v) s fun t => t.flag (macPage port.val) R.MAC_STAT_SPEED_MISMATCH = true ∧ t.flag (macPage port.val) R.MAC_STAT_LINK = false) ∧
  (∀ (s : State) (port : Fin 28) (l : List Byte), s.quiet = true → s.portRuns port.val = true → s.portEnabled port.val = true → s.flag (macPage
    port.val) R.MAC_STAT_LINK = true → s.running_ = true → s.mode.rest = .awake → s.up 8 = true → 64 ≤ l.length → l.length ≤ s.maxLen port.val →
    fcsGood l = true → etherType l ≠ 0x8808 → isGptp port.val l = false → s.fld (macPage port.val) R.MACSEC_CTRL_VALIDATE = 0 → s.secLost port.val =
    0 → Completes (.ethFrameReceive port l false false) s fun t => t.fwd.classQ.map (fun f => (f.bytes, f.src)) = s.fwd.classQ.map (fun f =>
    (f.bytes, f.src)) ++ [(l.take (l.length - 4), port.val)]) ∧
  (∀ (s : State) (port : Fin 28) (l : List Byte), s.quiet = true → s.portRuns port.val = true → s.portEnabled port.val = true → s.flag (macPage
    port.val) R.MAC_STAT_LINK = true → s.running_ = false → s.mode.rest = .awake → 64 ≤ l.length → etherType l ≠ 0x8808 → isGptp port.val l = false
    → Completes (.ethFrameReceive port l false false) s fun t => t.fwd.classQ = s.fwd.classQ ∧ Counted s t (macPage port.val) R.RX_NOT_RUNNING) ∧
  (∀ (port : Fin 28) (speed : Fin 8) (frag : Fragment) (l : List Byte) (symErr early : Bool) (s t : State), ∀ cmd ∈ ([.speedMismatch port speed,
    .mmFragmentReceive port frag, .ethFrameReceive port l symErr early] : List Instr), s.quiet = true → exec cmd s = .next t → t.mode = s.mode ∧
    t.boot = s.boot ∧ t.power = s.power ∧ t.wake = s.wake ∧ t.test = s.test ∧ t.key = s.key ∧ t.lin = s.lin ∧ t.relay = s.relay)

/-- A verify mPacket at a port with preemption enabled is answered with a response, at once where the line is free and nothing waits ahead of it, else
  behind what waits; a first fragment of a frame starts its reassembly with its stamp, one in sequence is joined to it, and the last one sends the
  whole frame, without its FCS, to CLASSIFY; each expiry of VERIFY_TIME puts another verify mPacket behind what waits, which leaves at once where
  the line is free, up to the third, after which verification has FAILED; a response while VERIFYING makes it SUCCEEDED with preemption active. A
  PAUSE frame with a good FCS, addressed to the reserved multicast address, at a port with PAUSE_RX starts the pause timer and is counted in
  RX_PAUSE; a pause timer that expires ends; at a free line a port that may send and whose cells have reached XOFF_CELLS sends XOFF; an XOFF that
  stands is sent again at a free line while the cells are at or above XON_CELLS. Verification, a PAUSE or PFC frame received and one sent leave
  unchanged: the modes, the boot, the power, the heats, the tables, the wake logic, self-test, the logbook, the time subsystem, the keys, the CAN
  channels, the LIN channels, the relay engine. (R147; R151; R153; R154; R155.) -/
def Obligations.PreemptionAndPause : Prop :=
  (∀ (s : State) (port : Fin 28) (f : Fragment), s.quiet = true → s.portRuns port.val = true → s.portEnabled port.val = true → s.flag (macPage
    port.val) R.MAC_STAT_LINK = true → s.flag (macPage port.val) R.MM_CFG_EN = true → f.verify = true → (s.settleLine port.val).lineFree port.val =
    true → Completes (.mmFragmentReceive port f) s fun t => Out.mPacket port.val ((s.mPackets port.val ++ [true]).headD true) ∈ t.outbox ∧
    t.mPackets port.val = (s.mPackets port.val ++ [true]).tail) ∧
  (∀ (s : State) (port : Fin 28) (f : Fragment), s.quiet = true → s.portRuns port.val = true → s.portEnabled port.val = true → s.flag (macPage
    port.val) R.MAC_STAT_LINK = true → s.flag (macPage port.val) R.MM_CFG_EN = true → f.verify = true → (s.settleLine port.val).lineFree port.val =
    false → Completes (.mmFragmentReceive port f) s fun t => t.mPackets port.val = s.mPackets port.val ++ [true]) ∧
  (∀ (s : State) (port : Fin 28) (f : Fragment), s.quiet = true → s.portRuns port.val = true → s.portEnabled port.val = true → s.flag (macPage
    port.val) R.MAC_STAT_LINK = true → s.flag (macPage port.val) R.MM_CFG_EN = true → f.verify = false → f.smdKnown = true → f.crcOk = true →
    f.first = true → f.last = false → mget s.eth.asm port.val = none → Completes (.mmFragmentReceive port f) s fun t => mget t.eth.asm port.val =
    some { frame := f.frame.val, next := 0, bytes := f.bytes, stamp := s.rxStampAt port.val (f.bytes.length + 4), epoch := s.epochOf (s.rxStampAt
    port.val (f.bytes.length + 4)) } ∧ t.fwd = s.fwd) ∧
  (∀ (s : State) (port : Fin 28) (f : Fragment) (a : Assembly), s.quiet = true → s.portRuns port.val = true → s.portEnabled port.val = true → s.flag
    (macPage port.val) R.MAC_STAT_LINK = true → s.flag (macPage port.val) R.MM_CFG_EN = true → f.verify = false → f.smdKnown = true → f.crcOk = true
    → f.first = false → f.last = false → mget s.eth.asm port.val = some a → a.frame = f.frame.val → a.next = f.count.val → Completes
    (.mmFragmentReceive port f) s fun t => mget t.eth.asm port.val = some { a with next := (a.next + 1) % 4, bytes := a.bytes ++ f.bytes } ∧ Counted
    s t (macPage port.val) R.RX_MM_FRAG ∧ t.fwd = s.fwd) ∧
  (∀ (s : State) (port : Fin 28) (f : Fragment) (a : Assembly), s.quiet = true → s.portRuns port.val = true → s.portEnabled port.val = true → s.flag
    (macPage port.val) R.MAC_STAT_LINK = true → s.flag (macPage port.val) R.MM_CFG_EN = true → f.verify = false → f.smdKnown = true → f.crcOk = true
    → f.first = false → f.last = true → mget s.eth.asm port.val = some a → a.frame = f.frame.val → a.next = f.count.val → a.stale = false →
    s.running_ = true → s.mode.rest = .awake → s.up 8 = true → 64 ≤ (a.bytes ++ f.bytes).length → (a.bytes ++ f.bytes).length ≤ s.maxLen port.val →
    fcsGood (a.bytes ++ f.bytes) = true → etherType (a.bytes ++ f.bytes) ≠ 0x8808 → isGptp port.val (a.bytes ++ f.bytes) = false → s.fld (macPage
    port.val) R.MACSEC_CTRL_VALIDATE = 0 → s.secLost port.val = 0 → Completes (.mmFragmentReceive port f) s fun t => mget t.eth.asm port.val = none
    ∧ Counted s t (macPage port.val) R.RX_MM_ASSY_OK ∧ t.fwd.classQ.map (fun f => (f.bytes, f.src)) = s.fwd.classQ.map (fun f => (f.bytes, f.src))
    ++ [((a.bytes ++ f.bytes).take ((a.bytes ++ f.bytes).length - 4), port.val)]) ∧
  (∀ (s : State) (port : Fin 28) (f : Fragment), s.quiet = true → s.portRuns port.val = true → s.portEnabled port.val = true → s.flag (macPage
    port.val) R.MAC_STAT_LINK = true → s.flag (macPage port.val) R.MM_CFG_EN = true → f.verify = false → f.smdKnown = true → f.crcOk = true →
    f.first = true → f.last = true → mget s.eth.asm port.val = none → s.running_ = true → s.mode.rest = .awake → s.up 8 = true → 64 ≤ f.bytes.length
    → f.bytes.length ≤ s.maxLen port.val → fcsGood f.bytes = true → etherType f.bytes ≠ 0x8808 → isGptp port.val f.bytes = false → s.fld (macPage
    port.val) R.MACSEC_CTRL_VALIDATE = 0 → s.secLost port.val = 0 → Completes (.mmFragmentReceive port f) s fun t => mget t.eth.asm port.val = none
    ∧ Counted s t (macPage port.val) R.RX_MM_ASSY_OK ∧ t.fwd.classQ.map (fun f => (f.bytes, f.src)) = s.fwd.classQ.map (fun f => (f.bytes, f.src))
    ++ [(f.bytes.take (f.bytes.length - 4), port.val)]) ∧
  (∀ (s : State) (port : Fin 28), s.quiet = true → s.due (.mmVerify port.val) = true → s.fld (macPage port.val) R.MM_STAT_VERIFY_STATE = 2 → (mget
    s.eth.tries port.val).getD 0 < 3 → Completes (.mmVerifyTimer port) s fun t => (if (s.settleLine port.val).lineFree port.val = true then
    Out.mPacket port.val ((s.mPackets port.val ++ [false]).headD false) ∈ t.outbox ∧ t.mPackets port.val = (s.mPackets port.val ++ [false]).tail
    else t.mPackets port.val = s.mPackets port.val ++ [false]) ∧ mget t.eth.tries port.val = some ((mget s.eth.tries port.val).getD 0 + 1) ∧
    t.running (.mmVerify port.val) = true) ∧
  (∀ (s : State) (port : Fin 28), s.quiet = true → s.due (.mmVerify port.val) = true → s.fld (macPage port.val) R.MM_STAT_VERIFY_STATE = 2 → 3 ≤
    (mget s.eth.tries port.val).getD 0 → Completes (.mmVerifyTimer port) s fun t => t.fld (macPage port.val) R.MM_STAT_VERIFY_STATE = 4 ∧ t.running
    (.mmVerify port.val) = false) ∧
  (∀ (s : State) (port : Fin 28), s.quiet = true → s.fld (macPage port.val) R.MM_STAT_VERIFY_STATE = 2 → Completes (.mmVerifyResponse port) s fun t
    => t.fld (macPage port.val) R.MM_STAT_VERIFY_STATE = 3 ∧ t.flag (macPage port.val) R.MM_STAT_TX_ACTIVE = true) ∧
  (∀ (s : State) (port : Fin 28) (f : PauseFrame) (q : BitVec 16), s.quiet = true → s.portRuns port.val = true → s.portEnabled port.val = true →
    s.flag (macPage port.val) R.MAC_STAT_LINK = true → f.pfc = false → f.fcsOk = true → f.da = 0x0180C2000001 → f.times = [q] → q ≠ 0 → s.flag
    (macPage port.val) R.FC_CFG_PAUSE_RX = true → Completes (.pauseReceive port f) s fun t => t.running (.pause (16 * port.val + 8)) = true ∧
    Counted s t (macPage port.val) R.RX_PAUSE) ∧
  (∀ (s : State) (port : Fin 28) (prio : Option (Fin 8)), s.quiet = true → s.due (.pause (pauseTimer port prio)) = true → Completes
    (.pauseTimerExpiry port prio) s fun t => t.running (.pause (pauseTimer port prio)) = false) ∧
  (∀ (s : State) (port : Fin 28) (prio : Option (Fin 8)), s.quiet = true → s.lineFree port.val = true → s.sendsPause port.val (prio.map (·.val)) =
    true → bit (s.xoffSet port.val) (pauseIx (prio.map (·.val))) = false → s.fld (macPage port.val) R.FC_THRESH_XOFF_CELLS ≤ s.enteredCells port.val
    (prio.map (·.val)) → Completes (.pauseSend port prio) s fun t => bit (t.xoffSet port.val) (pauseIx (prio.map (·.val))) = true ∧ t.running
    (.pauseRepeat (pauseTimer port prio)) = true) ∧
  (∀ (s : State) (port : Fin 28) (prio : Option (Fin 8)), s.quiet = true → s.due (.pauseRepeat (pauseTimer port prio)) = true → s.sendsPause
    port.val (prio.map (·.val)) = true → s.lineFree port.val = true → s.xonCells port.val ≤ s.enteredCells port.val (prio.map (·.val)) → Completes
    (.pauseRepeat port prio) s fun t => Counted s t (macPage port.val) (if prio.isSome = true then R.TX_PFC else R.TX_PAUSE) ∧ t.running
    (.pauseRepeat (pauseTimer port prio)) = true) ∧
  (∀ (port : Fin 28) (frame : PauseFrame) (prio : Option (Fin 8)) (s t : State), ∀ cmd ∈ ([.mmVerifyTimer port, .mmVerifyResponse port,
    .pauseReceive port frame, .pauseSend port prio, .pauseRepeat port prio] : List Instr), s.quiet = true → exec cmd s = .next t → t.mode = s.mode ∧
    t.boot = s.boot ∧ t.power = s.power ∧ t.heat = s.heat ∧ t.slots = s.slots ∧ t.wake = s.wake ∧ t.test = s.test ∧ t.log = s.log ∧ t.time = s.time
    ∧ t.key = s.key ∧ t.can = s.can ∧ t.lin = s.lin ∧ t.relay = s.relay)

/-- A coordinator whose cycle is over, or that has none, starts one with a BEACON, outside a REST entry; a BEACON makes a follower active, and shows a
  coordinator that another one exists; 400 us without a BEACON end PLCA; a collision under CSMA/CD is counted. A BEACON sent, heard or lost leave
  unchanged: the modes, the boot, the power, the heats, the tables, the wake logic, self-test, the logbook, the time subsystem, the keys, the CAN
  channels, the LIN channels, the relay engine. (R157; R158; R159.) -/
def Obligations.PlcaStates : Prop :=
  (∀ (s : State) (i : Fin 4), s.quiet = true → s.plcaOn i.val = true → s.fld (t1sPage i.val) R.T1S_PLCA_CFG_NODE_ID = 0 → s.mode.rest = .awake →
    s.cycleOver i.val = true → Completes (.plcaCycleStart i) s fun t => Out.beacon i.val ∈ t.outbox ∧ t.flag (t1sPage i.val) R.T1S_STAT_PLCA_ACTIVE
    = true) ∧
  (∀ (s : State) (i : Fin 4), s.quiet = true → s.plcaOn i.val = true → s.fld (t1sPage i.val) R.T1S_PLCA_CFG_NODE_ID ≠ 0 → Completes
    (.plcaBeaconReceive i) s fun t => t.flag (t1sPage i.val) R.T1S_STAT_PLCA_ACTIVE = true ∧ t.running (.beacon i.val) = true) ∧
  (∀ (s : State) (i : Fin 4), s.quiet = true → s.plcaOn i.val = true → s.fld (t1sPage i.val) R.T1S_PLCA_CFG_NODE_ID = 0 → Completes
    (.plcaBeaconReceive i) s fun t => t.flag (t1sPage i.val) R.T1S_STAT_DUP_COORD = true) ∧
  (∀ (s : State) (i : Fin 4), s.quiet = true → s.due (.beacon i.val) = true → Completes (.plcaBeaconLoss i) s fun t => t.flag (t1sPage i.val)
    R.T1S_STAT_PLCA_ACTIVE = false ∧ t.running (.beacon i.val) = false) ∧
  (∀ (s : State) (i : Fin 4) (x : Sending), s.quiet = true → s.flag (t1sPage i.val) R.T1S_STAT_CSMA = true → (s.eport (24 + i.val)).express = some x
    → Completes (.csmaCollision i) s fun t => Counted s t (t1sPage i.val) R.COLLISIONS) ∧
  (∀ (i : Fin 4) (s t : State), ∀ cmd ∈ ([.plcaCycleStart i, .plcaBeaconReceive i, .plcaBeaconLoss i] : List Instr), s.quiet = true → exec cmd s =
    .next t → t.mode = s.mode ∧ t.boot = s.boot ∧ t.power = s.power ∧ t.heat = s.heat ∧ t.slots = s.slots ∧ t.wake = s.wake ∧ t.test = s.test ∧
    t.log = s.log ∧ t.time = s.time ∧ t.key = s.key ∧ t.can = s.can ∧ t.lin = s.lin ∧ t.relay = s.relay)

/-- MACSEC_TXAN takes its RW bits from a write; MDIO_CMD starts a command where none is in progress, and shows BUSY; when it ends BUSY is 0, DONE is 1
  and DATA holds what was read; a poll puts the values read of the enabled slots into LAST. These commands leave unchanged: the modes, the boot, the
  power, the heats, the tables, the wake logic, self-test, the logbook, the time subsystem, the pipeline, the keys, the rings, the CAN channels, the
  LIN channels, the relay engine. (R162; R165.) -/
def Obligations.MdioAndTxSa : Prop :=
  (∀ (s : State) (m : Master) (port : Fin 28) (v : Word), s.quiet = true → s.writable m (macPage port.val) R.MACSEC_TXAN.off = true → Completes
    (.macsecTxanWrite m port v) s fun t => t.rd (macPage port.val) R.MACSEC_TXAN.off &&& accMask (· == .rw) (macPage port.val) R.MACSEC_TXAN.off = v
    &&& accMask (· == .rw) (macPage port.val) R.MACSEC_TXAN.off) ∧
  (∀ (s : State) (m : Master) (pair : Fin 2) (v : Word), s.quiet = true → s.writable m (mdioPage pair.val) 0x044 = true → s.flag (mdioPage pair.val)
    R.MDIO_STAT_BUSY = false → Completes (.mdioCmdWrite m pair v) s fun t => t.flag (mdioPage pair.val) R.MDIO_STAT_BUSY = true ∧ mget t.eth.mdio
    pair.val = some v) ∧
  (∀ (s : State) (pair : Fin 2) (data : BitVec 16) (v : Word), s.quiet = true → s.clocked 0 = true → mget s.eth.mdio pair.val = some v → Completes
    (.mdioCommandDone pair data) s fun t => t.flag (mdioPage pair.val) R.MDIO_STAT_BUSY = false ∧ t.flag (mdioPage pair.val) R.MDIO_STAT_DONE = true
    ∧ (mdioReads v = true → t.fld (mdioPage pair.val) R.MDIO_STAT_DATA = data.toNat) ∧ mget t.eth.mdio pair.val = none) ∧
  (∀ (s : State) (pair : Fin 2) (l : List (BitVec 16)), s.quiet = true → s.on 3 = true → s.clocked 0 = true → s.fld (mdioPage pair.val)
    R.MDIO_CFG_POLL_INT ≠ 0 → s.running (.mdioPoll pair.val) = false → Completes (.mdioPoll pair l) s fun t => t.running (.mdioPoll pair.val) = true
    ∧ ∀ i < 8, s.flag (mdioPage pair.val) (R.MDIO_POLL_ADDR_EN i) = true → t.fld (mdioPage pair.val) (R.MDIO_POLL_VAL_LAST i) = (l.getD i 0).toNat)
    ∧
  (∀ (m : Master) (port : Fin 28) (pair : Fin 2) (v : Word) (d : BitVec 16) (l : List (BitVec 16)) (s t : State), ∀ cmd ∈ ([.macsecTxanWrite m port
    v, .mdioCmdWrite m pair v, .mdioCommandDone pair d, .mdioPoll pair l] : List Instr), s.quiet = true → exec cmd s = .next t → t.mode = s.mode ∧
    t.boot = s.boot ∧ t.power = s.power ∧ t.heat = s.heat ∧ t.slots = s.slots ∧ t.wake = s.wake ∧ t.test = s.test ∧ t.log = s.log ∧ t.time = s.time
    ∧ t.fwd = s.fwd ∧ t.key = s.key ∧ t.rings = s.rings ∧ t.can = s.can ∧ t.lin = s.lin ∧ t.relay = s.relay)

/-- While PLL0 clocks them: CLASSIFY passes the oldest frame on to the lookup where no stream filter matches it and it carries no stream or its port is
  not strict, and, in general, where no check drops it; a frame of a stream that no filter matches at a strict port is dropped and counted in
  SF_UNMATCHED_CNT, and any frame that a check drops is counted under the code of the check and leaves the lookup queue as it was. A lookup by the
  powered slice of the role takes the oldest frame and counts in LOOKUPS of the role; a frame whose VID has no valid VLAN entry is dropped there,
  counted in DROP_VLAN_UNKNOWN, and no lane takes it. A learn request for an unknown address that finds its four slots free inserts the entry with
  the port of the request, and counts in LEARN_NEW. Model's choices: Parity and the outcomes of checks are operands (log entry 7). (R87; R174; R189;
  R212; R214; R218; R219.) -/
def Obligations.PipelineSteps : Prop :=
  (∀ (s : State) (f : Frame) (l : List Frame), s.quiet = true → s.clocked 0 = true → s.fwd.classQ = f :: l → s.matchFilter f (s.parse f) = none →
    (s.identify f (s.parse f) = none ∨ s.flagAt f.epoch pgCls (R.CLS_PORT_SF_STRICT f.src) = false) → Completes .frameClassify s fun t =>
    t.fwd.classQ = l ∧ t.fwd.lookQ.map (fun x => (x.bytes, x.src)) = s.fwd.lookQ.map (fun x => (x.bytes, x.src)) ++ [(f.bytes, f.src)]) ∧
  (∀ (s : State) (f : Frame) (l : List Frame), s.quiet = true → s.clocked 0 = true → s.fwd.classQ = f :: l → (s.classRest.classify f).code = 0 →
    Completes .frameClassify s fun t => t.fwd.classQ = l ∧ t.fwd.lookQ = s.fwd.lookQ ++ [(s.classRest.classify f).frame]) ∧
  (∀ (s : State) (f : Frame) (l : List Frame), s.quiet = true → s.clocked 0 = true → s.fwd.classQ = f :: l → s.matchFilter f (s.parse f) = none →
    (s.identify f (s.parse f)).isSome = true → s.flagAt f.epoch pgCls (R.CLS_PORT_SF_STRICT f.src) = true → Completes .frameClassify s fun t =>
    t.fwd.classQ = l ∧ t.fwd.lookQ = s.fwd.lookQ ∧ Counted s t pgCls R.SF_UNMATCHED_CNT) ∧
  (∀ (s : State) (f : Frame) (l : List Frame), s.quiet = true → s.clocked 0 = true → s.fwd.classQ = f :: l → (s.classRest.classify f).code ≠ 0 →
    Completes .frameClassify s fun t => t.fwd.classQ = l ∧ t.fwd.lookQ = s.fwd.lookQ ∧ mget t.drops (s.classRest.classify f).code = some ((mget
    s.drops (s.classRest.classify f).code).getD 0 + 1)) ∧
  (∀ (s : State) (f : Frame) (l : List Frame) (a b c : Bool) (d : OnwardParity), s.quiet = true → s.clocked 0 = true → s.fwd.lookQ = f :: l → f.src
    < 30 → f.epoch = s.heat.liveE → s.roleOf f.epoch f.src < 2 → s.servingSlice (s.roleOf f.epoch f.src) < 3 → s.up (5 + s.servingSlice (s.roleOf
    f.epoch f.src)) = true → Completes (.frameLookup a b c d) s fun t => t.fwd.lookQ = l ∧ t.counterAt (rolePage (s.roleOf f.epoch f.src))
    R.LOOKUPS.off = s.counterAt (rolePage (s.roleOf f.epoch f.src)) R.LOOKUPS.off + 1) ∧
  (∀ (s : State) (f : Frame) (l : List Frame), s.quiet = true → s.clocked 0 = true → s.fwd.lookQ = f :: l → f.src < 30 → f.epoch = s.heat.liveE →
    s.roleOf f.epoch f.src < 2 → s.servingSlice (s.roleOf f.epoch f.src) < 3 → s.up (5 + s.servingSlice (s.roleOf f.epoch f.src)) = true → s.pairGet
    pgVlan (s.frameVid f (s.parse f)) f.epoch = none → f.tx = none → Completes (.frameLookup false false false .good) s fun t => t.fwd.lookQ = l ∧
    t.fwd.lanes = s.fwd.lanes ∧ t.rings = s.rings ∧ Counted s t (rolePage (s.roleOf f.epoch f.src)) R.DROP_VLAN_UNKNOWN) ∧
  (∀ (s : State) (r : LearnReq) (l : List LearnReq), s.quiet = true → s.clocked 0 = true → s.fwd.learnQ = r :: l → s.fwd.copying = none →
    s.loadedChanges = [] → (∀ i ∈ (List.range 4).map (s.place pgL2 (l2Key r.vid r.mac.toNat)), (s.slot (0x200 + r.slice) i).isFree = true) → (r.role
    < 2 ∧ r.vid < 4096) → Completes .learnServe s fun t => t.fwd.learnQ = l ∧ Counted s t (rolePage r.role) R.LEARN_NEW ∧ (t.getKey pgL2 r.slice
    (l2Key r.vid r.mac.toNat) t.heat.liveE).map l2Port = some (r.port % 32))

/-- A new ageing tick is noted; a flush of a role ends with FLUSH_DONE and leaves no learned entry in the slice that serves it; a seed is written in
  HALT with no live heat, and only there; a pass of the shadow compare starts the next interval, and a slot whose hardware copy differs is counted
  in SHADOW_MISMATCH. A flush and a write of a seed leave unchanged: the modes, the boot, the power, the heats, the wake logic, self-test, the
  logbook, the time subsystem, the Ethernet ports, the keys, the rings, the CAN channels, the LIN channels, the relay engine. Model's choices: The
  shadow compare is that of log entry 69. (R178; R193; R194; R195; R206; R207.) -/
def Obligations.ForwardingUpkeep : Prop :=
  (∀ (s : State), s.quiet = true → s.clocked 0 = true → s.ageNow ≠ s.fwd.ageTick → Completes .ageTick s fun t => t.fwd.ageTick = s.ageNow) ∧
  (∀ (s : State) (m : Master) (role : Fin 2) (v : Word), s.quiet = true → s.writable m (rolePage role.val) 0x060 = true → s.servingSlice role.val <
    3 → s.fwd.copying = none → s.flushRuns role.val = false → v.getLsbD 1 = false → v.getLsbD 7 = false → Completes (.learnFlush m role v) s fun t
    => (t.rd (rolePage role.val) 0x010).getLsbD 2 = true ∧ ∀ e ∈ t.slots, e.1 / 2 ^ 24 = 0x200 + s.servingSlice role.val → e.2.v = true → l2Static
    e.2.data = true) ∧
  (∀ (s : State) (m : Master) (k : Fin 4) (v : Word), s.quiet = true → s.writable m pgFwd (0x060 + 4 * k.val) = true → s.mode.service = .halt →
    s.heat.live = 0 → Completes (.fwdSeedWrite m k v) s fun t => t.rd pgFwd (0x060 + 4 * k.val) = v) ∧
  (∀ (s : State) (m : Master) (k : Fin 4) (v : Word), s.quiet = true → s.writable m pgFwd (0x060 + 4 * k.val) = true → (s.mode.service ≠ .halt ∨
    s.heat.live ≠ 0) → Completes (.fwdSeedWrite m k v) s fun t => t.rd pgFwd (0x060 + 4 * k.val) = s.rd pgFwd (0x060 + 4 * k.val)) ∧
  (∀ (s : State), s.quiet = true → s.clocked 0 = true → s.heatMoves = false → s.running .shadow = false → Completes (.shadowComparePass []) s fun t
    => t.running .shadow = true) ∧
  (∀ (s : State) (i : Fin 3) (k : BitVec 24) (d : BitVec 256), s.quiet = true → s.clocked 0 = true → s.heatMoves = false → s.running .shadow = false
    → s.fwd.strays = [] → s.poweredSlices.contains i.val = true → s.up (5 + i.val) = true → (s.slot pgVlan k.toNat).v = true → (s.slot pgVlan
    k.toNat).b = true → (s.slot pgVlan k.toNat).rsv = false → d ≠ (s.slot pgVlan k.toNat).data → Completes (.shadowComparePass [⟨i, 0, k, false,
    d⟩]) s fun t => Counted s t (slicePage i.val) R.SHADOW_MISMATCH ∧ t.slots = s.slots) ∧
  (∀ (m : Master) (role : Fin 2) (k : Fin 4) (v : Word) (s t : State), ∀ cmd ∈ ([.learnFlush m role v, .fwdSeedWrite m k v] : List Instr), s.quiet =
    true → exec cmd s = .next t → t.mode = s.mode ∧ t.boot = s.boot ∧ t.power = s.power ∧ t.heat = s.heat ∧ t.wake = s.wake ∧ t.test = s.test ∧
    t.log = s.log ∧ t.time = s.time ∧ t.eth = s.eth ∧ t.key = s.key ∧ t.rings = s.rings ∧ t.can = s.can ∧ t.lin = s.lin ∧ t.relay = s.relay)

/-- A slice test that moves its role starts the copy to the reserve; when it ends, with PLL0 running, the role is served by the reserve and the test
  slices begin; a slice that fails and serves role A only is scratched and the reserve serves role A. Model's choices: Which slice is the reserve
  after a boot rests on log entry 61. (R209; R210.) -/
def Obligations.SlicesSubstituted : Prop :=
  (∀ (s : State) (r : TestRun), s.calm = true → s.test.run = some r → unitClass r.unit = 1 → r.phase = .out → s.fwd.copying = none → s.reserveSlice
    < 3 → Completes .sliceSubstitution s fun t => t.fwd.copying.map (·.2.2) = some s.reserveSlice ∧ t.test.run = some r) ∧
  (∀ (s : State) (r a b : Nat) (x : TestRun), s.calm = true → s.clocked 0 = true → s.fwd.copying = some (r, a, b) → r < 2 → b < 3 → s.test.run =
    some x → Completes .sliceCopyDone s fun t => t.fwd.copying = none ∧ t.roleSlice r = b ∧ t.test.run.map (·.phase) = some .slice) ∧
  (∀ (s : State) (i : Fin 3), s.quiet = true → s.roleSlice 0 = i.val → s.roleSlice 1 ≠ i.val → s.reserveSlice < 3 → s.reserveSlice ≠ i.val →
    Completes (.sliceFailure i) s fun t => t.roleSlice 0 = s.reserveSlice ∧ t.scratched (0x100 + i.val) = true)

/-- A stream gate of a valid domain that has reached its first cycle runs at the entry that contains the time of its domain; SF_UNBLOCK takes the filter
  from the blocked ones; SG_REOPEN opens a CLOSED gate; MTR_CLEAR ends MARK_ALL_RED of a meter. The three writes leave unchanged: the modes, the
  boot, the power, the heats, the tables, the wake logic, self-test, the logbook, the time subsystem, the Ethernet ports, the keys, the rings, the
  CAN channels, the LIN channels, the relay engine. (R219; R220; R221; R222; R224.) -/
def Obligations.StreamChecksReopen : Prop :=
  (∀ (s : State) (g : Fin 256) (e : Entry), s.quiet = true → s.clocked 0 = true → s.pairGet pgGate g.val s.heat.liveE = some e → gLength e ≠ 0 →
    s.domainValid (gDomain e) = true → (s.gate g.val).s0 ≤ s.nowNs (gDomain e) → Completes (.streamGateEntry g) s fun t => (t.gate g.val).running =
    true ∧ ((t.gate g.val).cycle, (t.gate g.val).entry) = locate (s.gateInterval e) (gLength e) (s.gate g.val).s0 (gCycle e) (s.nowNs (gDomain e)))
    ∧
  (∀ (s : State) (m : Master) (v : Word), s.quiet = true → s.writable m pgCls 0x174 = true → Completes (.sfUnblock m v) s fun t =>
    t.fwd.blocked.contains (getBits v 11 0) = false) ∧
  (∀ (s : State) (m : Master) (v : Word), s.quiet = true → s.writable m pgGate 0x070 = true → (mget s.fwd.gates (getBits v 7 0)).isSome = true →
    Completes (.sgReopen m v) s fun t => (t.gate (getBits v 7 0)).closed = false) ∧
  (∀ (s : State) (m : Master) (v : Word) (x : Meter), s.quiet = true → s.writable m pgMeter 0x070 = true → mget s.fwd.meters (getBits v 10 0) = some
    x → Completes (.mtrClear m v) s fun t => mget t.fwd.meters (getBits v 10 0) = some { x with allRed := false }) ∧
  (∀ (m : Master) (v : Word) (s t : State), ∀ cmd ∈ ([.sfUnblock m v, .sgReopen m v, .mtrClear m v] : List Instr), s.quiet = true → exec cmd s =
    .next t → t.mode = s.mode ∧ t.boot = s.boot ∧ t.power = s.power ∧ t.heat = s.heat ∧ t.slots = s.slots ∧ t.wake = s.wake ∧ t.test = s.test ∧
    t.log = s.log ∧ t.time = s.time ∧ t.eth = s.eth ∧ t.key = s.key ∧ t.rings = s.rings ∧ t.can = s.can ∧ t.lin = s.lin ∧ t.relay = s.relay)

/-- While PLL0 clocks them, and the port is powered: a pacer without an entry releases its head, one with tokens below 0 keeps it, and one with tokens
  of at least 0 passes it to its lane, which has room, and is charged the length and OVH; the lane that R233 chooses at a free line sends its head;
  a frame on the line whose cell cannot be corrected gets an inverted FCS, and a second corrected error in a location within 24 h enters a repair
  record; the frame on the line is sent whole once its time is over; a running hurdle list stands at the entry that contains the time of its domain,
  and issues a hold HA ahead of it. Model's choices: A frame is sent whole (log entry 38); the choice among lanes is read as in log entry 36; stamps
  lie as in log entry 164, and repair records are those of log entry 180. (R229; R233; R237; R239; R241; R437; R472.) -/
def Obligations.LanesServe : Prop :=
  (∀ (s : State) (k : Fin 1024) (x : Paced) (l : List Paced), s.quiet = true → s.clocked 0 = true → s.pacerQ k.val = x :: l → s.pairGet pgPacer
    k.val s.heat.liveE = none → Completes (.flowPacerRelease k) s fun t => t.pacerQ k.val = l) ∧
  (∀ (s : State) (k : Fin 1024) (x : Paced) (l : List Paced) (e : Entry), s.quiet = true → s.clocked 0 = true → s.pacerQ k.val = x :: l → s.pairGet
    pgPacer k.val s.heat.liveE = some e → fpEn e = true → ((s.advancePacer k.val e).pacerLevels k.val).tok < 0 → Completes (.flowPacerRelease k) s
    fun t => t.pacerQ k.val = s.pacerQ k.val ∧ t.fwd.lanes = s.fwd.lanes) ∧
  (∀ (s : State) (k : Fin 1024) (x : Paced) (l : List Paced) (e : Entry) (n i : Nat) (c : Copy), s.quiet = true → s.clocked 0 = true → s.pacerQ
    k.val = x :: l → s.pairGet pgPacer k.val s.heat.liveE = some e → fpEn e = true → 0 ≤ ((s.advancePacer k.val e).pacerLevels k.val).tok → x.copies
    = [(n, i, c)] → x.rings = [] → x.mirrors = [] → x.tx = none → n < 28 → i < 8 → s.laneCells n i + x.cells ≤ s.fld (lanePage n)
    (R.LANE_BUF_MAX_CELLS i) → x.cells + s.reserveAfter x.cells [(n, i, c)] ≤ s.freeCells → Completes (.flowPacerRelease k) s fun t => t.pacerQ
    k.val = l ∧ (t.pacerLevels k.val).tok = ((s.advancePacer k.val e).pacerLevels k.val).tok - (s.advancePacer k.val e).pacedLen e x * (byteU : Nat)
    ∧ (t.lane n i).q.map (fun y => y.bytes) = (s.lane n i).q.map (fun y => y.bytes) ++ [c.bytes]) ∧
  (∀ (s : State) (port : Fin 28) (i : Nat) (c : Copy) (l : List Copy), s.quiet = true → s.portRuns port.val = true → s.portEnabled port.val = true →
    s.pauseWaits port.val = none → s.mPackets port.val = [] → (s.eport port.val).express = none → (s.chosen port.val).2 = some i → (s.chosen
    port.val).1.lineFree port.val = true → ((s.chosen port.val).1.lane port.val i).q = c :: l → s.flag (macPage port.val) R.MAC_STAT_LINK = true →
    c.oversize = false → c.bytes.length + 4 ≤ s.maxLen port.val → s.secTx port.val = false → s.secLost port.val = 0 → Completes (.laneSelect port
    .clean) s fun t => (t.eport port.val).express.map (fun x => (x.lane, x.copy, x.wire)) = some (i, c, c.bytes)) ∧
  (∀ (s : State) (port : Fin 28) (x : Sending), s.quiet = true → s.portRuns port.val = true → s.portEnabled port.val = true → (s.choosePort
    port.val).onLine port.val = some (false, x) → Completes (.laneSelect port .uncorrectable) s fun t => (t.onLine port.val).map (fun y =>
    (y.2.inverted, y.2.copy.bad)) = some (true, true)) ∧
  (∀ (s : State) (port : Fin 28) (x : Sending) (m : BitVec 12) (a : BitVec 20) (b : BitVec 7), s.quiet = true → s.portRuns port.val = true →
    s.portEnabled port.val = true → (s.choosePort port.val).onLine port.val = some (false, x) → (s.choosePort port.val).test.corrected.any (fun e =>
    e.1.mem == bufferMemory m.toNat && e.1.addr == a.toNat && s.time.tl ≤ e.2 + msT 86400000) = true → (s.choosePort port.val).test.soft.length <
    264 → Completes (.laneSelect port (.corrected m a b)) s fun t => ((⟨bufferMemory m.toNat, a.toNat, b.toNat, false⟩ : Repair) ∈ t.test.soft ∨
    (⟨bufferMemory m.toNat, a.toNat, b.toNat, false⟩ : Repair) ∈ t.test.fuses) ∧ t.fwd = (s.choosePort port.val).fwd) ∧
  (∀ (s : State) (port : Fin 28) (x : Sending), s.quiet = true → s.clocked 0 = true → s.onLine port.val = some (false, x) → s.lineDue port.val x =
    true → s.flag (macPage port.val) R.MAC_CFG_LOOPBACK = false → x.inverted = false → Completes (.frameTransmitEnd port) s fun t => Out.ethFrame
    port.val x.full ∈ t.outbox ∧ (t.eport port.val).express = none) ∧
  (∀ (s : State) (port : Fin 28), s.quiet = true → s.clocked 0 = true → s.up (portDomain port.val) = true → s.hlEn port.val = true → s.hlLen
    port.val ≠ 0 → s.domainValid (s.hlDomain port.val) = true → (s.eport port.val).hurdle.s0 ≤ s.nowNs (s.hlDomain port.val) → Completes
    (.hurdleEntryStart port) s fun t => (t.eport port.val).hurdle.running = true ∧ ((t.eport port.val).hurdle.cycle, (t.eport
    port.val).hurdle.entry) = locate (s.hlInterval port.val) (s.hlLen port.val) (s.eport port.val).hurdle.s0 (s.hlCycle port.val) (s.nowNs
    (s.hlDomain port.val))) ∧
  (∀ (s : State) (port : Fin 28) (x : Nat), s.quiet = true → s.clocked 0 = true → s.up (portDomain port.val) = true → s.hlEn port.val = true →
    s.hlLen port.val ≠ 0 → s.domainValid (s.hlDomain port.val) = true → s.nextHoldStart port.val = some x → x ≤ s.nowNs (s.hlDomain port.val) +
    s.holdAdvance port.val → Completes (.hurdleHoldIssue port) s fun t => (t.eport port.val).hurdle.hold = true)

/-- In RUN or DIAGNOSE a Classical frame from the bus of a controller that takes part goes to the relay engine with its stamp and counts in
  CAN_RX_FRAMES; at a start-of-frame sample point with nothing locked the chosen buffer is locked; an attempt that succeeds puts its frame on the
  bus, counts in CAN_TX_FRAMES and unlocks; one that loses arbitration counts in ARB_LOST and unlocks. Model's choices: The frame on the bus, the
  start-of-frame stamp and TEC rest on log entries 44 and 45. (R253; R257; R260; R261; R272.) -/
def Obligations.CanFramesTakenAndSent : Prop :=
  (∀ (s : State) (c : Fin 48) (w : CanWire), s.quiet = true → s.canOn c.val = true → s.errState c.val < 2 → s.running_ = true → s.mode.rest = .awake
    → w.fmt = 0 → Completes (.canFrameReceive c w false) s fun t => t.relay.coming = s.relay.coming ++ [pduOfCan c.val (CanWire.frame w) (s.canStamp
    c.val) s.heat.liveE] ∧ Counted s t (canPage c.val) R.CAN_RX_FRAMES) ∧
  (∀ (s : State) (c : Fin 48) (d b : Nat), s.quiet = true → s.canOn c.val = true → s.errState c.val < 2 → s.running_ = true → (s.chan c.val).locked
    = none → s.canCtl c.val R.CAN_CTRL_LISTEN_ONLY = false → s.chooseTxb c.val = some b → (mget (s.chan c.val).bufs b).isSome = true → Completes
    (.canTxStart c d) s fun t => (t.chan c.val).locked = some b ∧ t.flag (canPage c.val) (R.TXB_CTRL_LOCKED b) = true ∧ t.flag (canPage c.val)
    R.CAN_STAT_BUS_IDLE = false) ∧
  (∀ (s : State) (c : Fin 48) (b : Nat) (h : CanHeld), s.quiet = true → (s.chan c.val).locked = some b → b < 3 → mget (s.chan c.val).bufs b = some h
    → s.canCtl c.val R.CAN_CTRL_LOOPBACK = false → h.cts = none → Completes (.canTxSuccess c) s fun t => Out.can c.val (s.canSent c.val h.frame)
    (s.pwm c.val (s.canSent c.val h.frame)) ∈ t.outbox ∧ Counted s t (canPage c.val) R.CAN_TX_FRAMES ∧ (t.chan c.val).locked = none ∧ t.tec c.val =
    (s.tec c.val - 1)) ∧
  (∀ (s : State) (c : Fin 48) (b : Nat), s.quiet = true → (s.chan c.val).locked = some b → b < 3 → Completes (.canArbLost c) s fun t => Counted s t
    (canPage c.val) R.ARB_LOST ∧ (t.chan c.val).locked = none)

/-- A bit error at a controller that takes part counts in ERR_BIT; 128 occurrences of 11 recessive bits end bus-off with TEC and REC 0, and fewer are
  shown in BOFF_COUNT; 11 recessive bits make an integrating controller with TEC and REC up to 127 error active and the bus idle; a timing switch in
  bus idle puts the new timing in force. Model's choices: TEC, REC, ERR_STATE 3 and BOFF_COUNT 0 after recovery rest on log entry 44. (R248; R253;
  R254; R258; R272.) -/
def Obligations.CanErrorStates : Prop :=
  (∀ (s : State) (c : Fin 48) (e : CanError), s.quiet = true → s.canOn c.val = true → s.errState c.val < 2 → e.kind = .bit → Completes (.canBusError
    c e) s fun t => Counted s t (canPage c.val) R.ERR_BIT) ∧
  (∀ (s : State) (c : Fin 48) (n : Nat), s.quiet = true → s.canOn c.val = true → s.errState c.val = 2 → 128 ≤ s.fld (canPage c.val)
    R.CAN_STAT_BOFF_COUNT + n → Completes (.busOffEnd c n) s fun t => t.errState c.val = 0 ∧ t.tec c.val = 0 ∧ t.recCount c.val = 0) ∧
  (∀ (s : State) (c : Fin 48) (n : Nat), s.quiet = true → s.canOn c.val = true → s.errState c.val = 2 → s.fld (canPage c.val) R.CAN_STAT_BOFF_COUNT
    + n < 128 → Completes (.busOffEnd c n) s fun t => t.errState c.val = 2 ∧ t.fld (canPage c.val) R.CAN_STAT_BOFF_COUNT = s.fld (canPage c.val)
    R.CAN_STAT_BOFF_COUNT + n) ∧
  (∀ (s : State) (c : Fin 48), s.quiet = true → s.canOn c.val = true → s.errState c.val = 3 → s.tec c.val ≤ 127 → s.recCount c.val ≤ 127 → Completes
    (.canIntegrated c) s fun t => t.errState c.val = 0 ∧ t.flag (canPage c.val) R.CAN_STAT_BUS_IDLE = true) ∧
  (∀ (s : State) (c : Fin 48), s.quiet = true → s.clocked 1 = true → (s.chan c.val).locked = none → Completes (.canTimingSwitch c) s fun t =>
    (t.chan c.val).timing = [])

/-- REQ on a host-owned, idle transmit buffer with a frame that is not in error makes the buffer hold it; CANCEL on an unlocked one takes it out and
  counts in CAN_CANCELLED; a push that finds room answers OK; TXQ_CANCEL takes the queued frame with its handle out; a read of TXEV returns the
  oldest event and takes it out; the frames whose lifetime has ended leave the queue and count in DROP_LIFETIME; a read of a mailbox header returns
  it and clears NEW and LOST. Model's choices: A buffered frame keeps its queue entry (log entry 40). (R259; R265; R266; R267; R268; R271.) -/
def Obligations.CanBuffersServed : Prop :=
  (∀ (s : State) (m : Master) (c : Fin 48) (b : Fin 3), s.quiet = true → s.writable m (canPage c.val) (0x200 + 0x50 * b.val) = true → s.hostOwned
    c.val b.val = true → s.flag (canPage c.val) (R.TXB_CTRL_REQ b.val) = false → mget (s.chan c.val).bufs b.val = none → s.canBad c.val (s.canWindow
    c.val (0x204 + 0x50 * b.val)) = false → Completes (.txbReq m c b) s fun t => (mget (t.chan c.val).bufs b.val).map (·.frame) = some (s.canPadded
    c.val (s.canWindow c.val (0x204 + 0x50 * b.val))) ∧ t.flag (canPage c.val) (R.TXB_CTRL_REQ b.val) = true) ∧
  (∀ (s : State) (m : Master) (c : Fin 48) (b : Fin 3), s.quiet = true → s.writable m (canPage c.val) (0x200 + 0x50 * b.val) = true → s.hostOwned
    c.val b.val = true → (mget (s.chan c.val).bufs b.val).isSome = true → s.flag (canPage c.val) (R.TXB_CTRL_SRC b.val) = false → (s.chan
    c.val).locked ≠ some b.val → Completes (.txbCancel m c b) s fun t => mget (t.chan c.val).bufs b.val = none ∧ Counted s t (canPage c.val)
    R.CAN_CANCELLED) ∧
  (∀ (s : State) (m : Master) (c : Fin 48) (v : Word), s.quiet = true → s.writable m (canPage c.val) R.TXQ_PUSH.off = true → s.canBad c.val
    (s.canWindow c.val 0x100) = false → (s.entries c.val).length < 256 → max 1 (ceilDiv (s.canPadded c.val (s.canWindow c.val 0x100)).data.length
    64) ≤ s.freeGranules c.val → Completes (.txqPush m c v) s fun t => t.flag (canPage c.val) R.TXQ_STAT_OK = true) ∧
  (∀ (s : State) (m : Master) (c : Fin 48) (v : Word), s.quiet = true → s.writable m (canPage c.val) R.TXQ_CANCEL.off = true → ((s.chan
    c.val).queue.any fun h => h.handle == getBits v 15 0) = true → Completes (.txqCancel m c v) s fun t => (t.chan c.val).queue = (s.chan
    c.val).queue.filter (fun h => h.handle != getBits v 15 0) ∧ Counted s t (canPage c.val) R.CAN_CANCELLED) ∧
  (∀ (s : State) (m : Master) (c : Fin 48) (h o : Nat) (x : Bool) (l : List (Nat × Nat × Bool)), s.quiet = true → s.readable m (canPage c.val)
    R.TXEV_HANDLE.off = true → (s.chan c.val).events = (h, o, x) :: l → Completes (.txevRead m c) s fun t => t.rdata = some (BitVec.ofNat 32 (h + o
    * 2 ^ 16 + b2n x * 2 ^ 18 + 2 ^ 31)) ∧ (t.chan c.val).events = l) ∧
  (∀ (s : State) (c : Fin 48) (h : CanHeld), s.quiet = true → (s.chan c.val).bufs = [] → (s.chan c.val).queue = [h] → s.expired h = true → Completes
    (.canLifetimeExpiry c) s fun t => (t.chan c.val).queue = [] ∧ (t.chan c.val).bufs = [] ∧ Counted s t (canPage c.val) R.DROP_LIFETIME) ∧
  (∀ (s : State) (m : Master) (c : Fin 48) (i : Fin 33), s.quiet = true → s.readable m (canPage c.val) (mbHdr i.val) = true → Completes
    (.mailboxOpen m c i) s fun t => t.rdata = some (s.rd (canPage c.val) (mbHdr i.val)) ∧ getBits (t.rd (canPage c.val) (mbHdr i.val)) 9 8 = 0)

/-- While a test moves a channel out, its reserve core attaches; at a point suitable for the move it serves the channel and the test slices begin; 10 ms
  without one end the attempt; a channel whose own core fails is served by the lowest-numbered free reserve core, and its own core is scratched.
  Model's choices: The operand of the request is log entry 114, the end after 10 ms log entry 60. (R274; R275; R433; R434.) -/
def Obligations.CanHandover : Prop :=
  (∀ (s : State) (c : Fin 48) (k : Fin 3) (r : TestRun), s.calm = true → s.movingCan c.val = some r → (s.chan c.val).attached = none → k.val = (if
    r.phase = .out then r.reserve else r.ownCore) → (k.val ≠ 0 → s.canCoreFree (k.val - 1) = true) → Completes (.canHandoverRequest c k) s fun t =>
    (t.chan c.val).attached = some k.val ∧ t.running (.canHandover c.val) = true) ∧
  (∀ (s : State) (c : Fin 48) (k : Nat) (r : TestRun), s.calm = true → s.movingCan c.val = some r → r.phase = .out → (s.chan c.val).attached = some
    k → k < 16 → (s.chan c.val).locked = none → Completes (.canHandoverMove c) s fun t => t.fld (canPage c.val) R.RESERVE_MAP_SERVING = k ∧
    t.test.run.map (·.phase) = some .slice) ∧
  (∀ (s : State) (c : Fin 48) (k : Nat) (r : TestRun), s.calm = true → s.movingCan c.val = some r → (s.chan c.val).attached = some k → s.due
    (.canHandover c.val) = true → Completes (.canHandoverAbandon c) s fun t => (t.chan c.val).attached = none ∧ t.fld (canPage c.val)
    R.RESERVE_MAP_SERVING = s.fld (canPage c.val) R.RESERVE_MAP_SERVING) ∧
  (∀ (s : State) (c : Fin 48) (k : Nat), s.quiet = true → s.fld (canPage c.val) R.RESERVE_MAP_SERVING = 0 → s.freeCanCore = some k → Completes
    (.canCoreFailure c) s fun t => t.fld (canPage c.val) R.RESERVE_MAP_SERVING = k ∧ t.scratched (0x200 + c.val) = true)

/-- A commander that starts to run takes the first entry of the requested schedule; a responder answers a good header of a frame it publishes; its own
  response goes on the bus and ends the slot; a good response of a subscribed frame sets NEW and stores the data; a maximum frame time without
  response ends the slot and counts as no response. Model's choices: The protected identifier and the checksums are those of log entry 47, the place
  of the counter for no response that of log entry 48. (R278; R279; R280; R282.) -/
def Obligations.LinSlotsAndResponses : Prop :=
  (∀ (s : State) (n : Fin 12), s.quiet = true → s.linSlotDue n.val = true → (s.linChan n.val).polls = [] → (s.linChan n.val).next = none → s.fld
    (linPage n.val) R.LIN_SCHED_REQ_SCHED < 4 → Completes (.linSlotStart n) s fun t => t.flag (linPage n.val) R.LIN_STAT_RUNNING = true ∧ t.fld
    (linPage n.val) R.LIN_STAT_SCHED = s.fld (linPage n.val) R.LIN_SCHED_REQ_SCHED ∧ t.fld (linPage n.val) R.LIN_STAT_ENTRY = s.linFirst n.val
    (s.fld (linPage n.val) R.LIN_SCHED_REQ_SCHED)) ∧
  (∀ (s : State) (n : Fin 12) (pid : Byte) (rate : BitVec 16), s.quiet = true → s.linOn n.val = true → s.linCommander n.val = false → s.linAsleep
    n.val = false → linPid (pid.toNat % 64) = pid.toNat → lfDir (s.linFrame n.val (pid.toNat % 64)) = 1 → s.running_ = true → lfEvent (s.linFrame
    n.val (pid.toNat % 64)) = false → Completes (.linHeaderReceive n pid rate) s fun t => (t.linChan n.val).slot.map (fun x => (x.id, x.publish)) =
    some (pid.toNat % 64, true)) ∧
  (∀ (s : State) (n : Fin 12) (l : List Byte) (fr : Bool) (x : LinSlot), s.quiet = true → s.linOn n.val = true → (s.linChan n.val).slot = some x →
    x.id < 64 → x.publish = true → Completes (.linResponseEnd n l fr false) s fun t => (t.linChan n.val).slot = none ∧ Out.linResponse n.val x.id
    (s.linSends n.val x ++ [BitVec.ofNat 8 (linChecksum (lfEnhanced (s.linFrame n.val x.id)) x.id (s.linSends n.val x))]) ∈ t.outbox) ∧
  (∀ (s : State) (n : Fin 12) (d : List Byte) (x : LinSlot), s.quiet = true → s.linOn n.val = true → s.running_ = true → s.mode.rest = .awake →
    (s.linChan n.val).slot = some x → x.publish = false → x.type ≠ 1 → x.id < 0x3C → lfDir (s.linFrame n.val x.id) = 2 → lfLen (s.linFrame n.val
    x.id) ≤ d.length → Completes (.linResponseEnd n (d ++ [BitVec.ofNat 8 (linChecksum (lfEnhanced (s.linFrame n.val x.id)) x.id d)]) false false) s
    fun t => (t.linChan n.val).slot = none ∧ t.flag (linPage n.val) (R.LIN_FSTAT_NEW x.id) = true ∧ t.linBytes n.val x.id = padTo (d.take 8) 8) ∧
  (∀ (s : State) (n : Fin 12) (x : LinSlot), s.quiet = true → s.due (.linResponse n.val) = true → (s.linChan n.val).slot = some x → x.id < 64 →
    x.type ≠ 1 → Completes (.linResponseTimeout n false) s fun t => (t.linChan n.val).slot = none ∧ Counted s t (linPage n.val) linErrNoResp)

/-- A write of the second data word commits both words; a read of the first word returns it, clears NEW and latches the second; LIN_CMD.WAKE sends a
  wake pulse of 1 ms and wakes the node, as does a dominant level of 250 us to 5 ms on the bus; an idle bus sends a responder to sleep; 100 ms after
  its pulse a commander may resume; the reserve core takes an idle channel for its test. The commands of masters leave unchanged: the modes, the
  boot, the power, the heats, the tables, the wake logic, self-test, the logbook, the time subsystem, the Ethernet ports, the pipeline, the keys,
  the rings, the CAN channels, the relay engine. (R276; R278; R280; R281.) -/
def Obligations.LinDataAndSleep : Prop :=
  (∀ (s : State) (m : Master) (n : Fin 12) (id : BitVec 6) (v : Word), s.quiet = true → s.writable m (linPage n.val) (0x204 + 8 * id.toNat) = true →
    Completes (.linDataCommit m n id v) s fun t => t.rd (linPage n.val) (0x200 + 8 * id.toNat) = (mget (s.linChan n.val).held id.toNat).getD (s.rd
    (linPage n.val) (0x200 + 8 * id.toNat)) ∧ t.rd (linPage n.val) (0x204 + 8 * id.toNat) = v) ∧
  (∀ (s : State) (m : Master) (n : Fin 12) (id : BitVec 6), s.quiet = true → s.readable m (linPage n.val) (0x200 + 8 * id.toNat) = true → Completes
    (.linDataRead m n id) s fun t => t.rdata = some (s.rd (linPage n.val) (0x200 + 8 * id.toNat)) ∧ t.flag (linPage n.val) (R.LIN_FSTAT_NEW
    id.toNat) = false ∧ mget (t.linChan n.val).latched id.toNat = some (s.rd (linPage n.val) (0x204 + 8 * id.toNat))) ∧
  (∀ (s : State) (m : Master) (n : Fin 12), s.quiet = true → s.writable m (linPage n.val) R.LIN_CMD_WAKE.off = true → s.linOn n.val = true →
    Completes (.linWakeCmd m n) s fun t => Out.pulse (.linWake n.val) 1000 ∈ t.outbox ∧ t.linAsleep n.val = false) ∧
  (∀ (s : State) (n : Fin 12) (us : Nat), s.quiet = true → s.linOn n.val = true → 250 ≤ us → us ≤ 5000 → Completes (.linBusWake n us) s fun t =>
    t.linAsleep n.val = false) ∧
  (∀ (s : State) (n : Fin 12), s.quiet = true → s.linOn n.val = true → s.due (.linIdle n.val) = true → Completes (.linIdleSleep n) s fun t =>
    t.linAsleep n.val = true ∧ (t.linChan n.val).slot = none ∧ t.running (.linIdle n.val) = false) ∧
  (∀ (s : State) (n : Fin 12), s.quiet = true → s.due (.linResume n.val) = true → Completes (.linCommanderResume n) s fun t => t.running (.linResume
    n.val) = false) ∧
  (∀ (s : State) (n : Fin 12) (r : TestRun), s.calm = true → s.moving (0x300 + n.val) = some r → r.phase = .out → (s.linChan n.val).slot = none →
    Completes (.linHandover n) s fun t => t.fld (linPage n.val) R.RESERVE_MAP_SERVING = 1 ∧ t.test.run.map (·.phase) = some .slice) ∧
  (∀ (m : Master) (n : Fin 12) (id : BitVec 6) (v : Word) (s t : State), ∀ cmd ∈ ([.linDataCommit m n id v, .linDataRead m n id, .linWakeCmd m n] :
    List Instr), s.quiet = true → exec cmd s = .next t → t.mode = s.mode ∧ t.boot = s.boot ∧ t.power = s.power ∧ t.heat = s.heat ∧ t.slots = s.slots
    ∧ t.wake = s.wake ∧ t.test = s.test ∧ t.log = s.log ∧ t.time = s.time ∧ t.eth = s.eth ∧ t.fwd = s.fwd ∧ t.key = s.key ∧ t.rings = s.rings ∧
    t.can = s.can ∧ t.relay = s.relay)

/-- While the engine is powered and clocked: the oldest PDU on its way enters the input queue where it has room, one from a host with the time and the
  epoch of that moment; without room it drops and is counted in DROP_OVERFLOW. With room for its copies in CANAUTH the oldest PDU of the queue
  leaves it: counted in NO_ROUTE where no route matches it, in ROUTED where one does, and in DROP_PARITY where the route was read with bad parity. A
  copy that waits in CANAUTH without an authenticator of its own for a LIN frame is handed over once a ceiling is durable: its bytes are the frame's
  data, and COPIES counts it. These steps of the engine leave unchanged: the modes, the boot, the power, the heats, the tables, the wake logic,
  self-test, the logbook, the time subsystem, the Ethernet ports. Model's choices: The ceilings are those of log entry 50. (R286; R288; R289; R291;
  R293; R304; R307.) -/
def Obligations.RelayQueueAndRoutes : Prop :=
  (∀ (s : State) (p : Pdu) (l : List Pdu), s.quiet = true → s.relay.coming = p :: l → s.relayOn = true → p.src ≠ 60 → s.relay.inq.length < 512 →
    pduGranules p ≤ s.comingRest.relayFree → Completes .relayPduEnqueue s fun t => t.relay.inq = s.relay.inq ++ [p] ∧ t.relay.coming = l) ∧
  (∀ (s : State) (p : Pdu) (l : List Pdu), s.quiet = true → s.relay.coming = p :: l → s.relayOn = true → p.src = 60 → s.relay.inq.length < 512 →
    pduGranules p ≤ s.comingRest.relayFree → Completes .relayPduEnqueue s fun t => t.relay.inq = s.relay.inq ++ [s.takenPdu p] ∧ t.relay.coming = l)
    ∧
  (∀ (s : State) (p : Pdu) (l : List Pdu), s.quiet = true → s.relay.coming = p :: l → s.relayOn = true → s.comingRest.relayFree < pduGranules p →
    Completes .relayPduEnqueue s fun t => t.relay.inq = s.relay.inq ∧ t.relay.coming = l ∧ Counted s t pgRelay R.DROP_OVERFLOW) ∧
  (∀ (s : State) (p : Pdu) (l : List Pdu) (r : Option (Fin 16)), s.quiet = true → s.relay.inq = p :: l → s.relayOn = true → s.authRoom p = true →
    p.epoch = s.heat.liveE → (s.setInq l).routeOf p = none → Completes (.relayPdu false r) s fun t => t.relay.inq = l ∧ Counted s t pgRelay
    R.NO_ROUTE) ∧
  (∀ (s : State) (p : Pdu) (l : List Pdu) (r : Option (Fin 16)), s.quiet = true → s.relay.inq = p :: l → s.relayOn = true → s.authRoom p = true →
    p.epoch = s.heat.liveE → ((s.setInq l).routeOf p).isSome = true → Completes (.relayPdu false r) s fun t => t.relay.inq = l ∧ Counted s t pgRelay
    R.ROUTED) ∧
  (∀ (s : State) (p : Pdu) (l : List Pdu) (r : Option (Fin 16)), s.quiet = true → s.relay.inq = p :: l → s.relayOn = true → s.authRoom p = true →
    p.epoch = s.heat.liveE → Completes (.relayPdu true r) s fun t => t.relay.inq = l ∧ Counted s t pgRelay R.DROP_PARITY) ∧
  (∀ (s : State) (c : RelayCopy), s.quiet = true → s.relay.waiting = [⟨c, none⟩] → c.kind = 1 → c.port < 12 → c.msg.id < 64 → c.deadline = none →
    Completes .authCeilingCommitted s fun t => t.relay.waiting = [] ∧ t.linBytes c.port c.msg.id = padTo (c.msg.data.take 8) 8 ∧ Counted s t pgRelay
    R.COPIES) ∧
  (∀ (b : Bool) (r : Option (Fin 16)) (s t : State), ∀ cmd ∈ ([.relayPduEnqueue, .relayPdu b r, .authCeilingCommitted] : List Instr), s.quiet = true
    → exec cmd s = .next t → t.mode = s.mode ∧ t.boot = s.boot ∧ t.power = s.power ∧ t.heat = s.heat ∧ t.slots = s.slots ∧ t.wake = s.wake ∧ t.test
    = s.test ∧ t.log = s.log ∧ t.time = s.time ∧ t.eth = s.eth)

/-- A monitor that is due and whose record asks for no send shows that it timed out, with one expiry more; the builder of a stream whose flush is due,
  with a message none of which has a deadline, leaves one frame for CLASSIFY from source 29 and takes the next sequence number; RELAY takes the
  oldest frame of the receive streams: one with the header of its stream counts as a frame of the stream, one with another drops whole, counted in
  DROP_ACF. These steps of the engine leave unchanged: the modes, the boot, the power, the heats, the tables, the wake logic, self-test, the
  logbook, the time subsystem, the Ethernet ports. Model's choices: The bytes of an ACF message are those of log entry 51; what an expired monitor
  sends is log entry 52. (R297; R300; R301; R302.) -/
def Obligations.RelayMonitorsAndStreams : Prop :=
  (∀ (s : State) (k : Fin 4096) (e : Entry) (x : Monitor), s.quiet = true → s.monitorDue k.val = true → s.tmon k.val = some e → tmAction e = 0 →
    mget s.relay.monitors k.val = some x → Completes (.monitorExpiry k) s fun t => mget t.relay.monitors k.val = some { x with out := true, expiries
    := (x.expiries + 1) % 2 ^ 32 } ∧ Counted s t pgRelay R.SIG_EXPIRIES) ∧
  (∀ (s : State) (k : Fin 64) (b : Builder) (e : Entry), s.quiet = true → s.relayOn = true → s.due (.acf k.val) = true → s.up 8 = true → mget
    s.relay.builders k.val = some b → b.msgs ≠ [] → (∀ m ∈ b.msgs, m.deadline = none) → s.pairGet pgAcf k.val s.heat.liveE = some e → Completes
    (.acfFlush k) s fun t => (t.fwd.classQ.map (·.src)) = (s.fwd.classQ.map (·.src)) ++ [29] ∧ mget t.relay.builders k.val = none ∧ mget
    t.relay.seqs k.val = some (((mget s.relay.seqs k.val).getD 0 + 1) % 256)) ∧
  (∀ (s : State) (k : Nat) (f : Frame) (l : List (Nat × Frame)) (e : Entry), s.quiet = true → s.fwd.acfIn = (k, f) :: l → s.relayOn = true →
    s.pairGet pgAcf k f.epoch = some e → byteAt (f.bytes.drop (s.acfRest.parse f).pay) 0 = (if acTscf e = true then 5 else 0x82) → byteAt
    (f.bytes.drop (s.acfRest.parse f).pay) 1 / 16 % 8 = 0 → Completes .acfDeencap s fun t => t.fwd.acfIn = l ∧ mget t.relay.frames k = some (((mget
    s.relay.frames k).getD 0 + 1) % 2 ^ 32)) ∧
  (∀ (s : State) (k : Nat) (f : Frame) (l : List (Nat × Frame)) (e : Entry), s.quiet = true → s.fwd.acfIn = (k, f) :: l → s.relayOn = true →
    s.pairGet pgAcf k f.epoch = some e → byteAt (f.bytes.drop (s.acfRest.parse f).pay) 0 ≠ (if acTscf e = true then 5 else 0x82) → Completes
    .acfDeencap s fun t => t.fwd.acfIn = l ∧ t.relay = s.relay ∧ Counted s t pgRelay R.DROP_ACF) ∧
  (∀ (k : Fin 4096) (j : Fin 64) (s t : State), ∀ cmd ∈ ([.monitorExpiry k, .acfFlush j, .acfDeencap] : List Instr), s.quiet = true → exec cmd s =
    .next t → t.mode = s.mode ∧ t.boot = s.boot ∧ t.power = s.power ∧ t.heat = s.heat ∧ t.slots = s.slots ∧ t.wake = s.wake ∧ t.test = s.test ∧
    t.log = s.log ∧ t.time = s.time ∧ t.eth = s.eth)

/-- n reference cycles add n times 40 ns to TL and n times its addend to each domain; SET with nanoseconds below one second sets its domain to SEC and
  NS and makes it valid, ADJ moves it by the signed nanoseconds, and each counts a step; RATE is written only where no source owns it; a read of a
  FRAC word latches its counter. Writes that set, step or steer a counter leave unchanged: the boot, the power, the tables, the wake logic,
  self-test, the keys, the rings, the LIN channels, the relay engine. Model's choices: That the counters advance with TIME_FANOUT_UPDATE is the
  choice of log entry 1, the vote over TL that of log entry 163. (R310; R311; R312; R313; R314; R315.) -/
def Obligations.CountersRunAndStep : Prop :=
  (∀ (s : State) (n : Nat), s.quiet = true → s.released = true → Completes (.timeFanoutUpdate n []) s fun t => t.time.tl = s.time.tl + n * (40 *
    nsUnit) ∧ t.time.t0 = s.time.t0 + n * s.addend 0 ∧ t.time.t1 = s.time.t1 + n * s.addend 1 ∧ t.time.t2 = s.time.t2 + n * s.addend 2 ∧ t.time.t3 =
    s.time.t3 + n * s.addend 3 ∧ t.time.off = []) ∧
  (∀ (s : State) (m : Master) (k : Fin 4), s.quiet = true → s.writable m (pgDom k.val) 0x07C = true → (s.rd (pgDom k.val) R.SET_NS.off).toNat ≤
    999999999 → Completes (.timeSet m k) s fun t => t.clock k.val = timeOf (s.fld (pgDom k.val) R.SET_SEC_LO + s.fld (pgDom k.val) R.SET_SEC_HI * 2
    ^ 32) (s.rd (pgDom k.val) R.SET_NS.off).toNat 0 ∧ t.domainValid k.val = true ∧ Counted s t (pgDom k.val) R.STEP_CNT) ∧
  (∀ (s : State) (m : Master) (k : Fin 4), s.quiet = true → s.writable m (pgDom k.val) 0x07C = true → 0 ≤ (s.clock k.val : Int) + signed (s.rd
    (pgDom k.val) R.SET_NS.off).toNat 32 * (nsUnit : Nat) → (s.clock k.val : Int) + signed (s.rd (pgDom k.val) R.SET_NS.off).toNat 32 * (nsUnit :
    Nat) < (secUnit * 2 ^ 48 : Nat) → Completes (.timeAdj m k) s fun t => (t.clock k.val : Int) = (s.clock k.val : Int) + signed (s.rd (pgDom k.val)
    R.SET_NS.off).toNat 32 * (nsUnit : Nat) ∧ Counted s t (pgDom k.val) R.STEP_CNT) ∧
  (∀ (s : State) (m : Master) (k : Fin 4) (v : Word), s.quiet = true → s.writable m (pgDom k.val) R.DOM_RATE.off = true → s.fld (pgDom k.val)
    R.DOM_CFG_SRC = 0 → Completes (.domRateWrite m k v) s fun t => t.rd (pgDom k.val) R.DOM_RATE.off = v) ∧
  (∀ (s : State) (m : Master) (k : Fin 4) (v : Word), s.quiet = true → s.writable m (pgDom k.val) R.DOM_RATE.off = true → s.fld (pgDom k.val)
    R.DOM_CFG_SRC ≠ 0 → Completes (.domRateWrite m k v) s fun t => t.rd (pgDom k.val) R.DOM_RATE.off = s.rd (pgDom k.val) R.DOM_RATE.off ∧ t.fld
    (pgDom k.val) R.ERR_COUNT ≠ 0) ∧
  (∀ (s : State) (m : Master) (g : Fin 5), s.quiet = true → s.readable m (if g.val < 4 then pgDom g.val else pgTime) (if g.val < 4 then 0x060 else
    0x040) = true → Completes (.timeFracRead m g) s fun t => t.latched g.val (Master.num m) = s.clock g.val ∧ t.rdata = some (BitVec.ofNat 32
    (timeFrac (s.clock g.val)))) ∧
  (∀ (m : Master) (k : Fin 4) (v : Word) (s t : State), ∀ cmd ∈ ([.timeSet m k, .timeAdj m k, .domRateWrite m k v, .hostOfsWrite m k v] : List
    Instr), s.quiet = true → exec cmd s = .next t → t.boot = s.boot ∧ t.power = s.power ∧ t.slots = s.slots ∧ t.wake = s.wake ∧ t.test = s.test ∧
    t.key = s.key ∧ t.rings = s.rings ∧ t.lin = s.lin ∧ t.relay = s.relay)

/-- A sample written by the host to a free servo counts and starts acquisition; HOLD_TO without a sample leads from ACQUIRING or LOCKED to HOLDOVER; a
  domain whose two counters differ by more than 2 ns becomes invalid; TL of whose three counters two agree is repaired and counted, counter 0 taking
  the value of counter 1 where it is the odd one; with none that agree it is split, which is a FAULT_N condition. Model's choices: Rounding is that
  of log entry 58. (R316; R317; R318; R320.) -/
def Obligations.ServoAndIntegrity : Prop :=
  (∀ (s : State) (m : Master) (k : Fin 4) (v : Word), s.quiet = true → s.writable m (pgDom k.val) R.HOST_OFS.off = true → s.fld (pgDom k.val)
    R.DOM_CFG_SRC = 2 → s.servoState k.val = 0 → mget s.time.dual k.val = none → (s.servo k.val).last = none → Completes (.hostOfsWrite m k v) s fun
    t => Counted s t (pgDom k.val) R.SAMPLES ∧ t.servoState k.val = 1 ∧ t.running (.holdover k.val) = true) ∧
  (∀ (s : State) (k : Fin 4), s.quiet = true → s.due (.holdover k.val) = true → (s.servoState k.val = 1 ∨ s.servoState k.val = 2) → Completes
    (.servoHoldover k) s fun t => t.servoState k.val = 3 ∧ t.running (.holdover k.val) = false) ∧
  (∀ (s : State) (k : Fin 4) (d : Int), s.quiet = true → s.released = true → nsT 2 < d.natAbs → Completes (.dualCounterCheck [(k, d)] (0, 0)) s fun
    t => t.domainValid k.val = false ∧ Counted s t pgTime R.DUAL_INVALID) ∧
  (∀ (s : State) (a b : Int), s.quiet = true → s.released = true → a.natAbs ≤ nsT 2 → nsT 2 < b.natAbs → nsT 2 < (a - b).natAbs → Completes
    (.dualCounterCheck [] (a, b)) s fun t => Counted s t pgTime R.TL_REPAIR ∧ t.flag pgTime R.TIME_STAT_TL_SPLIT = false ∧ t.time.tl = s.time.tl ∧
    t.time.tlOff = (a, 0)) ∧
  (∀ (s : State) (a b : Int), s.quiet = true → s.released = true → nsT 2 < a.natAbs → nsT 2 < b.natAbs → (a - b).natAbs ≤ nsT 2 → Completes
    (.dualCounterCheck [] (a, b)) s fun t => Counted s t pgTime R.TL_REPAIR ∧ t.flag pgTime R.TIME_STAT_TL_SPLIT = false ∧ t.time.tl = moved
    s.time.tl a) ∧
  (∀ (s : State) (a b : Int), s.quiet = true → s.released = true → nsT 2 < a.natAbs → nsT 2 < b.natAbs → nsT 2 < (a - b).natAbs → Completes
    (.dualCounterCheck [] (a, b)) s fun t => t.fault.tlSplit = true ∧ t.flag pgTime R.TIME_STAT_TL_SPLIT = true ∧ t.fault.pin = true)

/-- A due Pdelay_Req asks with the next sequence number; a matching Pdelay_Resp is kept with its receipt time; 10 ms without response end the exchange,
  or an older one still open, as bad; a Pdelay_Req is answered to its source; a two-step Sync at the slave port waits for its Follow_Up, whose time
  and correction are kept with it; a master port of a domain with a source sends Syncs; an Announce that the Coach decides sets GM and asCapable.
  Requests, Sync messages sent and Announce messages leave unchanged: the modes, the boot, the power, the heats, the tables, the wake logic,
  self-test, the logbook, the keys, the CAN channels, the LIN channels, the relay engine. Requests and Sync messages sent leave unchanged: the
  rings. Model's choices: The messages are those of log entry 54, their lane that of log entry 53, GM that of log entry 57, rounding that of log
  entry 58. (R328; R329; R330; R331; R332.) -/
def Obligations.GptpMessagesTaken : Prop :=
  (∀ (s : State) (port : Fin 24), s.quiet = true → s.ptpOn port.val = true → s.running (.pdelay port.val) = false → (s.ptpPort port.val).asked =
    false → Completes (.pdelayReqSend port) s fun t => (t.ptpPort port.val).asked = true ∧ (t.ptpPort port.val).seq = ((s.ptpPort port.val).seq + 1)
    % 2 ^ 16 ∧ t.running (.pdelayResp port.val) = true) ∧
  (∀ (s : State) (port : Fin 24) (msg : PtpMsg), s.quiet = true → s.ptpHears port.val = true → s.answers port.val msg = true → msg.kind =
    .pdelayResp → s.ptpService port.val = (msg.sdo.toNat, msg.domain.toNat) → Completes (.pdelayRespReceive port msg) s fun t => (t.ptpPort
    port.val).resp = some (ptpTime16 msg, (s.rxStamp port.val).tl)) ∧
  (∀ (s : State) (port : Fin 24), s.quiet = true → s.due (.pdelayResp port.val) = true → s.due (exchangeTmr port.val true) = false → Completes
    (.pdelayTimeout port) s fun t => (t.ptpPort port.val).asked = false ∧ (t.ptpPort port.val).bad = (s.ptpPort port.val).bad + 1 ∧ (3 ≤ (s.ptpPort
    port.val).bad + 1 → t.flag pgPtp (R.PTP_PSTAT_PDELAY_OK port.val) = false)) ∧
  (∀ (s : State) (port : Fin 24), s.quiet = true → s.due (.pdelayResp port.val) = false → s.due (exchangeTmr port.val true) = true → Completes
    (.pdelayTimeout port) s fun t => (t.ptpPort port.val).older = none ∧ (t.ptpPort port.val).asked = (s.ptpPort port.val).asked ∧ (t.ptpPort
    port.val).bad = (s.ptpPort port.val).bad + 1) ∧
  (∀ (s : State) (port : Fin 24) (msg : PtpMsg), s.quiet = true → s.ptpHears port.val = true → Completes (.pdelayReqReceive port msg) s fun t =>
    (t.ptpPort port.val).answer = some (msg.seq.toNat + msg.sdo.toNat * 2 ^ 16 + msg.domain.toNat * 2 ^ 20, msg.source.toNat, (s.rxStamp
    port.val).tl)) ∧
  (∀ (s : State) (port : Fin 24) (msg : PtpMsg) (k : Nat), s.quiet = true → s.ptpHears port.val = true → s.syncDomain port.val msg = some k → k < 4
    → msg.twoStep = true → Completes (.syncReceive port msg) s fun t => (t.gptp k).sync = some (port.val, msg.seq.toNat, s.rxStamp port.val,
    msg.correction)) ∧
  (∀ (s : State) (port : Fin 24) (msg : PtpMsg) (k : Nat) (st : Stamps) (cf : Int), s.quiet = true → s.ptpHears port.val = true → s.syncDomain
    port.val msg = some k → k < 4 → (s.gptp k).sync = some (port.val, msg.seq.toNat, st, cf) → s.time.tl ≤ st.tl + s.holdTo k → Completes
    (.followUpReceive port msg) s fun t => (t.gptp k).sync = none ∧ (t.gptp k).recv.map (fun r => (r.pot, r.cf)) = some (timeOf msg.sec.toNat
    msg.ns.toNat 0, cf + msg.correction)) ∧
  (∀ (s : State) (port : Fin 24) (k : Fin 4), s.quiet = true → s.ptpOn port.val = true → s.ptpRole port.val k.val = 2 → s.syncSource k.val = true →
    s.running (.sync (port.val * 4 + k.val)) = false → Completes (.syncSend port k) s fun t => (t.gptp k.val).seq = ((s.gptp k.val).seq + 1) % 2 ^
    16 ∧ t.running (.sync (port.val * 4 + k.val)) = true) ∧
  (∀ (s : State) (port : Fin 24) (msg : PtpMsg) (r : BmcaResult) (k : Nat), s.quiet = true → s.ptpHears port.val = true → ((List.range 4).find? fun
    j => s.fld (pgDom j) R.DOM_CFG_DOMAIN_NUM == msg.domain.toNat && s.flag (pgDom j) R.DOM_CFG_BMCA_EN) = some k → k < 4 → Completes
    (.announceReceive port msg (some r)) s fun t => t.flag (pgDom k) R.DOM_STAT_GM = r.gm ∧ t.flag pgPtp (R.PTP_PSTAT_AS_CAPABLE port.val) =
    r.asCapable) ∧
  (∀ (port : Fin 24) (k : Fin 4) (msg : PtpMsg) (d : Option BmcaResult) (s t : State), ∀ cmd ∈ ([.pdelayReqSend port, .pdelayReqReceive port msg,
    .syncSend port k, .announceReceive port msg d] : List Instr), s.quiet = true → exec cmd s = .next t → t.mode = s.mode ∧ t.boot = s.boot ∧
    t.power = s.power ∧ t.heat = s.heat ∧ t.slots = s.slots ∧ t.wake = s.wake ∧ t.test = s.test ∧ t.log = s.log ∧ t.key = s.key ∧ t.can = s.can ∧
    t.lin = s.lin ∧ t.relay = s.relay) ∧
  (∀ (port : Fin 24) (k : Fin 4) (s t : State), ∀ cmd ∈ ([.pdelayReqSend port, .syncSend port k] : List Instr), s.quiet = true → exec cmd s = .next
    t → t.rings = s.rings)

/-- A pistol that is due starts its pulse and counts it, and a pulse that has lasted its width ends; an enabled capture input stores a matching edge,
  and a read of CAP_TS_NS takes the oldest; a master slot that is due advances its sequence counter, a slave slot keeps a SYNC and takes the FUP
  that follows it; a window that contains the present time lets its buffer compete; a close ends the windows whose time is over, and all of them on
  a channel without a schedule, and one that ends while its buffer still holds a frame is counted in TT_MISSED. A pop of a stamp, a period of a slot
  and a window that opens leave unchanged: the modes, the boot, the power, the heats, the tables, the wake logic, self-test, the logbook, the
  Ethernet ports, the pipeline, the keys, the rings, the LIN channels, the relay engine. Model's choices: PST_COUNT is that of log entry 56, what a
  synchronisation slot reads that of log entry 59. (R333; R337; R339; R341.) -/
def Obligations.PistolsCapturesAndCanTime : Prop :=
  (∀ (s : State) (p : Fin 16), s.quiet = true → s.pistolDue p.val = true → Completes (.pistolEdge p) s fun t => t.flag pgPistol (R.PST_STAT_LEVEL
    p.val) = true ∧ Counted s t pgPistol (R.PST_STAT_PULSES p.val)) ∧
  (∀ (s : State) (p : Fin 16), s.quiet = true → s.pulseDue p.val = true → Completes (.pistolPulseEnd p) s fun t => t.flag pgPistol (R.PST_STAT_LEVEL
    p.val) = false ∧ (t.pistol p.val).until_ = none) ∧
  (∀ (s : State) (i : Fin 8), s.quiet = true → s.released = true → s.mode.power ≠ .rest → s.clocked 2 = true → s.flag pgCapture (R.CAP_CFG_EN i.val)
    = true → s.fld pgCapture (R.CAP_CFG_EDGE i.val) = 1 → (s.capture_ i.val).fifo.length < 16 → (s.capture_ i.val).last = none → Completes
    (.captureEdge i false) s fun t => (t.capture_ i.val).fifo.map (fun e => e.2.1) = (s.capture_ i.val).fifo.map (fun e => e.2.1) ++ [false]) ∧
  (∀ (s : State) (m : Master) (i : Fin 8) (q : Nat) (r v : Bool) (l : List (Nat × Bool × Bool)), s.quiet = true → s.readable m pgCapture (0x044 + 32
    * i.val) = true → (s.capture_ i.val).fifo = (q, r, v) :: l → Completes (.capTsPop m i) s fun t => (t.capture_ i.val).fifo = l ∧ t.rdata = some
    (BitVec.ofNat 32 (q % secQ / 4 + b2n r * 2 ^ 30 + 2 ^ 31)) ∧ t.fld pgCapture (R.CAP_TS_SEC i.val) = q / secQ % 2 ^ 32) ∧
  (∀ (s : State) (i : Fin 8), s.quiet = true → s.ctsDue i.val = true → Completes (.ctsSyncPeriod i) s fun t => (t.ctsSlot i.val).sc = ((s.ctsSlot
    i.val).sc + 1) % 16 ∧ (t.ctsSlot i.val).next.isSome = true) ∧
  (∀ (s : State) (i : Fin 8) (w : CanWire) (n : Nat), s.quiet = true → s.ctsHears i.val = true → s.ctsMatches i.val (s.ctsChannel i.val)
    (CanWire.frame w) 0x10 = true → Completes (.ctsSyncReceive i w n) s fun t => (t.ctsSlot i.val).sync.map (fun x => (x.1, x.2.2)) = some (byteAt
    w.data 2 % 16, beAt w.data 4 4)) ∧
  (∀ (s : State) (i : Fin 8) (w : CanWire) (st : Stamps) (n : Nat), s.quiet = true → s.ctsHears i.val = true → s.ctsMatches i.val (s.ctsChannel
    i.val) (CanWire.frame w) 0x18 = true → (s.ctsSlot i.val).sync = some (byteAt w.data 2 % 16, st, n) → s.time.tl ≤ st.tl + msT 1 → Completes
    (.ctsFupReceive i w) s fun t => (t.ctsSlot i.val).sync = none) ∧
  (∀ (s : State) (c : Fin 48) (j : Fin 16) (e : Nat), s.quiet = true → s.ttOpenNow c.val j.val = some e → Completes (.ttWindowOpen c j) s fun t =>
    mget (t.chan c.val).windows (j.val * 4 + ttTxb (s.ttEntryAt c.val j.val)) = some e) ∧
  (∀ (s : State) (c : Fin 48) (e : Entry), s.quiet = true → s.ttSchedule c.val = some e → Completes (.ttWindowClose c) s fun t => (t.chan
    c.val).windows = (s.chan c.val).windows.filter (fun w => decide (s.nowNs (ttDomain e) < w.2))) ∧
  (∀ (s : State) (c : Fin 48) (e : Entry) (w : Nat × Nat), s.quiet = true → s.ttSchedule c.val = some e → (s.chan c.val).windows = [w] → w.2 ≤
    s.nowNs (ttDomain e) → (mget (s.chan c.val).bufs (w.1 % 4)).isSome = true → Completes (.ttWindowClose c) s fun t => (t.chan c.val).windows = []
    ∧ (t.chan c.val).bufs = (s.chan c.val).bufs ∧ Counted s t pgTt (R.TT_MISSED c.val)) ∧
  (∀ (s : State) (c : Fin 48), s.quiet = true → s.ttSchedule c.val = none → Completes (.ttWindowClose c) s fun t => (t.chan c.val).windows = []) ∧
  (∀ (m : Master) (i : Fin 8) (c : Fin 48) (j : Fin 16) (s t : State), ∀ cmd ∈ ([.capTsPop m i, .ctsSyncPeriod i, .ttWindowOpen c j] : List Instr),
    s.quiet = true → exec cmd s = .next t → t.mode = s.mode ∧ t.boot = s.boot ∧ t.power = s.power ∧ t.heat = s.heat ∧ t.slots = s.slots ∧ t.wake =
    s.wake ∧ t.test = s.test ∧ t.log = s.log ∧ t.eth = s.eth ∧ t.fwd = s.fwd ∧ t.key = s.key ∧ t.rings = s.rings ∧ t.lin = s.lin ∧ t.relay =
    s.relay)

/-- EN going to 1 starts a ring at HEAD and TAIL 0; EN going to 0 leaves it inactive and empty; TAIL below the size is taken; a good receive descriptor
  posted is read within MRRS and joins those fetched, a bad one stops the ring; an outbound read error stops it with DMA_READ_ERR; a Function Level
  Reset and a hot reset leave the rings of their functions inactive. Writes of EN and TAIL and a Function Level Reset leave unchanged: the modes,
  the boot, the power, the heats, the tables, the wake logic, self-test, the logbook, the time subsystem, the Ethernet ports, the keys, the CAN
  channels, the LIN channels, the relay engine. Model's choices: A Function Level Reset is read as in log entry 86. (R378; R380; R381; R382; R383;
  R389.) -/
def Obligations.RingsControlled : Prop :=
  (∀ (s : State) (m : Master) (fn : Fin 11) (r : Fin 32) (v : Word), s.quiet = true → ringExists fn.val r.val = true → s.writable m (fnPage fn.val)
    (ringBlock r.val + 0x14) = true → s.flag (fnPage fn.val) (R.RING_CFG_EN r.val) = false → getBits v 14 12 < 5 → Completes (.ringEnable m fn r v)
    s fun t => t.ringActive fn.val r.val = true ∧ t.ringHead fn.val r.val = 0 ∧ t.ringTail fn.val r.val = 0) ∧
  (∀ (s : State) (m : Master) (fn : Fin 11) (r : Fin 32) (v : Word), s.quiet = true → ringExists fn.val r.val = true → s.writable m (fnPage fn.val)
    (ringBlock r.val + 0x14) = true → s.flag (fnPage fn.val) (R.RING_CFG_EN r.val) = true → getBits v 14 12 < 5 → (s.ring fn.val r.val).filled = []
    → Completes (.ringDisable m fn r v) s fun t => t.ringActive fn.val r.val = false ∧ (t.ring fn.val r.val).queue = [] ∧ (t.ring fn.val r.val).rx =
    [] ∧ (t.ring fn.val r.val).tx = []) ∧
  (∀ (s : State) (m : Master) (fn : Fin 11) (r : Fin 32) (v : Word), s.quiet = true → ringExists fn.val r.val = true → s.writable m (fnPage fn.val)
    (ringBlock r.val + 0x0C) = true → getBits v 11 0 < s.ringSize fn.val r.val → Completes (.ringTailWrite m fn r v) s fun t => t.ringTail fn.val
    r.val = getBits v 11 0) ∧
  (∀ (s : State) (fn : Fin 11) (r : Fin 32) (e : BitVec 256), s.quiet = true → s.ringRuns fn.val r.val = true → r.val < 16 → s.posted fn.val r.val ≠
    0 → (s.ring fn.val r.val).rx.length < 8 → rxDescBad (rxDesc (s.ring fn.val r.val).fetch e) = false → Completes (.descFetch fn r [e]) s fun t =>
    (t.ring fn.val r.val).rx = (s.ring fn.val r.val).rx ++ [rxDesc (s.ring fn.val r.val).fetch e] ∧ ∀ o ∈ (s.descReads fn.val r.val 1).outbox, o ∈
    t.outbox) ∧
  (∀ (s : State) (fn : Fin 11) (r : Fin 32) (e : BitVec 256), s.quiet = true → s.ringRuns fn.val r.val = true → r.val < 16 → s.posted fn.val r.val ≠
    0 → (s.ring fn.val r.val).rx.length < 8 → rxDescBad (rxDesc (s.ring fn.val r.val).fetch e) = true → Completes (.descFetch fn r [e]) s fun t =>
    t.ringActive fn.val r.val = false ∧ t.flag (fnPage fn.val) (R.RING_STAT_STOPPED r.val) = true) ∧
  (∀ (s : State) (fn : Fin 11) (r : Fin 32), s.quiet = true → ringExists fn.val r.val = true → s.on 4 = true → s.ringActive fn.val r.val = true →
    Completes (.outboundReadError fn r) s fun t => t.ringActive fn.val r.val = false ∧ t.flag (fnPage fn.val) (R.RING_STAT_STOPPED r.val) = true ∧
    t.fld (fnPage fn.val) (R.RING_STAT_CODE r.val) = Code.DMA_READ_ERR) ∧
  (∀ (s : State) (fn : Fin 11), s.quiet = true → s.on 4 = true → fn.val < 10 → Completes (.functionLevelReset fn) s fun t => ∀ r < 32, t.ringActive
    fn.val r = false ∧ (t.ring fn.val r).queue = []) ∧
  (∀ (s : State) (k : Fin 2), s.quiet = true → s.on 4 = true → Completes (.pcieHotReset (.hotReset k)) s fun t => ∀ f < 11, ∀ r < 32, (f = 10 ↔
    k.val = 1) → t.ringActive f r = false) ∧
  (∀ (m : Master) (fn : Fin 11) (r : Fin 32) (v : Word) (s t : State), ∀ cmd ∈ ([.ringEnable m fn r v, .ringDisable m fn r v, .ringTailWrite m fn r
    v, .functionLevelReset fn] : List Instr), s.quiet = true → exec cmd s = .next t → t.mode = s.mode ∧ t.boot = s.boot ∧ t.power = s.power ∧ t.heat
    = s.heat ∧ t.slots = s.slots ∧ t.wake = s.wake ∧ t.test = s.test ∧ t.log = s.log ∧ t.time = s.time ∧ t.eth = s.eth ∧ t.key = s.key ∧ t.can =
    s.can ∧ t.lin = s.lin ∧ t.relay = s.relay)

/-- A receive copy within its deadline that the next descriptor holds is written there in the TLPs of R377, leaves the queue and counts in RING_DONE;
  one that waited without a descriptor for RING_WAIT is dropped and counted in RING_DROP, and keeps its place where a descriptor has been posted;
  the next whole frame of the transmit rings enters CLASSIFY padded to 60 bytes; the oldest frame with a known outcome is written back and counts in
  RING_DONE; a stamp missing for 100 ms makes the outcome TS_LOST; MOD_TIME raises the ring event. Transmit frames that enter the device leave
  unchanged: the modes, the boot, the power, the heats, the tables, the wake logic, self-test, the logbook, the time subsystem, the Ethernet ports,
  the keys, the CAN channels, the LIN channels. Model's choices: VID, PRIO and the request for a stamp are read as in log entry 123; reads of the
  host are those of log entry 172. (R384; R385; R386; R387; R388.) -/
def Obligations.RingsMoveData : Prop :=
  (∀ (s : State) (fn : Fin 11) (r : Fin 32) (x : RxItem) (l : List RxItem) (d : RxDesc) (ds : List RxDesc), s.quiet = true → s.ringRuns fn.val r.val
    = true → r.val < 16 → (s.ring fn.val r.val).queue = x :: l → (s.ring fn.val r.val).rx = d :: ds → (s.ring fn.val r.val).filled = [] → (s.ring
    fn.val r.val).written = 0 → x.packet = none → s.past x.deadline = false → x.bytes ≠ [] → x.bytes.length ≤ d.len → Completes (.rxCopyWrite fn r)
    s fun t => (t.ring fn.val r.val).queue = l ∧ (∀ p ∈ tlps (s.linkMps fn.val) x.bytes.length d.addr x.bytes, Out.dma fn.val p.1 p.2 ∈ t.outbox) ∧
    Counted s t (fnPage fn.val) (R.RING_DONE r.val)) ∧
  (∀ (s : State) (fn : Fin 11) (r : Fin 32) (x : RxItem) (l : List RxItem), s.quiet = true → s.due (.ringWait (ringKey fn.val r.val)) = true →
    (s.ring fn.val r.val).queue = x :: l → (s.ring fn.val r.val).filled = [] → x.packet = none → (s.ring fn.val r.val).rx = [] → s.posted fn.val
    r.val = 0 → Completes (.ringWaitExpiry fn r) s fun t => (t.ring fn.val r.val).queue = l ∧ Counted s t (fnPage fn.val) (R.RING_DROP r.val)) ∧
  (∀ (s : State) (fn : Fin 11) (r : Fin 32), s.quiet = true → s.due (.ringWait (ringKey fn.val r.val)) = true → s.posted fn.val r.val ≠ 0 →
    Completes (.ringWaitExpiry fn r) s fun t => (t.ring fn.val r.val).queue = (s.ring fn.val r.val).queue ∧ t.flag (fnPage fn.val)
    (R.RING_STAT_WAITING r.val) = false ∧ t.running (.ringWait (ringKey fn.val r.val)) = false) ∧
  (∀ (s : State) (data : List Byte) (fn r : Nat) (h : TxDesc), s.quiet = true → s.on 4 = true → s.clocked 0 = true → s.flag 0x020 R.BRG_STAT_LINK_UP
    = true → s.txNext = some (fn, r) → (wholeFrame (s.ring fn r).fetched).head? = some h → h.pduForm = false → s.running_ = true → s.mode.rest =
    .awake → s.up 8 = true → Completes (.txFrameEnter data) s fun t => t.fwd.classQ.map (fun f => (f.bytes, f.src)) = s.fwd.classQ.map (fun f =>
    (f.bytes, f.src)) ++ [(padTo (padTo (data.take ((wholeFrame (s.ring fn r).fetched).map (·.len)).sum) ((wholeFrame (s.ring fn r).fetched).map
    (·.len)).sum) 60, 28)] ∧ (t.ring fn r).waits.length = (s.ring fn r).waits.length + 1) ∧
  (∀ (s : State) (fn : Fin 11) (r : Fin 32) (w : TxWait) (l : List TxWait), s.quiet = true → s.on 4 = true → s.clocked 0 = true → ringExists fn.val
    r.val = true → 16 ≤ r.val → (s.ring fn.val r.val).waits = w :: l → w.known = true → Completes (.txWriteback fn r) s fun t => (t.ring fn.val
    r.val).waits = l ∧ Counted s t (fnPage fn.val) (R.RING_DONE r.val)) ∧
  (∀ (s : State) (fn : Fin 11) (r : Fin 32) (w : TxWait) (l : List TxWait), s.quiet = true → ringExists fn.val r.val = true → 16 ≤ r.val → (s.ring
    fn.val r.val).waits = w :: l → w.ts = true → w.known = false → w.since + msT 100 ≤ s.time.tl → Completes (.tsLostTimeout fn r) s fun t =>
    (t.ring fn.val r.val).waits = { w with known := true, status := Code.TS_LOST, stamp := none } :: l) ∧
  (∀ (s : State) (fn : Fin 11) (r : Fin 32), s.quiet = true → ringExists fn.val r.val = true → s.due (.ringMod (ringKey fn.val r.val)) = true →
    Completes (.ringIrqModTime fn r) s fun t => (t.ring fn.val r.val).unsignalled = 0 ∧ (t.rd (fnPage fn.val) R.RING_IRQ_RAW.off).getLsbD r.val =
    true ∧ t.running (.ringMod (ringKey fn.val r.val)) = false) ∧
  (∀ (l : List Byte) (s t : State), ∀ cmd ∈ ([.txFrameEnter l] : List Instr), s.quiet = true → exec cmd s = .next t → t.mode = s.mode ∧ t.boot =
    s.boot ∧ t.power = s.power ∧ t.heat = s.heat ∧ t.slots = s.slots ∧ t.wake = s.wake ∧ t.test = s.test ∧ t.log = s.log ∧ t.time = s.time ∧ t.eth =
    s.eth ∧ t.key = s.key ∧ t.can = s.can ∧ t.lin = s.lin)

/-- M0 and M1 fill their own load buffer with key and salt; an ATTR write with a loaded key commits a volatile slot with the next generation and empties
  the buffer; DERIVE, GENERATE and INVALIDATE of a volatile slot change it at once; an orphaned slot that no operation in progress names is emptied,
  with the next generation and counts in KEY_WIPES. The commands of masters leave unchanged: the modes, the boot, the power, the heats, the tables,
  the wake logic, self-test, the logbook, the time subsystem, the Ethernet ports, the pipeline, the rings, the CAN channels, the LIN channels, the
  relay engine. Model's choices: The derivation is an uninterpreted function and the bits generated are free values (log entry 30); the three rows
  of the key port are told apart as in log entry 115. (R401; R402; R403; R404; R405; R406; R407.) -/
def Obligations.KeySlotsChange : Prop :=
  (∀ (s : State) (m : Master), s.quiet = true → (m = .m0 ∨ m = .m1) → s.writable m pgKeySlot 0x040 = true → s.flag pgKeySlot R.TBL_STAT_BUSY = false
    → (s.fld pgKeySlot R.TBL_IDX) < 1024 → 4 ≤ bits (s.fld pgKeySlot R.TBL_IDX) 7 0 → bits (s.fld pgKeySlot R.TBL_IDX) 9 8 = 1 → Completes (.keyLoad
    m) s fun t => (t.loadBuf (Master.num m)).key = some (keyOfData (s.tblData pgKeySlot))) ∧
  (∀ (s : State) (m : Master), s.quiet = true → (m = .m0 ∨ m = .m1) → s.writable m pgKeySlot 0x040 = true → s.flag pgKeySlot R.TBL_STAT_BUSY = false
    → (s.fld pgKeySlot R.TBL_IDX) < 1024 → 4 ≤ bits (s.fld pgKeySlot R.TBL_IDX) 7 0 → bits (s.fld pgKeySlot R.TBL_IDX) 9 8 = 2 → Completes
    (.saltLoad m) s fun t => (t.loadBuf (Master.num m)).salt = saltOfData (s.tblData pgKeySlot) ∧ (t.loadBuf (Master.num m)).key = (s.loadBuf
    (Master.num m)).key) ∧
  (∀ (s : State) (m : Master) (k : BitVec 256), s.quiet = true → (m = .m0 ∨ m = .m1) → s.writable m pgKeySlot 0x040 = true → s.flag pgKeySlot
    R.TBL_STAT_BUSY = false → (s.fld pgKeySlot R.TBL_IDX) < 1024 → 4 ≤ bits (s.fld pgKeySlot R.TBL_IDX) 7 0 → bits (s.fld pgKeySlot R.TBL_IDX) 7 0 <
    128 → bits (s.fld pgKeySlot R.TBL_IDX) 9 8 = 0 → 1 ≤ eBits (s.tblData pgKeySlot) 3 0 → eBits (s.tblData pgKeySlot) 3 0 ≤ 4 → eBit (s.tblData
    pgKeySlot) 4 = false → (s.loadBuf (Master.num m)).key = some k → Completes (.attrCommit m) s fun t => t.keySlot (bits (s.fld pgKeySlot
    R.TBL_IDX) 7 0) = slotOfAttr (eBits (s.tblData pgKeySlot) 31 0) (eBits (s.tblData pgKeySlot) 47 32) (s.keySlot (bits (s.fld pgKeySlot R.TBL_IDX)
    7 0)) k (s.loadBuf (Master.num m)).salt ∧ t.loadBuf (Master.num m) = LoadBuf.empty) ∧
  (∀ (s : State) (m : Master) (v : Word), s.quiet = true → (m = .m0 ∨ m = .m1) → s.writable m pgKeyCtrl 0x040 = true → 4 ≤ (getBits v 15 8) →
    (getBits v 15 8) < 128 → s.flag pgKeyCtrl R.KEY_STAT_BUSY = false → (bits (s.rd pgKeyCtrl R.KEY_CMD_ATTR.off).toNat 3 0) ≠ 0 → (bits (s.rd
    pgKeyCtrl R.KEY_CMD_ATTR.off).toNat 3 0) ≤ 4 → bit (s.rd pgKeyCtrl R.KEY_CMD_ATTR.off).toNat 4 = false → s.deriveCode (getBits v 23 16)
    (Master.num m) (s.rd pgKeyCtrl R.KEY_CMD_ATTR.off).toNat = 0 → Completes (.keyDerive m v) s fun t => (t.keySlot (getBits v 15 8)).derived = true
    ∧ (t.keySlot (getBits v 15 8)).depth = (s.keySlot (getBits v 23 16)).depth + 1 ∧ (t.keySlot (getBits v 15 8)).gen = (s.keySlot (getBits v 15
    8)).nextGen ∧ (t.keySlot (getBits v 15 8)).key = kdfKey (s.keySlot (getBits v 23 16)).key (s.keyBytesAt 0x060 (s.fld pgKeyCtrl
    R.KEY_CMD_LEN_LABEL_LEN)) (s.keyBytesAt 0x080 (s.fld pgKeyCtrl R.KEY_CMD_LEN_CTX_LEN)) (bits (s.rd pgKeyCtrl R.KEY_CMD_ATTR.off).toNat 3 0)) ∧
  (∀ (s : State) (m : Master) (v : Word), s.quiet = true → (m = .m0 ∨ m = .m1) → s.writable m pgKeyCtrl 0x040 = true → 4 ≤ (getBits v 15 8) →
    (getBits v 15 8) < 128 → s.flag pgKeyCtrl R.KEY_STAT_BUSY = false → (bits (s.rd pgKeyCtrl R.KEY_CMD_ATTR.off).toNat 3 0) ≠ 0 → (bits (s.rd
    pgKeyCtrl R.KEY_CMD_ATTR.off).toNat 3 0) ≤ 4 → bit (s.rd pgKeyCtrl R.KEY_CMD_ATTR.off).toNat 4 = false → s.drbgDown = false → Completes
    (.keyGenerate m v) s fun t => t.keySlot (getBits v 15 8) = slotOfAttr (s.rd pgKeyCtrl R.KEY_CMD_ATTR.off).toNat (s.fld pgKeyCtrl
    R.KEY_CMD_MASTERS) (s.keySlot (getBits v 15 8)) s.random 0 ∧ t.freeIx = s.freeIx + 1) ∧
  (∀ (s : State) (m : Master) (v : Word), s.quiet = true → (m = .m0 ∨ m = .m1) → s.writable m pgKeyCtrl 0x040 = true → 4 ≤ (getBits v 15 8) →
    (getBits v 15 8) < 128 → s.flag pgKeyCtrl R.KEY_STAT_BUSY = false → Completes (.keyInvalidate m v) s fun t => t.keySlot (getBits v 15 8) =
    KeySlot.empty (s.keySlot (getBits v 15 8)).nextGen ∧ t.flag pgKeyCtrl R.KEY_STAT_DONE = true ∧ t.fld pgKeyCtrl R.KEY_STAT_CODE = 0) ∧
  (∀ (s : State) (n : Fin 256), s.quiet = true → s.clocked 1 = true → (s.keySlot n.val).orphaned = true → s.slotInUse n.val = false → Completes
    (.orphanWipe n) s fun t => t.keySlot n.val = KeySlot.empty (s.keySlot n.val).nextGen ∧ Counted s t pgKeyCtrl R.KEY_WIPES) ∧
  (∀ (m : Master) (v : Word) (s t : State), ∀ cmd ∈ ([.keyLoad m, .saltLoad m, .attrCommit m, .keyDerive m v, .keyGenerate m v, .keyInvalidate m v]
    : List Instr), s.quiet = true → exec cmd s = .next t → t.mode = s.mode ∧ t.boot = s.boot ∧ t.power = s.power ∧ t.heat = s.heat ∧ t.slots =
    s.slots ∧ t.wake = s.wake ∧ t.test = s.test ∧ t.log = s.log ∧ t.time = s.time ∧ t.eth = s.eth ∧ t.fwd = s.fwd ∧ t.rings = s.rings ∧ t.can =
    s.can ∧ t.lin = s.lin ∧ t.relay = s.relay)

/-- The record write in progress is made in the bank that does not hold the winning copy, with the next SEQ, and wins, but in a conflict that bank B
  decides; a verification failure with the reserve bank in use ends the write with NVM_FAIL raised, and otherwise brings the reserve bank in; a GO
  that nothing refuses starts a statement, which ends with LEN, DONE and code 0; a health test failure stops the generator until its restart; a read
  of DRBG_OUT gives the next random bits, or 0 while it is down; DEV to PROD, requested by M1 in MAINTAIN, is pending, wipes every slot and begins
  to blow its fuses; the rollback counter rises to the security version. A request for attestation and a read of random bits leave unchanged: the
  modes, the boot, the power, the heats, the tables, the wake logic, self-test, the logbook, the time subsystem, the Ethernet ports, the pipeline,
  the rings, the CAN channels, the LIN channels, the relay engine. Model's choices: Signatures are uninterpreted and random bits are free values
  (log entry 30); what the statement signs is log entry 101, when a record is cut log entry 91, what the reserve bank is filled with log entry 178.
  (R408; R409; R410; R413; R415; R417; R418; R420; R421.) -/
def Obligations.StoreAttestLife : Prop :=
  (∀ (s : State) (w : NvWrite) (l : List NvWrite), s.quiet = true → s.clocked 1 = true → s.bridge.p0.stall = [] → s.bridge.p1.stall = [] →
    s.key.writes = w :: l → w.job = .none → w.pos < 256 → Completes .nvmWriteDone s fun t => t.key.writes = l ∧ t.nvRec (s.nvTarget w.pos).1 w.pos =
    some (NvRec.make s.secret w.pos (s.nvTarget w.pos).2 (s.stored w) nvCommitted) ∧ ((s.winner w.pos).isSome = true ∨ s.goodRec 1 w.pos = none →
    t.winner w.pos = some (s.nvTarget w.pos).1)) ∧
  (∀ (s : State) (w : NvWrite) (l : List NvWrite), s.quiet = true → s.clocked 1 = true → s.bridge.p0.stall = [] → s.bridge.p1.stall = [] →
    s.key.writes = w :: l → s.key.reserveBank.isSome = true → Completes .nvmVerifyFail s fun t => t.key.writes = l ∧ (t.rd pgNvm 0x010).getLsbD 2 =
    true) ∧
  (∀ (s : State) (w : NvWrite) (l : List NvWrite), s.quiet = true → s.clocked 1 = true → s.bridge.p0.stall = [] → s.bridge.p1.stall = [] →
    s.key.writes = w :: l → s.key.reserveBank = none → Completes .nvmVerifyFail s fun t => t.key.reserveBank = some (s.nvTarget w.pos).1 ∧
    t.scratched (0x600 + (s.nvTarget w.pos).1) = true) ∧
  (∀ (s : State) (m : Master) (v : Word), s.quiet = true → (m = .m1 ∨ m = .m2 ∨ m = .m4) → s.writable m pgAttest 0x040 = true → s.attRefusal = 0 →
    Completes (.attGo m v) s fun t => t.flag pgAttest R.ATT_STAT_BUSY = true ∧ t.key.attPayload = some s.attestation) ∧
  (∀ (s : State) (p : List Byte), s.quiet = true → s.clocked 1 = true → s.key.attPayload = some p → s.up 15 = true → s.drbgDown = false → Completes
    .attDone s fun t => t.flag pgAttest R.ATT_STAT_BUSY = false ∧ t.flag pgAttest R.ATT_STAT_DONE = true ∧ t.fld pgAttest R.ATT_STAT_CODE = 0 ∧
    t.key.attPayload = none ∧ t.key.statement = attStatement s.key.uid.toNat p (beBytes (Config.sign384 s.key.aliasKey (attToSign p) s.random).toNat
    96)) ∧
  (∀ (s : State), s.quiet = true → s.clocked 1 = true → s.drbgDown = false → Completes .drbgFail s fun t => t.drbgDown = true ∧ t.flag pgDrbg
    R.DRBG_STAT_FAIL = true ∧ t.running .drbg = true) ∧
  (∀ (s : State), s.quiet = true → s.clocked 1 = true → s.due .drbg = true → Completes (.drbgRestart true) s fun t => t.drbgDown = false ∧ t.running
    .drbg = false) ∧
  (∀ (s : State) (m : Master), s.quiet = true → s.readable m pgDrbg R.DRBG_OUT.off = true → s.drbgDown = false → Completes (.drbgOutRead m) s fun t
    => t.rdata = some (BitVec.ofNat 32 s.random.toNat) ∧ t.freeIx = s.freeIx + 1) ∧
  (∀ (s : State) (m : Master), s.quiet = true → s.readable m pgDrbg R.DRBG_OUT.off = true → s.drbgDown = true → Completes (.drbgOutRead m) s fun t
    => t.rdata = some 0 ∧ t.freeIx = s.freeIx) ∧
  (∀ (s : State), s.quiet = true → s.writable .m1 pgLife 0x040 = true → s.mode.life = .dev → s.fuseMode = true → s.key.lcPending ≤ 2 → s.key.lcRun =
    none → s.key.writes = [] → Completes (.lcReq .m1 0x1C5A0002) s fun t => t.fld pgLife R.LC_STAT_PENDING = 2 ∧ t.key.lcPending = 2 ∧
    t.key.lcRun.map (·.1) = some 2 ∧ t.mode.life = .dev ∧ ∀ e ∈ t.key.slots, e.2.usage = 0) ∧
  (∀ (s : State) (v : Word), s.quiet = true → s.writable .m1 pgLife 0x054 = true → s.fuseMode = true → s.mode.life = .prod → s.key.rollback < s.fld
    0 R.DEV_FW_VER_SECVER → s.fld 0 R.DEV_FW_VER_SECVER ≤ 64 → Completes (.lcRollbackAdvance .m1 v) s fun t => t.key.rollback = s.fld 0
    R.DEV_FW_VER_SECVER ∧ t.fld pgLife R.LC_ROLLBACK = s.fld 0 R.DEV_FW_VER_SECVER) ∧
  (∀ (m : Master) (v : Word) (s t : State), ∀ cmd ∈ ([.attGo m v, .drbgOutRead m] : List Instr), s.quiet = true → exec cmd s = .next t → t.mode =
    s.mode ∧ t.boot = s.boot ∧ t.power = s.power ∧ t.heat = s.heat ∧ t.slots = s.slots ∧ t.wake = s.wake ∧ t.test = s.test ∧ t.log = s.log ∧ t.time
    = s.time ∧ t.eth = s.eth ∧ t.fwd = s.fwd ∧ t.rings = s.rings ∧ t.can = s.can ∧ t.lin = s.lin ∧ t.relay = s.relay)

/-- The lap timer, and START_LAP outside MAINTAIN with power, start a lap that counts in ST_LAP; STOP_LAP ends what runs; TEST_UNIT of a unit that can
  be tested begins its test; in MAINTAIN FULL_BIST and HARD_REPAIR begin, and end with the results of the units and, for a repair, with the soft
  repairs that are not in fuses burnt while there is room, and those kept as soft repairs for which there was none. Model's choices: How a test is
  cut short is log entry 92, what is refused log entry 93, the burning of repairs log entry 95. (R427; R429; R438; R439; R443; R444.) -/
def Obligations.TestCommandsTaken : Prop :=
  (∀ (s : State), s.quiet = true → s.clocked 0 = true → s.due .lap = true → s.flag pgSt R.ST_CFG_LAPS_EN = true → s.lapPeriod ≠ 0 → s.lapMode = true
    → Completes .lapStart s fun t => Counted s t pgSt R.ST_LAP ∧ t.running .lap = true) ∧
  (∀ (s : State) (m : Master), s.quiet = true → s.writable m pgSt 0x044 = true → s.testMaster (Master.num m) = true → (s.mode.service ≠ .maintain ∨
    s.mode.maintPending = true) → s.testPower = true → Completes (.stStartLap m) s fun t => Counted s t pgSt R.ST_LAP) ∧
  (∀ (s : State) (m : Master), s.calm = true → s.writable m pgSt 0x044 = true → s.testMaster (Master.num m) = true → Completes (.stStopLap m) s fun
    t => t.test.op = 0 ∧ t.test.run = none ∧ t.test.todo = []) ∧
  (∀ (s : State) (m : Master) (u : BitVec 16) (x : TestPhase × Nat), s.quiet = true → s.writable m pgSt 0x044 = true → s.testMaster (Master.num m) =
    true → testable u.toNat = true → s.mode.service ≠ .maintain → s.testPower = true → s.testStart u.toNat = some x → Completes (.stTestUnit m u) s
    fun t => t.test.op = 4 ∧ t.test.run.map (fun r => (r.unit, r.phase)) = some (u.toNat, x.1)) ∧
  (∀ (s : State) (m : Master), s.quiet = true → s.writable m pgSt 0x044 = true → s.testMaster (Master.num m) = true → s.mode.service = .maintain →
    s.testPower = true → Completes (.stFullBist m) s fun t => t.test.op = 2) ∧
  (∀ (s : State) (m : Master), s.quiet = true → s.writable m pgSt 0x044 = true → s.testMaster (Master.num m) = true → s.mode.service = .maintain →
    s.testPower = true → s.mode.trust ≠ .quarantine → Completes (.stHardRepair m) s fun t => t.test.op = 3) ∧
  (∀ (s : State) (u : BitVec 16) (x : SliceRun), s.calm = true → s.clocked 0 = true → s.test.op = 2 → testable u.toNat = true → verdict x = 1 →
    Completes (.fullBistDone [⟨u, [(x, none)]⟩]) s fun t => t.test.op = 0 ∧ (t.unitResult u.toNat).result = 1) ∧
  (∀ (s : State), s.calm = true → s.clocked 0 = true → s.test.op = 3 → s.mode.power = .full → Completes (.hardRepairDone [] []) s fun t => t.test.op
    = 0 ∧ t.test.fuses = s.test.fuses ++ s.unburnt.take (256 - s.test.fuses.length) ∧ t.test.soft = s.test.soft.filter (fun r =>
    !t.test.fuses.contains r))

/-- A test slice that passes and is not the last is followed by the gap, and the gap by the next slice; the MACsec engine that takes over attaches to
  its port, and the release of the other begins the slices; a LIN channel whose own core fails during a test, and a port whose engine fails, are
  served by another unit and their own is scratched; a read of MB_LOG takes its oldest entry; a lone live contract takes the state of R365. Pops of
  the MBIST log leave unchanged: the modes, the boot, the power, the heats, the tables, the wake logic, the logbook, the time subsystem, the
  Ethernet ports, the pipeline, the keys, the rings, the CAN channels, the LIN channels, the relay engine. Updates of contract states leave
  unchanged: the modes, the boot, the power, the tables, the wake logic, the time subsystem, the Ethernet ports, the pipeline, the keys, the rings,
  the CAN channels, the LIN channels, the relay engine. Model's choices: What is INACTIVE of the contracts is log entry 29. (R365; R426; R430; R432;
  R433; R437; R440.) -/
def Obligations.TestRunsAndContracts : Prop :=
  (∀ (s : State) (x : SliceRun) (r : TestRun), s.calm = true → s.clocked 0 = true → s.test.run = some r → r.phase = .slice → verdict x = 1 → r.slice
    + 1 ≠ unitSlices r.unit → Completes (.testSliceEnd x) s fun t => t.test.run.map (fun y => (y.phase, y.slice)) = some (.gap, r.slice) ∧ t.running
    .tsGap = true) ∧
  (∀ (s : State) (r : TestRun), s.calm = true → s.clocked 0 = true → s.due .tsGap = true → s.test.run = some r → r.phase = .gap → Completes
    .tsGapExpiry s fun t => t.test.run.map (fun y => (y.phase, y.slice)) = some (.slice, r.slice + 1) ∧ t.running .tsGap = false) ∧
  (∀ (s : State) (port : Fin 28) (r : TestRun), s.calm = true → s.moving (0x400 + port.val) = some r → r.attached = false → Completes
    (.macsecHandover port) s fun t => t.fld (macPage port.val) R.RESERVE_MAP_SERVING = (if r.phase = .out then 1 else 0) ∧ t.test.run.map
    (·.attached) = some true) ∧
  (∀ (s : State) (r : TestRun), s.calm = true → s.test.run = some r → unitClass r.unit = 4 → r.attached = true → r.phase = .out → Completes
    .macsecEngineRelease s fun t => t.test.run.map (·.phase) = some .slice) ∧
  (∀ (s : State) (n : Fin 12), s.calm = true → s.test.run.isSome = true → s.fld (linPage n.val) R.RESERVE_MAP_SERVING = 0 → Completes
    (.unitFailDuringTest (BitVec.ofNat 16 (0x300 + n.val))) s fun t => t.scratched (0x300 + n.val) = true ∧ t.fld (linPage n.val)
    R.RESERVE_MAP_SERVING ≠ 0) ∧
  (∀ (s : State) (port : Fin 28), s.quiet = true → s.fld (macPage port.val) R.RESERVE_MAP_SERVING = 0 → s.engineFree = true → Completes
    (.macsecEngineFailure port) s fun t => t.fld (macPage port.val) R.RESERVE_MAP_SERVING = 1 ∧ t.scratched (0x400 + port.val) = true) ∧
  (∀ (s : State) (m : Master) (x : MbEntry) (l : List MbEntry), s.quiet = true → s.readable m pgMbist 0x040 = true → s.test.mbLog = x :: l →
    Completes (.mbLogPop m) s fun t => t.test.mbLog = l ∧ t.fld pgMbist R.MB_LOG1_ADDR = x.addr % 2 ^ 20 ∧ t.rdata = some (BitVec.ofNat 32 (x.mem +
    x.bit * 2 ^ 16 + b2n x.column * 2 ^ 23 + b2n x.repaired * 2 ^ 24 + b2n x.hard * 2 ^ 25 + 2 ^ 31))) ∧
  (∀ (s : State) (k : Nat) (e : Entry), s.quiet = true → s.liveEntries pgContract = [(k, e)] → Completes .contractStateUpdate s fun t => (mget
    t.heat.states k).getD (0, 0) = s.ctState e ∧ t.fld pgRef R.REF_CNT_A_ENFORCED = (if (s.ctState e).1 = 1 then 1 else 0)) ∧
  (∀ (m : Master) (s t : State), ∀ cmd ∈ ([.mbLogPop m] : List Instr), s.quiet = true → exec cmd s = .next t → t.mode = s.mode ∧ t.boot = s.boot ∧
    t.power = s.power ∧ t.heat = s.heat ∧ t.slots = s.slots ∧ t.wake = s.wake ∧ t.log = s.log ∧ t.time = s.time ∧ t.eth = s.eth ∧ t.fwd = s.fwd ∧
    t.key = s.key ∧ t.rings = s.rings ∧ t.can = s.can ∧ t.lin = s.lin ∧ t.relay = s.relay) ∧
  (∀  (s t : State), ∀ cmd ∈ ([.contractStateUpdate] : List Instr), s.quiet = true → exec cmd s = .next t → t.mode = s.mode ∧ t.boot = s.boot ∧
    t.power = s.power ∧ t.slots = s.slots ∧ t.wake = s.wake ∧ t.time = s.time ∧ t.eth = s.eth ∧ t.fwd = s.fwd ∧ t.key = s.key ∧ t.rings = s.rings ∧
    t.can = s.can ∧ t.lin = s.lin ∧ t.relay = s.relay)

/-- Frames, attempts, errors, bus-off, integration, timing and lifetimes of a CAN channel leave unchanged: the modes, the boot, the power, the heats,
  the tables, the wake logic, self-test, the logbook, the time subsystem, the Ethernet ports, the pipeline, the keys, the rings, the LIN channels,
  every other CAN channel, what the relay engine holds but for the PDUs on their way to it, and the registers of every page but that of the channel;
  of a frame that a slave slot takes the heats, the logbook, the time subsystem, the pipeline and the registers are not said here. (R250; R253;
  R257; R260; R265.) -/
def Obligations.CanEventsFrame : Prop :=
  ∀ (c : Fin 48) (w : CanWire) (begun : Bool) (d n : Nat) (e : CanError) (s t : State), ∀ cmd ∈ ([.canFrameReceive c w begun, .canTxStart c d,
    .canArbLost c, .canBusError c e, .busOffEnd c n, .canIntegrated c, .canTimingSwitch c, .canLifetimeExpiry c] : List Instr),
    s.quiet = true → exec cmd s = .next t →
    t.mode = s.mode ∧ t.boot = s.boot ∧ t.power = s.power ∧ t.slots = s.slots ∧ t.wake = s.wake ∧ t.test = s.test ∧ t.eth = s.eth ∧ t.key = s.key ∧
      t.rings = s.rings ∧ t.lin = s.lin ∧ { t.relay with coming := s.relay.coming } = s.relay ∧ (∀ j, j ≠ c.val → mget t.can j = mget s.can j) ∧
      ((cmd = .canFrameReceive c w begun → s.ctsTakers c.val (CanWire.frame w) 0x10 = [] ∧ s.ctsTakers c.val (CanWire.frame w) 0x18 = []) → t.heat =
      s.heat ∧ t.log = s.log ∧ t.time = s.time ∧ t.fwd = s.fwd ∧ (∀ q o, ¬ (q = canPage c.val) → t.rd q o = s.rd q o))

/-- Slots, headers, responses, wake pulses and idle time of a LIN channel leave unchanged: the modes, the boot, the power, the heats, the tables, the
  wake logic, self-test, the logbook, the time subsystem, the Ethernet ports, the pipeline, the keys, the rings, the CAN channels, every other LIN
  channel, what the relay engine holds but for the PDUs on their way to it, and the registers of every page but that of the channel. (R278; R279;
  R280; R281; R282.) -/
def Obligations.LinEventsFrame : Prop :=
  ∀ (n : Fin 12) (pid : Byte) (rate : BitVec 16) (l : List Byte) (fr started bad : Bool) (us : Nat) (s t : State), ∀ cmd ∈ ([.linSlotStart n,
    .linHeaderReceive n pid rate, .linResponseEnd n l fr bad, .linResponseTimeout n started, .linBusWake n us, .linIdleSleep n, .linCommanderResume
    n] : List Instr),
    s.quiet = true → exec cmd s = .next t →
    t.mode = s.mode ∧ t.boot = s.boot ∧ t.power = s.power ∧ t.heat = s.heat ∧ t.slots = s.slots ∧ t.wake = s.wake ∧ t.test = s.test ∧ t.log = s.log
      ∧ t.time = s.time ∧ t.eth = s.eth ∧ t.fwd = s.fwd ∧ t.key = s.key ∧ t.rings = s.rings ∧ t.can = s.can ∧ { t.relay with coming :=
      s.relay.coming } = s.relay ∧ (∀ j, j ≠ n.val → mget t.lin j = mget s.lin j) ∧ ∀ q o, ¬ (q = linPage n.val) → t.rd q o = s.rd q o

/-- Updates of the replicas, holdover, pistol edges and pulse ends, captures, CAN time messages and gPTP messages and frames of a CAN channel leave
  unchanged: the boot, the power, the table slots, the wake logic, self-test and the LIN channels; all but an update leave the keys unchanged, and
  so does an update while no transition of the life cycle runs (R420); all but an update that finds a replica off, whose stamps it marks invalid
  (R19), leave what the relay engine holds unchanged but for the PDUs on their way to it, and, of a port without HOST_COPY (R329), the rings. (R18;
  R317; R320; R330; R331; R333; R337; R339.) -/
def Obligations.TimeEventsFrame : Prop :=
  ∀ (n : Nat) (off : List Island) (k : Fin 4) (p : Fin 16) (i : Fin 8) (rising : Bool) (w : CanWire) (port : Fin 24) (msg : PtpMsg) (c : Fin 48) (s
    t : State), ∀ cmd ∈ ([.timeFanoutUpdate n off, .servoHoldover k, .pistolEdge p, .pistolPulseEnd p, .captureEdge i rising, .ctsSyncReceive i w n,
    .ctsFupReceive i w, .pdelayRespReceive port msg, .pdelayTimeout port, .syncReceive port msg, .followUpReceive port msg, .ttWindowClose c,
    .canFrameReceive c w rising] : List Instr),
    s.quiet = true → exec cmd s = .next t →
    t.boot = s.boot ∧ t.power = s.power ∧ t.slots = s.slots ∧ t.wake = s.wake ∧ t.test = s.test ∧ t.lin = s.lin ∧ ((cmd = .timeFanoutUpdate n off →
      s.key.lcRun = none) → t.key = s.key) ∧ ((cmd = .timeFanoutUpdate n off → off = []) → { t.relay with coming := s.relay.coming } = s.relay ∧
      (s.flag pgPtp (R.PTP_PORT_HOST_COPY port.val) = false → t.rings = s.rings))

/-- Classification, ageing, learning, flow pacers, stream gates, hurdle lists, the choice of a lane whose cells read clean and the expiry of pauses
  leave unchanged: the modes, the boot, the power, the wake logic, self-test, the logbook, the keys, the CAN and LIN channels and the relay engine.
  (R189; R206; R214; R220; R229; R233; R237.) -/
def Obligations.PipelineFrame : Prop :=
  ∀ (k : Fin 1024) (g : Fin 256) (port : Fin 28) (prio : Option (Fin 8)) (s t : State), ∀ cmd ∈ ([.frameClassify, .ageTick, .learnServe,
    .flowPacerRelease k, .streamGateEntry g, .hurdleEntryStart port, .hurdleHoldIssue port, .laneSelect port .clean, .pauseTimerExpiry port prio] :
    List Instr),
    s.quiet = true → exec cmd s = .next t →
    t.mode = s.mode ∧ t.boot = s.boot ∧ t.power = s.power ∧ t.wake = s.wake ∧ t.test = s.test ∧ t.log = s.log ∧ t.key = s.key ∧ t.can = s.can ∧
      t.lin = s.lin ∧ t.relay = s.relay

/-- A read of a word of the register window leaves unchanged: the modes, the boot, the power, the heats, the tables, the wake logic, the Ethernet ports,
  the pipeline, the rings, the relay engine and the logbook; a read of ERR_COUNT or of another counter also the CAN and LIN channels, the keys, the
  time subsystem and self-test; and it touches registers of the page read, of DEV and of the two bridges only. (R102; R103; R106; R107.) -/
def Obligations.HostReadsFrame : Prop :=
  ∀ (m : Master) (p : BitVec 14) (off : BitVec 12) (s t : State), ∀ cmd ∈ ([.errCountRead m p, .counterReadClear m .bar0 ⟨BitVec.ofNat 26 (p.toNat *
    4096 + off.toNat), 1⟩, .counter64LoRead m p off] : List Instr),
    s.quiet = true → exec cmd s = .next t →
    t.mode = s.mode ∧ t.boot = s.boot ∧ t.power = s.power ∧ t.heat = s.heat ∧ t.slots = s.slots ∧ t.wake = s.wake ∧ t.fwd = s.fwd ∧ t.eth = s.eth ∧
      t.rings = s.rings ∧ t.relay = s.relay ∧ t.log = s.log ∧ (cmd = .errCountRead m p ∨ countsAt p.toNat off.toNat = true → t.can = s.can ∧ t.lin =
      s.lin ∧ t.key = s.key ∧ t.time = s.time ∧ t.test = s.test) ∧ ∀ q o, ¬ (q = p.toNat ∨ q = 0 ∨ q = 0x020 ∨ q = 0x021) → t.rd q o = s.rd q o

/-- The wipe of an orphaned slot, the end of an attestation and a failed health test leave unchanged: the modes, the boot, the power, the heats, the
  tables, the wake logic, self-test, the logbook, the time subsystem, the ports and the pipeline, the rings, the CAN and LIN channels, the relay
  engine, and the registers of every page but those of chapter 13 from 0x1A0 to 0x1A5. (R407; R413; R415; R417.) -/
def Obligations.StoreEventsFrame : Prop :=
  ∀ (n : Fin 256) (s t : State), ∀ cmd ∈ ([.orphanWipe n, .attDone, .drbgFail] : List Instr),
    s.quiet = true → exec cmd s = .next t →
    t.mode = s.mode ∧ t.boot = s.boot ∧ t.power = s.power ∧ t.heat = s.heat ∧ t.slots = s.slots ∧ t.wake = s.wake ∧ t.test = s.test ∧ t.log = s.log
      ∧ t.time = s.time ∧ t.eth = s.eth ∧ t.fwd = s.fwd ∧ t.rings = s.rings ∧ t.can = s.can ∧ t.lin = s.lin ∧ t.relay = s.relay ∧ ∀ q o, ¬ (0x1A0 ≤
      q ∧ q ≤ 0x1A5) → t.rd q o = s.rd q o

/-- Descriptor fetches, receive copies, expiries, write-backs and errors of a ring leave unchanged: the modes, the boot, the power, the heats, the
  tables, the wake logic, self-test, the logbook, the time subsystem, the ports, the keys, the CAN and LIN channels, the relay engine, every other
  ring, and the registers of every page but that of the function and, for a copy past its deadline (R306), of the relay engine. (R306; R378; R380;
  R384; R385; R387; R388.) -/
def Obligations.RingEventsFrame : Prop :=
  ∀ (fn : Fin 11) (r : Fin 32) (descs : List (BitVec 256)) (s t : State), ∀ cmd ∈ ([.descFetch fn r descs, .rxCopyWrite fn r, .ringWaitExpiry fn r,
    .txWriteback fn r, .tsLostTimeout fn r, .ringIrqModTime fn r, .outboundReadError fn r] : List Instr),
    s.quiet = true → exec cmd s = .next t →
    t.mode = s.mode ∧ t.boot = s.boot ∧ t.power = s.power ∧ t.heat = s.heat ∧ t.slots = s.slots ∧ t.wake = s.wake ∧ t.test = s.test ∧ t.log = s.log
      ∧ t.time = s.time ∧ t.eth = s.eth ∧ t.key = s.key ∧ t.can = s.can ∧ t.lin = s.lin ∧ t.relay = s.relay ∧ (∀ j, j ≠ ringKey fn.val r.val → mget
      t.rings j = mget s.rings j) ∧ ∀ q o, ¬ (q = fnPage fn.val ∨ q = pgRelay) → t.rd q o = s.rd q o

/-- A record that is written, the switch timer and a read of the logbook port leave unchanged: the modes, the boot, the power, the heats, the tables,
  the wake logic, self-test, the time subsystem, the ports, the pipeline, the rings, the keys, the CAN and LIN channels, the relay engine, and the
  registers of every page but the one of the logbook. (R390; R392; R393; R395.) -/
def Obligations.LogbookFrame : Prop :=
  ∀ (n : Nat) (s t : State), ∀ cmd ∈ ([.logRecordWrite, .logSwitchTimer, .logPortRead n] : List Instr),
    s.quiet = true → exec cmd s = .next t →
    t.mode = s.mode ∧ t.boot = s.boot ∧ t.power = s.power ∧ t.heat = s.heat ∧ t.slots = s.slots ∧ t.wake = s.wake ∧ t.test = s.test ∧ t.time =
      s.time ∧ t.eth = s.eth ∧ t.fwd = s.fwd ∧ t.rings = s.rings ∧ t.key = s.key ∧ t.can = s.can ∧ t.lin = s.lin ∧ t.relay = s.relay ∧ ∀ q o, ¬ (q =
      pgLog) → t.rd q o = s.rd q o

/-- Requests and cancels of the transmit buffers and the queue, and reads of TXEV and of the mailboxes, leave unchanged: the modes, the boot, the power,
  the tables, the wake logic, self-test, the logbook, the time subsystem, the ports, the pipeline, the rings, the keys, the LIN channels, the relay
  engine, every other CAN channel, and the registers of every page but that of the channel, DEV and the two bridges. (R259; R266; R267; R268; R271.) -/
def Obligations.CanCommandsFrame : Prop :=
  ∀ (m : Master) (c : Fin 48) (b : Fin 3) (v : Word) (i : Fin 33) (s t : State), ∀ cmd ∈ ([.txbReq m c b, .txbCancel m c b, .txqPush m c v,
    .txqCancel m c v, .txevRead m c, .mailboxOpen m c i] : List Instr),
    s.quiet = true → exec cmd s = .next t →
    t.mode = s.mode ∧ t.boot = s.boot ∧ t.power = s.power ∧ t.slots = s.slots ∧ t.wake = s.wake ∧ t.test = s.test ∧ t.log = s.log ∧ t.time = s.time
      ∧ t.eth = s.eth ∧ t.fwd = s.fwd ∧ t.rings = s.rings ∧ t.key = s.key ∧ t.lin = s.lin ∧ t.relay = s.relay ∧ (∀ j, j ≠ c.val → mget t.can j =
      mget s.can j) ∧ ∀ q o, ¬ (q = canPage c.val ∨ q = 0 ∨ q = 0x020 ∨ q = 0x021) → t.rd q o = s.rd q o

/-- SOFT_RESET of the page of a CAN channel that is on empties the transmit buffers, the marshalling queue, the high-priority buffer and the mailboxes
  without an event of theirs, sets TEC and REC to 0, makes the controller integrate again, and keeps the live and the staged configuration (but for
  the ENABLE bit that the same write stages). (R246.) -/
def Obligations.CanPageSoftReset : Prop :=
  ∀ (s : State) (m : Master) (c : Fin 48) (v : Word), s.quiet = true → s.headWritable m (canPage c.val) 0x008 = true → s.pageUp (canPage c.val) =
    true → Completes (.pageSoftReset m (BitVec.ofNat 14 (canPage c.val)) v) s fun t => (t.chan c.val).bufs = [] ∧ (t.chan c.val).queue = [] ∧
    (t.chan c.val).mbs = [] ∧ (t.chan c.val).events = [] ∧ (t.chan c.val).locked = none ∧ (∀ i < 33, t.rd (canPage c.val) (mbHdr i) = 0) ∧ t.rd
    (canPage c.val) 0x010 &&& accMask (· == .w1c) (canPage c.val) 0x010 = 0 ∧ t.tec c.val = 0 ∧ t.recCount c.val = 0 ∧ t.errState c.val = 3 ∧ (∀ o <
    4096, t.rd (canPage c.val) o &&& accMask (· == .rws) (canPage c.val) o = s.rd (canPage c.val) o &&& accMask (· == .rws) (canPage c.val) o) ∧ (∀
    o < 4096, o ≠ 8 → t.stagedRd (canPage c.val) o &&& accMask (· == .rws) (canPage c.val) o = s.stagedRd (canPage c.val) o &&& accMask (· == .rws)
    (canPage c.val) o) ∧ t.slots = s.slots

/-- With a command at the front of the queue, a step is that command run with the rest of the queue. (00_scope.md; opcode_table.json.) -/
def Obligations.StepRunsFront : Prop :=
  ∀ (s : State) (c : Instr) (l : List Instr), s.pending = c :: l → step s = exec c { s with pending := l }

/-- With an empty queue and nothing left to do, a step of a released device adds 40 ns to TL and one addend to each domain, and changes no register,
  table or other part of the subsystems, the key store included but for the fuses that a transition of the life cycle burns (R420); a device that is
  not released stays as it was. (02_modes.md R38 (the AON cycle of 40 ns); 10_time_photo_finish.md (the addend).) -/
def Obligations.EmptyQueueTick : Prop :=
  (∀ s : State, s.pending = [] → s.quiet = true → s.faultShown → s.released = true →
    ∃ t, step s = .next t ∧ t.time.tl = s.time.tl + 40 * nsUnit ∧ t.time.t0 = s.time.t0 + s.addend 0 ∧ t.time.t1 = s.time.t1 + s.addend 1 ∧
      t.time.t2 = s.time.t2 + s.addend 2 ∧ t.time.t3 = s.time.t3 + s.addend 3 ∧ t.regs = s.regs ∧ t.mode = s.mode ∧ t.boot = s.boot ∧
      t.heat = s.heat ∧ t.slots = s.slots ∧ t.fwd = s.fwd ∧ t.can = s.can ∧ t.lin = s.lin ∧ t.relay = s.relay ∧ (s.key.lcRun = none → t.key = s.key) ∧
      t.timers = s.timers ∧ t.pending = []) ∧
  (∀ s : State, s.pending = [] → s.quiet = true → s.faultShown → s.released = false → step s = .next s)

/-- No command of the table ends in a fault or a refusal, in any state and with any operands, and none changes the commands that wait. Model's choices:
  An event whose conditions do not hold changes nothing (log entry 6). (opcode_table.json.) -/
def Obligations.EveryCommandAnswers : Prop :=
  ∀ (c : Instr) (s : State), ∃ t, exec c s = .next t ∧ t.pending = s.pending

/-- From every state in which FAULT_N is asserted while a fixed condition, a routed active source or the test drive holds, a step leads to such a state.
  (R465; R466; R467.) -/
def Obligations.FaultPinHeld : Prop :=
  ∀ s t : State, s.faultShown → step s = .next t → t.faultShown

/-- In State.reset the device is held by PORST_N, FAULT_N is asserted, SERVICE is HALT and TRUST UNMEASURED, no heat is live, armed, loaded or open, no
  command waits, the counters are at 0, and registers read the reset values of their pages; the condition that every step keeps holds there. Model's
  choices: The registers for which the spec gives no value are 0 (log entry 3), and the first state is that of log entry 2. (02_modes.md (DEV_MODE,
  reset); 03_power_clocks_reset.md R92, R96; 12_host_logger_bridges.md (LOG_CFG, LOG_WM, reset); 16_faults_containment.md R466.) -/
def Obligations.ResetLeaves : Prop :=
  core.reset = State.reset ∧ State.reset.boot.porstLow = true ∧ State.reset.fault.pin = true ∧ State.reset.faultShown ∧
    State.reset.mode.service = .halt ∧ State.reset.mode.trust = .unmeasured ∧ State.reset.mode.maintPending = false ∧
    State.reset.heat.live = 0 ∧ State.reset.heat.armed = [] ∧ State.reset.pending = [] ∧
    State.reset.time.tl = 0 ∧ State.reset.time.t0 = 0 ∧ State.reset.time.t1 = 0 ∧ State.reset.time.t2 = 0 ∧ State.reset.time.t3 = 0 ∧
    State.reset.rd pgLog 0x040 = 0x64 ∧ State.reset.rd pgLog 0x054 = 0x00100000 ∧ State.reset.rd 0 0x044 = 0 ∧
    (∀ p < 0x200, State.reset.fld p R.ERR_COUNT = 0) ∧ (∀ p < 0x200, State.reset.flag p R.PAGE_CTRL_ENABLE = false)
end

