-- ==== Sys2Proof/Laws/Map.lean ====
section
/-! SUPPORT. The sparse map: what a look-up gives after a change, that every change keeps the keys strictly rising, and that the register file
keeps its canonical form. -/

namespace Sys2Proof.Laws

open Sys2Proof.Machine

variable {α : Type}

/-! ### What a look-up gives -/

theorem mget_minsert (m : SMap α) (k j : Nat) (v : α) (h : ∀ e ∈ m, e.1 ≠ k) :
    mget (minsert m k v) j = if k = j then some v else mget m j := by
  induction m with
  | nil => rfl
  | cons e t ih =>
    obtain ⟨i, w⟩ := e
    have hik : i ≠ k := h (i, w) (List.mem_cons_self ..)
    have ht : ∀ e ∈ t, e.1 ≠ k := fun e he => h e (List.mem_cons_of_mem _ he)
    unfold minsert
    by_cases hlt : k < i
    · rw [if_pos hlt]
      rfl
    · rw [if_neg hlt]
      unfold mget
      by_cases hij : i = j
      · subst hij
        rw [if_pos rfl, if_pos rfl, if_neg (Ne.symm hik)]
      · rw [if_neg hij, if_neg hij, ih ht]

theorem mget_mdel (m : SMap α) (k j : Nat) : mget (mdel m k) j = if k = j then none else mget m j := by
  induction m with
  | nil => simp [mdel, mget]
  | cons e t ih =>
    obtain ⟨i, w⟩ := e
    have ih' : mget (t.filter fun e => e.1 != k) j = if k = j then none else mget t j := ih
    unfold mdel
    by_cases hik : i = k
    · subst hik
      rw [List.filter_cons_of_neg (by simp), ih']
      by_cases hj : i = j
      · simp [hj]
      · simp [hj, mget]
    · rw [List.filter_cons_of_pos (by simpa using hik)]
      unfold mget
      by_cases hij : i = j
      · subst hij
        rw [if_pos rfl, if_pos rfl, if_neg (Ne.symm hik)]
      · rw [if_neg hij, if_neg hij, ih']

theorem mdel_ne (m : SMap α) (k : Nat) : ∀ e ∈ mdel m k, e.1 ≠ k := by
  intro e he
  simpa using (List.mem_filter.mp he).2

/-- Read after write. -/
@[simp] theorem mget_mset_same (m : SMap α) (k : Nat) (v : α) : mget (mset m k v) k = some v := by
  unfold mset
  rw [mget_minsert _ _ _ _ (mdel_ne m k), if_pos rfl]

/-- A write leaves every other key alone. -/
theorem mget_mset_other (m : SMap α) (k j : Nat) (v : α) (h : k ≠ j) : mget (mset m k v) j = mget m j := by
  unfold mset
  rw [mget_minsert _ _ _ _ (mdel_ne m k), if_neg h, mget_mdel, if_neg h]

@[simp] theorem mget_mdel_same (m : SMap α) (k : Nat) : mget (mdel m k) k = none := by rw [mget_mdel, if_pos rfl]

theorem mget_mdel_other (m : SMap α) (k j : Nat) (h : k ≠ j) : mget (mdel m k) j = mget m j := by rw [mget_mdel, if_neg h]

/-! ### The canonical form -/

theorem wf_nil : SMap.wf ([] : SMap α) := List.Pairwise.nil

theorem mkeep_wf (m : SMap α) (q : Nat → Bool) (h : SMap.wf m) : SMap.wf (mkeep m q) := List.Pairwise.filter _ h

theorem mdel_wf (m : SMap α) (k : Nat) (h : SMap.wf m) : SMap.wf (mdel m k) := List.Pairwise.filter _ h

theorem minsert_mem (m : SMap α) (k : Nat) (v : α) (e : Nat × α) (h : e ∈ minsert m k v) : e = (k, v) ∨ e ∈ m := by
  induction m with
  | nil => exact Or.inl (List.mem_singleton.mp h)
  | cons f t ih =>
    obtain ⟨i, w⟩ := f
    unfold minsert at h
    split at h
    · rcases List.mem_cons.mp h with h | h
      · exact Or.inl h
      · exact Or.inr h
    · rcases List.mem_cons.mp h with h | h
      · exact Or.inr (h ▸ List.mem_cons_self ..)
      · exact (ih h).imp_right (List.mem_cons_of_mem _)

theorem minsert_wf (m : SMap α) (k : Nat) (v : α) (hk : ∀ e ∈ m, e.1 ≠ k) (h : SMap.wf m) : SMap.wf (minsert m k v) := by
  induction m with
  | nil => exact List.pairwise_singleton ..
  | cons f t ih =>
    obtain ⟨i, w⟩ := f
    obtain ⟨h1, h2⟩ := List.pairwise_cons.mp h
    have hik : i ≠ k := hk (i, w) (List.mem_cons_self ..)
    unfold minsert
    split
    · next hlt =>
      refine List.pairwise_cons.mpr ⟨?_, h⟩
      intro e he
      rcases List.mem_cons.mp he with rfl | he
      · exact hlt
      · exact Nat.lt_trans hlt (h1 e he)
    · next hlt =>
      refine List.pairwise_cons.mpr ⟨?_, ih (fun e he => hk e (List.mem_cons_of_mem _ he)) h2⟩
      intro e he
      rcases minsert_mem t k v e he with rfl | he
      · exact Nat.lt_of_le_of_ne (Nat.le_of_not_lt hlt) hik
      · exact h1 e he

theorem mset_wf (m : SMap α) (k : Nat) (v : α) (h : SMap.wf m) : SMap.wf (mset m k v) :=
  minsert_wf _ k v (mdel_ne m k) (mdel_wf m k h)

/-! ### Registers -/

/-- A register reads what was written to it. -/
@[simp] theorem rd_wr_same (s : State) (p off : Nat) (v : Word) : (s.wr p off v).rd p off = v := by
  unfold State.rd State.wr
  dsimp only
  split
  · next h => rw [mget_mdel_same, h]; rfl
  · rw [mget_mset_same]; rfl

/-- Writing one register leaves every other alone. -/
theorem rd_wr_other (s : State) (p off p' off' : Nat) (v : Word) (h : regKey p off ≠ regKey p' off') : (s.wr p off v).rd p' off' = s.rd p' off' := by
  unfold State.rd State.wr
  dsimp only
  split
  · rw [mget_mdel_other _ _ _ h]
  · rw [mget_mset_other _ _ _ _ h]

/-- Two states with the same register file read alike. -/
theorem rd_congr {s t : State} (h : s.regs = t.regs) (p off : Nat) : s.rd p off = t.rd p off := by
  unfold State.rd
  rw [h]

/-- The register file lists its keys in rising order, and no register at its reset value. -/
def regsCanonical (s : State) : Prop := SMap.wf s.regs ∧ ∀ e ∈ s.regs, e.2 ≠ resetWord (e.1 / 4096) (e.1 % 4096)

theorem wr_canonical (s : State) (p off : Nat) (v : Word) (h : regsCanonical s) : regsCanonical (s.wr p off v) := by
  have hp : regKey p off / 4096 = p := by unfold regKey; omega
  have hq : regKey p off % 4096 = off % 4096 := by unfold regKey; omega
  have hr : resetWord p (off % 4096) = resetWord p off := by unfold resetWord; rw [Nat.mod_mod]
  unfold State.wr regsCanonical
  dsimp only
  split
  · refine ⟨mdel_wf _ _ h.1, fun e he => h.2 e (List.mem_filter.mp he).1⟩
  · next hv =>
    refine ⟨mset_wf _ _ _ h.1, ?_⟩
    intro e he
    rcases minsert_mem _ _ _ e he with rfl | he
    · rw [hp, hq, hr]
      exact hv
    · exact h.2 e (List.mem_filter.mp he).1

end Sys2Proof.Laws
end

