-- ==== Sys2Proof/Laws/State.lean ====
section
/-! SUPPORT. What the plainest updates of the state leave unchanged: one lemma for each field that an update does not touch, and the field it
does touch where that is one term. -/

namespace Sys2Proof.Laws

open Sys2Proof.Machine

/-! ### wr -/

@[simp] theorem wr_pending (s : State) (p off : Nat) (v : Word) : (s.wr p off v).pending = s.pending := rfl
@[simp] theorem wr_wide (s : State) (p off : Nat) (v : Word) : (s.wr p off v).wide = s.wide := rfl
@[simp] theorem wr_snap (s : State) (p off : Nat) (v : Word) : (s.wr p off v).snap = s.snap := rfl
@[simp] theorem wr_views (s : State) (p off : Nat) (v : Word) : (s.wr p off v).views = s.views := rfl
@[simp] theorem wr_owners (s : State) (p off : Nat) (v : Word) : (s.wr p off v).owners = s.owners := rfl
@[simp] theorem wr_rdata (s : State) (p off : Nat) (v : Word) : (s.wr p off v).rdata = s.rdata := rfl
@[simp] theorem wr_outbox (s : State) (p off : Nat) (v : Word) : (s.wr p off v).outbox = s.outbox := rfl
@[simp] theorem wr_freeIx (s : State) (p off : Nat) (v : Word) : (s.wr p off v).freeIx = s.freeIx := rfl
@[simp] theorem wr_timers (s : State) (p off : Nat) (v : Word) : (s.wr p off v).timers = s.timers := rfl
@[simp] theorem wr_mode (s : State) (p off : Nat) (v : Word) : (s.wr p off v).mode = s.mode := rfl
@[simp] theorem wr_boot (s : State) (p off : Nat) (v : Word) : (s.wr p off v).boot = s.boot := rfl
@[simp] theorem wr_power (s : State) (p off : Nat) (v : Word) : (s.wr p off v).power = s.power := rfl
@[simp] theorem wr_heat (s : State) (p off : Nat) (v : Word) : (s.wr p off v).heat = s.heat := rfl
@[simp] theorem wr_slots (s : State) (p off : Nat) (v : Word) : (s.wr p off v).slots = s.slots := rfl
@[simp] theorem wr_bridge (s : State) (p off : Nat) (v : Word) : (s.wr p off v).bridge = s.bridge := rfl
@[simp] theorem wr_log (s : State) (p off : Nat) (v : Word) : (s.wr p off v).log = s.log := rfl
@[simp] theorem wr_fault (s : State) (p off : Nat) (v : Word) : (s.wr p off v).fault = s.fault := rfl
@[simp] theorem wr_wake (s : State) (p off : Nat) (v : Word) : (s.wr p off v).wake = s.wake := rfl
@[simp] theorem wr_time (s : State) (p off : Nat) (v : Word) : (s.wr p off v).time = s.time := rfl
@[simp] theorem wr_eth (s : State) (p off : Nat) (v : Word) : (s.wr p off v).eth = s.eth := rfl
@[simp] theorem wr_fwd (s : State) (p off : Nat) (v : Word) : (s.wr p off v).fwd = s.fwd := rfl
@[simp] theorem wr_drops (s : State) (p off : Nat) (v : Word) : (s.wr p off v).drops = s.drops := rfl
@[simp] theorem wr_key (s : State) (p off : Nat) (v : Word) : (s.wr p off v).key = s.key := rfl
@[simp] theorem wr_rings (s : State) (p off : Nat) (v : Word) : (s.wr p off v).rings = s.rings := rfl
@[simp] theorem wr_can (s : State) (p off : Nat) (v : Word) : (s.wr p off v).can = s.can := rfl
@[simp] theorem wr_lin (s : State) (p off : Nat) (v : Word) : (s.wr p off v).lin = s.lin := rfl
@[simp] theorem wr_relay (s : State) (p off : Nat) (v : Word) : (s.wr p off v).relay = s.relay := rfl
@[simp] theorem wr_test (s : State) (p off : Nat) (v : Word) : (s.wr p off v).test = s.test := rfl

/-! ### setF -/

@[simp] theorem setF_pending (s : State) (p : Nat) (f : Fld) (x : Nat) : (s.setF p f x).pending = s.pending := rfl
@[simp] theorem setF_wide (s : State) (p : Nat) (f : Fld) (x : Nat) : (s.setF p f x).wide = s.wide := rfl
@[simp] theorem setF_snap (s : State) (p : Nat) (f : Fld) (x : Nat) : (s.setF p f x).snap = s.snap := rfl
@[simp] theorem setF_views (s : State) (p : Nat) (f : Fld) (x : Nat) : (s.setF p f x).views = s.views := rfl
@[simp] theorem setF_owners (s : State) (p : Nat) (f : Fld) (x : Nat) : (s.setF p f x).owners = s.owners := rfl
@[simp] theorem setF_rdata (s : State) (p : Nat) (f : Fld) (x : Nat) : (s.setF p f x).rdata = s.rdata := rfl
@[simp] theorem setF_outbox (s : State) (p : Nat) (f : Fld) (x : Nat) : (s.setF p f x).outbox = s.outbox := rfl
@[simp] theorem setF_freeIx (s : State) (p : Nat) (f : Fld) (x : Nat) : (s.setF p f x).freeIx = s.freeIx := rfl
@[simp] theorem setF_timers (s : State) (p : Nat) (f : Fld) (x : Nat) : (s.setF p f x).timers = s.timers := rfl
@[simp] theorem setF_mode (s : State) (p : Nat) (f : Fld) (x : Nat) : (s.setF p f x).mode = s.mode := rfl
@[simp] theorem setF_boot (s : State) (p : Nat) (f : Fld) (x : Nat) : (s.setF p f x).boot = s.boot := rfl
@[simp] theorem setF_power (s : State) (p : Nat) (f : Fld) (x : Nat) : (s.setF p f x).power = s.power := rfl
@[simp] theorem setF_heat (s : State) (p : Nat) (f : Fld) (x : Nat) : (s.setF p f x).heat = s.heat := rfl
@[simp] theorem setF_slots (s : State) (p : Nat) (f : Fld) (x : Nat) : (s.setF p f x).slots = s.slots := rfl
@[simp] theorem setF_bridge (s : State) (p : Nat) (f : Fld) (x : Nat) : (s.setF p f x).bridge = s.bridge := rfl
@[simp] theorem setF_log (s : State) (p : Nat) (f : Fld) (x : Nat) : (s.setF p f x).log = s.log := rfl
@[simp] theorem setF_fault (s : State) (p : Nat) (f : Fld) (x : Nat) : (s.setF p f x).fault = s.fault := rfl
@[simp] theorem setF_wake (s : State) (p : Nat) (f : Fld) (x : Nat) : (s.setF p f x).wake = s.wake := rfl
@[simp] theorem setF_time (s : State) (p : Nat) (f : Fld) (x : Nat) : (s.setF p f x).time = s.time := rfl
@[simp] theorem setF_eth (s : State) (p : Nat) (f : Fld) (x : Nat) : (s.setF p f x).eth = s.eth := rfl
@[simp] theorem setF_fwd (s : State) (p : Nat) (f : Fld) (x : Nat) : (s.setF p f x).fwd = s.fwd := rfl
@[simp] theorem setF_drops (s : State) (p : Nat) (f : Fld) (x : Nat) : (s.setF p f x).drops = s.drops := rfl
@[simp] theorem setF_key (s : State) (p : Nat) (f : Fld) (x : Nat) : (s.setF p f x).key = s.key := rfl
@[simp] theorem setF_rings (s : State) (p : Nat) (f : Fld) (x : Nat) : (s.setF p f x).rings = s.rings := rfl
@[simp] theorem setF_can (s : State) (p : Nat) (f : Fld) (x : Nat) : (s.setF p f x).can = s.can := rfl
@[simp] theorem setF_lin (s : State) (p : Nat) (f : Fld) (x : Nat) : (s.setF p f x).lin = s.lin := rfl
@[simp] theorem setF_relay (s : State) (p : Nat) (f : Fld) (x : Nat) : (s.setF p f x).relay = s.relay := rfl
@[simp] theorem setF_test (s : State) (p : Nat) (f : Fld) (x : Nat) : (s.setF p f x).test = s.test := rfl

/-! ### setB -/

@[simp] theorem setB_pending (s : State) (p : Nat) (f : Fld) (x : Bool) : (s.setB p f x).pending = s.pending := rfl
@[simp] theorem setB_wide (s : State) (p : Nat) (f : Fld) (x : Bool) : (s.setB p f x).wide = s.wide := rfl
@[simp] theorem setB_snap (s : State) (p : Nat) (f : Fld) (x : Bool) : (s.setB p f x).snap = s.snap := rfl
@[simp] theorem setB_views (s : State) (p : Nat) (f : Fld) (x : Bool) : (s.setB p f x).views = s.views := rfl
@[simp] theorem setB_owners (s : State) (p : Nat) (f : Fld) (x : Bool) : (s.setB p f x).owners = s.owners := rfl
@[simp] theorem setB_rdata (s : State) (p : Nat) (f : Fld) (x : Bool) : (s.setB p f x).rdata = s.rdata := rfl
@[simp] theorem setB_outbox (s : State) (p : Nat) (f : Fld) (x : Bool) : (s.setB p f x).outbox = s.outbox := rfl
@[simp] theorem setB_freeIx (s : State) (p : Nat) (f : Fld) (x : Bool) : (s.setB p f x).freeIx = s.freeIx := rfl
@[simp] theorem setB_timers (s : State) (p : Nat) (f : Fld) (x : Bool) : (s.setB p f x).timers = s.timers := rfl
@[simp] theorem setB_mode (s : State) (p : Nat) (f : Fld) (x : Bool) : (s.setB p f x).mode = s.mode := rfl
@[simp] theorem setB_boot (s : State) (p : Nat) (f : Fld) (x : Bool) : (s.setB p f x).boot = s.boot := rfl
@[simp] theorem setB_power (s : State) (p : Nat) (f : Fld) (x : Bool) : (s.setB p f x).power = s.power := rfl
@[simp] theorem setB_heat (s : State) (p : Nat) (f : Fld) (x : Bool) : (s.setB p f x).heat = s.heat := rfl
@[simp] theorem setB_slots (s : State) (p : Nat) (f : Fld) (x : Bool) : (s.setB p f x).slots = s.slots := rfl
@[simp] theorem setB_bridge (s : State) (p : Nat) (f : Fld) (x : Bool) : (s.setB p f x).bridge = s.bridge := rfl
@[simp] theorem setB_log (s : State) (p : Nat) (f : Fld) (x : Bool) : (s.setB p f x).log = s.log := rfl
@[simp] theorem setB_fault (s : State) (p : Nat) (f : Fld) (x : Bool) : (s.setB p f x).fault = s.fault := rfl
@[simp] theorem setB_wake (s : State) (p : Nat) (f : Fld) (x : Bool) : (s.setB p f x).wake = s.wake := rfl
@[simp] theorem setB_time (s : State) (p : Nat) (f : Fld) (x : Bool) : (s.setB p f x).time = s.time := rfl
@[simp] theorem setB_eth (s : State) (p : Nat) (f : Fld) (x : Bool) : (s.setB p f x).eth = s.eth := rfl
@[simp] theorem setB_fwd (s : State) (p : Nat) (f : Fld) (x : Bool) : (s.setB p f x).fwd = s.fwd := rfl
@[simp] theorem setB_drops (s : State) (p : Nat) (f : Fld) (x : Bool) : (s.setB p f x).drops = s.drops := rfl
@[simp] theorem setB_key (s : State) (p : Nat) (f : Fld) (x : Bool) : (s.setB p f x).key = s.key := rfl
@[simp] theorem setB_rings (s : State) (p : Nat) (f : Fld) (x : Bool) : (s.setB p f x).rings = s.rings := rfl
@[simp] theorem setB_can (s : State) (p : Nat) (f : Fld) (x : Bool) : (s.setB p f x).can = s.can := rfl
@[simp] theorem setB_lin (s : State) (p : Nat) (f : Fld) (x : Bool) : (s.setB p f x).lin = s.lin := rfl
@[simp] theorem setB_relay (s : State) (p : Nat) (f : Fld) (x : Bool) : (s.setB p f x).relay = s.relay := rfl
@[simp] theorem setB_test (s : State) (p : Nat) (f : Fld) (x : Bool) : (s.setB p f x).test = s.test := rfl

/-! ### count -/

@[simp] theorem count_pending (s : State) (p : Nat) (f : Fld) : (s.count p f).pending = s.pending := rfl
@[simp] theorem count_wide (s : State) (p : Nat) (f : Fld) : (s.count p f).wide = s.wide := rfl
@[simp] theorem count_snap (s : State) (p : Nat) (f : Fld) : (s.count p f).snap = s.snap := rfl
@[simp] theorem count_views (s : State) (p : Nat) (f : Fld) : (s.count p f).views = s.views := rfl
@[simp] theorem count_owners (s : State) (p : Nat) (f : Fld) : (s.count p f).owners = s.owners := rfl
@[simp] theorem count_rdata (s : State) (p : Nat) (f : Fld) : (s.count p f).rdata = s.rdata := rfl
@[simp] theorem count_outbox (s : State) (p : Nat) (f : Fld) : (s.count p f).outbox = s.outbox := rfl
@[simp] theorem count_freeIx (s : State) (p : Nat) (f : Fld) : (s.count p f).freeIx = s.freeIx := rfl
@[simp] theorem count_timers (s : State) (p : Nat) (f : Fld) : (s.count p f).timers = s.timers := rfl
@[simp] theorem count_mode (s : State) (p : Nat) (f : Fld) : (s.count p f).mode = s.mode := rfl
@[simp] theorem count_boot (s : State) (p : Nat) (f : Fld) : (s.count p f).boot = s.boot := rfl
@[simp] theorem count_power (s : State) (p : Nat) (f : Fld) : (s.count p f).power = s.power := rfl
@[simp] theorem count_heat (s : State) (p : Nat) (f : Fld) : (s.count p f).heat = s.heat := rfl
@[simp] theorem count_slots (s : State) (p : Nat) (f : Fld) : (s.count p f).slots = s.slots := rfl
@[simp] theorem count_bridge (s : State) (p : Nat) (f : Fld) : (s.count p f).bridge = s.bridge := rfl
@[simp] theorem count_log (s : State) (p : Nat) (f : Fld) : (s.count p f).log = s.log := rfl
@[simp] theorem count_fault (s : State) (p : Nat) (f : Fld) : (s.count p f).fault = s.fault := rfl
@[simp] theorem count_wake (s : State) (p : Nat) (f : Fld) : (s.count p f).wake = s.wake := rfl
@[simp] theorem count_time (s : State) (p : Nat) (f : Fld) : (s.count p f).time = s.time := rfl
@[simp] theorem count_eth (s : State) (p : Nat) (f : Fld) : (s.count p f).eth = s.eth := rfl
@[simp] theorem count_fwd (s : State) (p : Nat) (f : Fld) : (s.count p f).fwd = s.fwd := rfl
@[simp] theorem count_drops (s : State) (p : Nat) (f : Fld) : (s.count p f).drops = s.drops := rfl
@[simp] theorem count_key (s : State) (p : Nat) (f : Fld) : (s.count p f).key = s.key := rfl
@[simp] theorem count_rings (s : State) (p : Nat) (f : Fld) : (s.count p f).rings = s.rings := rfl
@[simp] theorem count_can (s : State) (p : Nat) (f : Fld) : (s.count p f).can = s.can := rfl
@[simp] theorem count_lin (s : State) (p : Nat) (f : Fld) : (s.count p f).lin = s.lin := rfl
@[simp] theorem count_relay (s : State) (p : Nat) (f : Fld) : (s.count p f).relay = s.relay := rfl
@[simp] theorem count_test (s : State) (p : Nat) (f : Fld) : (s.count p f).test = s.test := rfl

/-! ### countSat -/

@[simp] theorem countSat_pending (s : State) (p : Nat) (f : Fld) : (s.countSat p f).pending = s.pending := rfl
@[simp] theorem countSat_wide (s : State) (p : Nat) (f : Fld) : (s.countSat p f).wide = s.wide := rfl
@[simp] theorem countSat_snap (s : State) (p : Nat) (f : Fld) : (s.countSat p f).snap = s.snap := rfl
@[simp] theorem countSat_views (s : State) (p : Nat) (f : Fld) : (s.countSat p f).views = s.views := rfl
@[simp] theorem countSat_owners (s : State) (p : Nat) (f : Fld) : (s.countSat p f).owners = s.owners := rfl
@[simp] theorem countSat_rdata (s : State) (p : Nat) (f : Fld) : (s.countSat p f).rdata = s.rdata := rfl
@[simp] theorem countSat_outbox (s : State) (p : Nat) (f : Fld) : (s.countSat p f).outbox = s.outbox := rfl
@[simp] theorem countSat_freeIx (s : State) (p : Nat) (f : Fld) : (s.countSat p f).freeIx = s.freeIx := rfl
@[simp] theorem countSat_timers (s : State) (p : Nat) (f : Fld) : (s.countSat p f).timers = s.timers := rfl
@[simp] theorem countSat_mode (s : State) (p : Nat) (f : Fld) : (s.countSat p f).mode = s.mode := rfl
@[simp] theorem countSat_boot (s : State) (p : Nat) (f : Fld) : (s.countSat p f).boot = s.boot := rfl
@[simp] theorem countSat_power (s : State) (p : Nat) (f : Fld) : (s.countSat p f).power = s.power := rfl
@[simp] theorem countSat_heat (s : State) (p : Nat) (f : Fld) : (s.countSat p f).heat = s.heat := rfl
@[simp] theorem countSat_slots (s : State) (p : Nat) (f : Fld) : (s.countSat p f).slots = s.slots := rfl
@[simp] theorem countSat_bridge (s : State) (p : Nat) (f : Fld) : (s.countSat p f).bridge = s.bridge := rfl
@[simp] theorem countSat_log (s : State) (p : Nat) (f : Fld) : (s.countSat p f).log = s.log := rfl
@[simp] theorem countSat_fault (s : State) (p : Nat) (f : Fld) : (s.countSat p f).fault = s.fault := rfl
@[simp] theorem countSat_wake (s : State) (p : Nat) (f : Fld) : (s.countSat p f).wake = s.wake := rfl
@[simp] theorem countSat_time (s : State) (p : Nat) (f : Fld) : (s.countSat p f).time = s.time := rfl
@[simp] theorem countSat_eth (s : State) (p : Nat) (f : Fld) : (s.countSat p f).eth = s.eth := rfl
@[simp] theorem countSat_fwd (s : State) (p : Nat) (f : Fld) : (s.countSat p f).fwd = s.fwd := rfl
@[simp] theorem countSat_drops (s : State) (p : Nat) (f : Fld) : (s.countSat p f).drops = s.drops := rfl
@[simp] theorem countSat_key (s : State) (p : Nat) (f : Fld) : (s.countSat p f).key = s.key := rfl
@[simp] theorem countSat_rings (s : State) (p : Nat) (f : Fld) : (s.countSat p f).rings = s.rings := rfl
@[simp] theorem countSat_can (s : State) (p : Nat) (f : Fld) : (s.countSat p f).can = s.can := rfl
@[simp] theorem countSat_lin (s : State) (p : Nat) (f : Fld) : (s.countSat p f).lin = s.lin := rfl
@[simp] theorem countSat_relay (s : State) (p : Nat) (f : Fld) : (s.countSat p f).relay = s.relay := rfl
@[simp] theorem countSat_test (s : State) (p : Nat) (f : Fld) : (s.countSat p f).test = s.test := rfl

/-! ### emit -/

@[simp] theorem emit_pending (s : State) (o : Out) : (s.emit o).pending = s.pending := rfl
@[simp] theorem emit_regs (s : State) (o : Out) : (s.emit o).regs = s.regs := rfl
@[simp] theorem emit_wide (s : State) (o : Out) : (s.emit o).wide = s.wide := rfl
@[simp] theorem emit_snap (s : State) (o : Out) : (s.emit o).snap = s.snap := rfl
@[simp] theorem emit_views (s : State) (o : Out) : (s.emit o).views = s.views := rfl
@[simp] theorem emit_owners (s : State) (o : Out) : (s.emit o).owners = s.owners := rfl
@[simp] theorem emit_rdata (s : State) (o : Out) : (s.emit o).rdata = s.rdata := rfl
@[simp] theorem emit_freeIx (s : State) (o : Out) : (s.emit o).freeIx = s.freeIx := rfl
@[simp] theorem emit_timers (s : State) (o : Out) : (s.emit o).timers = s.timers := rfl
@[simp] theorem emit_mode (s : State) (o : Out) : (s.emit o).mode = s.mode := rfl
@[simp] theorem emit_boot (s : State) (o : Out) : (s.emit o).boot = s.boot := rfl
@[simp] theorem emit_power (s : State) (o : Out) : (s.emit o).power = s.power := rfl
@[simp] theorem emit_heat (s : State) (o : Out) : (s.emit o).heat = s.heat := rfl
@[simp] theorem emit_slots (s : State) (o : Out) : (s.emit o).slots = s.slots := rfl
@[simp] theorem emit_bridge (s : State) (o : Out) : (s.emit o).bridge = s.bridge := rfl
@[simp] theorem emit_log (s : State) (o : Out) : (s.emit o).log = s.log := rfl
@[simp] theorem emit_fault (s : State) (o : Out) : (s.emit o).fault = s.fault := rfl
@[simp] theorem emit_wake (s : State) (o : Out) : (s.emit o).wake = s.wake := rfl
@[simp] theorem emit_time (s : State) (o : Out) : (s.emit o).time = s.time := rfl
@[simp] theorem emit_eth (s : State) (o : Out) : (s.emit o).eth = s.eth := rfl
@[simp] theorem emit_fwd (s : State) (o : Out) : (s.emit o).fwd = s.fwd := rfl
@[simp] theorem emit_drops (s : State) (o : Out) : (s.emit o).drops = s.drops := rfl
@[simp] theorem emit_key (s : State) (o : Out) : (s.emit o).key = s.key := rfl
@[simp] theorem emit_rings (s : State) (o : Out) : (s.emit o).rings = s.rings := rfl
@[simp] theorem emit_can (s : State) (o : Out) : (s.emit o).can = s.can := rfl
@[simp] theorem emit_lin (s : State) (o : Out) : (s.emit o).lin = s.lin := rfl
@[simp] theorem emit_relay (s : State) (o : Out) : (s.emit o).relay = s.relay := rfl
@[simp] theorem emit_test (s : State) (o : Out) : (s.emit o).test = s.test := rfl

/-! ### start -/

@[simp] theorem start_pending (s : State) (t : Tmr) (d : Nat) : (s.start t d).pending = s.pending := rfl
@[simp] theorem start_regs (s : State) (t : Tmr) (d : Nat) : (s.start t d).regs = s.regs := rfl
@[simp] theorem start_wide (s : State) (t : Tmr) (d : Nat) : (s.start t d).wide = s.wide := rfl
@[simp] theorem start_snap (s : State) (t : Tmr) (d : Nat) : (s.start t d).snap = s.snap := rfl
@[simp] theorem start_views (s : State) (t : Tmr) (d : Nat) : (s.start t d).views = s.views := rfl
@[simp] theorem start_owners (s : State) (t : Tmr) (d : Nat) : (s.start t d).owners = s.owners := rfl
@[simp] theorem start_rdata (s : State) (t : Tmr) (d : Nat) : (s.start t d).rdata = s.rdata := rfl
@[simp] theorem start_outbox (s : State) (t : Tmr) (d : Nat) : (s.start t d).outbox = s.outbox := rfl
@[simp] theorem start_freeIx (s : State) (t : Tmr) (d : Nat) : (s.start t d).freeIx = s.freeIx := rfl
@[simp] theorem start_mode (s : State) (t : Tmr) (d : Nat) : (s.start t d).mode = s.mode := rfl
@[simp] theorem start_boot (s : State) (t : Tmr) (d : Nat) : (s.start t d).boot = s.boot := rfl
@[simp] theorem start_power (s : State) (t : Tmr) (d : Nat) : (s.start t d).power = s.power := rfl
@[simp] theorem start_heat (s : State) (t : Tmr) (d : Nat) : (s.start t d).heat = s.heat := rfl
@[simp] theorem start_slots (s : State) (t : Tmr) (d : Nat) : (s.start t d).slots = s.slots := rfl
@[simp] theorem start_bridge (s : State) (t : Tmr) (d : Nat) : (s.start t d).bridge = s.bridge := rfl
@[simp] theorem start_log (s : State) (t : Tmr) (d : Nat) : (s.start t d).log = s.log := rfl
@[simp] theorem start_fault (s : State) (t : Tmr) (d : Nat) : (s.start t d).fault = s.fault := rfl
@[simp] theorem start_wake (s : State) (t : Tmr) (d : Nat) : (s.start t d).wake = s.wake := rfl
@[simp] theorem start_time (s : State) (t : Tmr) (d : Nat) : (s.start t d).time = s.time := rfl
@[simp] theorem start_eth (s : State) (t : Tmr) (d : Nat) : (s.start t d).eth = s.eth := rfl
@[simp] theorem start_fwd (s : State) (t : Tmr) (d : Nat) : (s.start t d).fwd = s.fwd := rfl
@[simp] theorem start_drops (s : State) (t : Tmr) (d : Nat) : (s.start t d).drops = s.drops := rfl
@[simp] theorem start_key (s : State) (t : Tmr) (d : Nat) : (s.start t d).key = s.key := rfl
@[simp] theorem start_rings (s : State) (t : Tmr) (d : Nat) : (s.start t d).rings = s.rings := rfl
@[simp] theorem start_can (s : State) (t : Tmr) (d : Nat) : (s.start t d).can = s.can := rfl
@[simp] theorem start_lin (s : State) (t : Tmr) (d : Nat) : (s.start t d).lin = s.lin := rfl
@[simp] theorem start_relay (s : State) (t : Tmr) (d : Nat) : (s.start t d).relay = s.relay := rfl
@[simp] theorem start_test (s : State) (t : Tmr) (d : Nat) : (s.start t d).test = s.test := rfl

/-! ### stop -/

@[simp] theorem stop_pending (s : State) (t : Tmr) : (s.stop t).pending = s.pending := rfl
@[simp] theorem stop_regs (s : State) (t : Tmr) : (s.stop t).regs = s.regs := rfl
@[simp] theorem stop_wide (s : State) (t : Tmr) : (s.stop t).wide = s.wide := rfl
@[simp] theorem stop_snap (s : State) (t : Tmr) : (s.stop t).snap = s.snap := rfl
@[simp] theorem stop_views (s : State) (t : Tmr) : (s.stop t).views = s.views := rfl
@[simp] theorem stop_owners (s : State) (t : Tmr) : (s.stop t).owners = s.owners := rfl
@[simp] theorem stop_rdata (s : State) (t : Tmr) : (s.stop t).rdata = s.rdata := rfl
@[simp] theorem stop_outbox (s : State) (t : Tmr) : (s.stop t).outbox = s.outbox := rfl
@[simp] theorem stop_freeIx (s : State) (t : Tmr) : (s.stop t).freeIx = s.freeIx := rfl
@[simp] theorem stop_mode (s : State) (t : Tmr) : (s.stop t).mode = s.mode := rfl
@[simp] theorem stop_boot (s : State) (t : Tmr) : (s.stop t).boot = s.boot := rfl
@[simp] theorem stop_power (s : State) (t : Tmr) : (s.stop t).power = s.power := rfl
@[simp] theorem stop_heat (s : State) (t : Tmr) : (s.stop t).heat = s.heat := rfl
@[simp] theorem stop_slots (s : State) (t : Tmr) : (s.stop t).slots = s.slots := rfl
@[simp] theorem stop_bridge (s : State) (t : Tmr) : (s.stop t).bridge = s.bridge := rfl
@[simp] theorem stop_log (s : State) (t : Tmr) : (s.stop t).log = s.log := rfl
@[simp] theorem stop_fault (s : State) (t : Tmr) : (s.stop t).fault = s.fault := rfl
@[simp] theorem stop_wake (s : State) (t : Tmr) : (s.stop t).wake = s.wake := rfl
@[simp] theorem stop_time (s : State) (t : Tmr) : (s.stop t).time = s.time := rfl
@[simp] theorem stop_eth (s : State) (t : Tmr) : (s.stop t).eth = s.eth := rfl
@[simp] theorem stop_fwd (s : State) (t : Tmr) : (s.stop t).fwd = s.fwd := rfl
@[simp] theorem stop_drops (s : State) (t : Tmr) : (s.stop t).drops = s.drops := rfl
@[simp] theorem stop_key (s : State) (t : Tmr) : (s.stop t).key = s.key := rfl
@[simp] theorem stop_rings (s : State) (t : Tmr) : (s.stop t).rings = s.rings := rfl
@[simp] theorem stop_can (s : State) (t : Tmr) : (s.stop t).can = s.can := rfl
@[simp] theorem stop_lin (s : State) (t : Tmr) : (s.stop t).lin = s.lin := rfl
@[simp] theorem stop_relay (s : State) (t : Tmr) : (s.stop t).relay = s.relay := rfl
@[simp] theorem stop_test (s : State) (t : Tmr) : (s.stop t).test = s.test := rfl

@[simp] theorem emit_outbox (s : State) (o : Out) : (s.emit o).outbox = s.outbox ++ [o] := rfl

end Sys2Proof.Laws
end

