-- ==== Sys2Proof/Laws/Ops.lean ====
section
/-! SUPPORT. What reporting leaves unchanged: messages, FAULT_N, event bits, captures and records touch the registers of their page, the bridges,
the pin and its timer, the log and the record of outputs, and nothing else. -/

namespace Sys2Proof.Laws

open Sys2Proof.Machine

/-- `t` is `s` with messages sent or pending and FAULT_N asserted: it differs in the record of outputs, the bridges, the pin and the timers
only. -/
def Signals (s t : State) : Prop :=
  ∃ o b f m, t = { s with outbox := o, bridge := b, fault := f, timers := m }

theorem Signals.refl (s : State) : Signals s s := ⟨s.outbox, s.bridge, s.fault, s.timers, rfl⟩

theorem Signals.trans {a b c : State} (h : Signals a b) (k : Signals b c) : Signals a c := by
  obtain ⟨o, b', f, m, rfl⟩ := h
  obtain ⟨o', b'', f', m', rfl⟩ := k
  exact ⟨o', b'', f', m', rfl⟩

theorem emit_signals (s : State) (x : Out) : Signals s (s.emit x) := ⟨s.outbox ++ [x], s.bridge, s.fault, s.timers, rfl⟩

theorem message_signals (s : State) (v : Nat) : Signals s (s.message v) := by
  unfold State.message
  generalize vectorOwner v = w
  obtain ⟨fn, k⟩ := w
  dsimp only
  split
  · exact emit_signals s _
  · split
    · exact Signals.refl s
    · exact ⟨s.outbox, _, s.fault, s.timers, rfl⟩

theorem assertFaultN_signals (s : State) : Signals s s.assertFaultN := by
  unfold State.assertFaultN
  split
  · exact ⟨s.outbox, s.bridge, _, _, rfl⟩
  · exact ⟨_, s.bridge, _, _, rfl⟩

theorem signals_if {s a b : State} (c : Bool) (h : Signals s a) (k : Signals s b) : Signals s (if c = true then a else b) := by
  split
  · exact h
  · exact k

theorem aggNote_signals (a b : State) (k : Nat) : Signals b (aggNote a k b) := by
  unfold aggNote
  refine signals_if _ ?_ (Signals.refl b)
  have hc := signals_if (b.flag pgAggRoute (R.AGG_ROUTE_FAULT k)) (assertFaultN_signals b) (Signals.refl b)
  exact signals_if _ (signals_if _ hc (hc.trans (message_signals _ _))) hc

theorem fold_signals {α : Type} (f : State → α → State) (h : ∀ s x, Signals s (f s x)) (l : List α) (s : State) : Signals s (l.foldl f s) := by
  induction l generalizing s with
  | nil => exact Signals.refl s
  | cons x t ih => exact (h s x).trans (ih _)

theorem p1Note_signals (a b : State) (p : Nat) : Signals b (p1Note a p b) := by
  unfold p1Note
  exact signals_if _ (message_signals b _) (signals_if _ (message_signals b _) (Signals.refl b))

theorem pageNote_signals (a b : State) (p : Nat) : Signals b (pageNote a p b) := by
  unfold pageNote
  exact (fold_signals (fun c k => aggNote a k c) (fun s k => aggNote_signals a s k) (pageSources p) b).trans (p1Note_signals a _ p)

/-- Raising an event writes IRQ_RAW, and signals. -/
theorem raise_signals (s : State) (p i : Nat) :
    Signals (s.wr p R.IRQ_RAW.off (s.rd p R.IRQ_RAW.off ||| BitVec.ofNat 32 (2 ^ i))) (s.raise p i) :=
  pageNote_signals s _ p

theorem raise_regs (s : State) (p i : Nat) :
    (s.raise p i).regs = (s.wr p R.IRQ_RAW.off (s.rd p R.IRQ_RAW.off ||| BitVec.ofNat 32 (2 ^ i))).regs := by
  obtain ⟨o, b, f, m, h⟩ := raise_signals s p i
  rw [h]

/-! ### Raising an event -/

@[simp] theorem raise_pending (s : State) (p i : Nat) : (s.raise p i).pending = s.pending := by
  obtain ⟨o, b, g, m, h⟩ := raise_signals s p i
  rw [h, wr_pending]
@[simp] theorem raise_wide (s : State) (p i : Nat) : (s.raise p i).wide = s.wide := by
  obtain ⟨o, b, g, m, h⟩ := raise_signals s p i
  rw [h, wr_wide]
@[simp] theorem raise_snap (s : State) (p i : Nat) : (s.raise p i).snap = s.snap := by
  obtain ⟨o, b, g, m, h⟩ := raise_signals s p i
  rw [h, wr_snap]
@[simp] theorem raise_views (s : State) (p i : Nat) : (s.raise p i).views = s.views := by
  obtain ⟨o, b, g, m, h⟩ := raise_signals s p i
  rw [h, wr_views]
@[simp] theorem raise_owners (s : State) (p i : Nat) : (s.raise p i).owners = s.owners := by
  obtain ⟨o, b, g, m, h⟩ := raise_signals s p i
  rw [h, wr_owners]
@[simp] theorem raise_rdata (s : State) (p i : Nat) : (s.raise p i).rdata = s.rdata := by
  obtain ⟨o, b, g, m, h⟩ := raise_signals s p i
  rw [h, wr_rdata]
@[simp] theorem raise_freeIx (s : State) (p i : Nat) : (s.raise p i).freeIx = s.freeIx := by
  obtain ⟨o, b, g, m, h⟩ := raise_signals s p i
  rw [h, wr_freeIx]
@[simp] theorem raise_mode (s : State) (p i : Nat) : (s.raise p i).mode = s.mode := by
  obtain ⟨o, b, g, m, h⟩ := raise_signals s p i
  rw [h, wr_mode]
@[simp] theorem raise_boot (s : State) (p i : Nat) : (s.raise p i).boot = s.boot := by
  obtain ⟨o, b, g, m, h⟩ := raise_signals s p i
  rw [h, wr_boot]
@[simp] theorem raise_power (s : State) (p i : Nat) : (s.raise p i).power = s.power := by
  obtain ⟨o, b, g, m, h⟩ := raise_signals s p i
  rw [h, wr_power]
@[simp] theorem raise_heat (s : State) (p i : Nat) : (s.raise p i).heat = s.heat := by
  obtain ⟨o, b, g, m, h⟩ := raise_signals s p i
  rw [h, wr_heat]
@[simp] theorem raise_slots (s : State) (p i : Nat) : (s.raise p i).slots = s.slots := by
  obtain ⟨o, b, g, m, h⟩ := raise_signals s p i
  rw [h, wr_slots]
@[simp] theorem raise_log (s : State) (p i : Nat) : (s.raise p i).log = s.log := by
  obtain ⟨o, b, g, m, h⟩ := raise_signals s p i
  rw [h, wr_log]
@[simp] theorem raise_wake (s : State) (p i : Nat) : (s.raise p i).wake = s.wake := by
  obtain ⟨o, b, g, m, h⟩ := raise_signals s p i
  rw [h, wr_wake]
@[simp] theorem raise_time (s : State) (p i : Nat) : (s.raise p i).time = s.time := by
  obtain ⟨o, b, g, m, h⟩ := raise_signals s p i
  rw [h, wr_time]
@[simp] theorem raise_eth (s : State) (p i : Nat) : (s.raise p i).eth = s.eth := by
  obtain ⟨o, b, g, m, h⟩ := raise_signals s p i
  rw [h, wr_eth]
@[simp] theorem raise_fwd (s : State) (p i : Nat) : (s.raise p i).fwd = s.fwd := by
  obtain ⟨o, b, g, m, h⟩ := raise_signals s p i
  rw [h, wr_fwd]
@[simp] theorem raise_drops (s : State) (p i : Nat) : (s.raise p i).drops = s.drops := by
  obtain ⟨o, b, g, m, h⟩ := raise_signals s p i
  rw [h, wr_drops]
@[simp] theorem raise_key (s : State) (p i : Nat) : (s.raise p i).key = s.key := by
  obtain ⟨o, b, g, m, h⟩ := raise_signals s p i
  rw [h, wr_key]
@[simp] theorem raise_rings (s : State) (p i : Nat) : (s.raise p i).rings = s.rings := by
  obtain ⟨o, b, g, m, h⟩ := raise_signals s p i
  rw [h, wr_rings]
@[simp] theorem raise_can (s : State) (p i : Nat) : (s.raise p i).can = s.can := by
  obtain ⟨o, b, g, m, h⟩ := raise_signals s p i
  rw [h, wr_can]
@[simp] theorem raise_lin (s : State) (p i : Nat) : (s.raise p i).lin = s.lin := by
  obtain ⟨o, b, g, m, h⟩ := raise_signals s p i
  rw [h, wr_lin]
@[simp] theorem raise_relay (s : State) (p i : Nat) : (s.raise p i).relay = s.relay := by
  obtain ⟨o, b, g, m, h⟩ := raise_signals s p i
  rw [h, wr_relay]
@[simp] theorem raise_test (s : State) (p i : Nat) : (s.raise p i).test = s.test := by
  obtain ⟨o, b, g, m, h⟩ := raise_signals s p i
  rw [h, wr_test]

/-! ### Captures -/

/-- `t` differs from `s` in registers and signals only. -/
def Notes (s t : State) : Prop := ∃ r o b f m, t = { s with regs := r, outbox := o, bridge := b, fault := f, timers := m }

theorem Notes.refl (s : State) : Notes s s := ⟨s.regs, s.outbox, s.bridge, s.fault, s.timers, rfl⟩

theorem Notes.trans {a b c : State} (h : Notes a b) (k : Notes b c) : Notes a c := by
  obtain ⟨r, o, b', f, m, rfl⟩ := h
  obtain ⟨r', o', b'', f', m', rfl⟩ := k
  exact ⟨r', o', b'', f', m', rfl⟩

theorem wr_notes (s : State) (p off : Nat) (v : Word) : Notes s (s.wr p off v) := ⟨_, s.outbox, s.bridge, s.fault, s.timers, rfl⟩

theorem Signals.notes {s t : State} (h : Signals s t) : Notes s t := by
  obtain ⟨o, b, f, m, rfl⟩ := h
  exact ⟨s.regs, o, b, f, m, rfl⟩

theorem raise_notes (s : State) (p i : Nat) : Notes s (s.raise p i) := (wr_notes s p _ _).trans (raise_signals s p i).notes

theorem notes_if {s a b : State} (c : Bool) (h : Notes s a) (k : Notes s b) : Notes s (if c = true then a else b) := by
  split
  · exact h
  · exact k

theorem capture_notes (s : State) (p a c m : Nat) (n : Bool) : Notes s (s.capture p a c m n) := by
  unfold State.capture
  have h1 : Notes s (s.countSat p R.ERR_COUNT) := wr_notes s p _ _
  exact (notes_if _ (h1.trans ((wr_notes _ p _ _).trans (wr_notes _ p _ _))) h1).trans (raise_notes _ p 31)

theorem captureInternal_notes (s : State) (p a c : Nat) : Notes s (s.captureInternal p a c) := capture_notes s p a c _ _

@[simp] theorem captureInternal_pending (s : State) (p a c : Nat) : (s.captureInternal p a c).pending = s.pending := by
  obtain ⟨r, o, b, g, m, h⟩ := captureInternal_notes s p a c
  rw [h]
@[simp] theorem captureInternal_wide (s : State) (p a c : Nat) : (s.captureInternal p a c).wide = s.wide := by
  obtain ⟨r, o, b, g, m, h⟩ := captureInternal_notes s p a c
  rw [h]
@[simp] theorem captureInternal_snap (s : State) (p a c : Nat) : (s.captureInternal p a c).snap = s.snap := by
  obtain ⟨r, o, b, g, m, h⟩ := captureInternal_notes s p a c
  rw [h]
@[simp] theorem captureInternal_views (s : State) (p a c : Nat) : (s.captureInternal p a c).views = s.views := by
  obtain ⟨r, o, b, g, m, h⟩ := captureInternal_notes s p a c
  rw [h]
@[simp] theorem captureInternal_owners (s : State) (p a c : Nat) : (s.captureInternal p a c).owners = s.owners := by
  obtain ⟨r, o, b, g, m, h⟩ := captureInternal_notes s p a c
  rw [h]
@[simp] theorem captureInternal_rdata (s : State) (p a c : Nat) : (s.captureInternal p a c).rdata = s.rdata := by
  obtain ⟨r, o, b, g, m, h⟩ := captureInternal_notes s p a c
  rw [h]
@[simp] theorem captureInternal_freeIx (s : State) (p a c : Nat) : (s.captureInternal p a c).freeIx = s.freeIx := by
  obtain ⟨r, o, b, g, m, h⟩ := captureInternal_notes s p a c
  rw [h]
@[simp] theorem captureInternal_mode (s : State) (p a c : Nat) : (s.captureInternal p a c).mode = s.mode := by
  obtain ⟨r, o, b, g, m, h⟩ := captureInternal_notes s p a c
  rw [h]
@[simp] theorem captureInternal_boot (s : State) (p a c : Nat) : (s.captureInternal p a c).boot = s.boot := by
  obtain ⟨r, o, b, g, m, h⟩ := captureInternal_notes s p a c
  rw [h]
@[simp] theorem captureInternal_power (s : State) (p a c : Nat) : (s.captureInternal p a c).power = s.power := by
  obtain ⟨r, o, b, g, m, h⟩ := captureInternal_notes s p a c
  rw [h]
@[simp] theorem captureInternal_heat (s : State) (p a c : Nat) : (s.captureInternal p a c).heat = s.heat := by
  obtain ⟨r, o, b, g, m, h⟩ := captureInternal_notes s p a c
  rw [h]
@[simp] theorem captureInternal_slots (s : State) (p a c : Nat) : (s.captureInternal p a c).slots = s.slots := by
  obtain ⟨r, o, b, g, m, h⟩ := captureInternal_notes s p a c
  rw [h]
@[simp] theorem captureInternal_log (s : State) (p a c : Nat) : (s.captureInternal p a c).log = s.log := by
  obtain ⟨r, o, b, g, m, h⟩ := captureInternal_notes s p a c
  rw [h]
@[simp] theorem captureInternal_wake (s : State) (p a c : Nat) : (s.captureInternal p a c).wake = s.wake := by
  obtain ⟨r, o, b, g, m, h⟩ := captureInternal_notes s p a c
  rw [h]
@[simp] theorem captureInternal_time (s : State) (p a c : Nat) : (s.captureInternal p a c).time = s.time := by
  obtain ⟨r, o, b, g, m, h⟩ := captureInternal_notes s p a c
  rw [h]
@[simp] theorem captureInternal_eth (s : State) (p a c : Nat) : (s.captureInternal p a c).eth = s.eth := by
  obtain ⟨r, o, b, g, m, h⟩ := captureInternal_notes s p a c
  rw [h]
@[simp] theorem captureInternal_fwd (s : State) (p a c : Nat) : (s.captureInternal p a c).fwd = s.fwd := by
  obtain ⟨r, o, b, g, m, h⟩ := captureInternal_notes s p a c
  rw [h]
@[simp] theorem captureInternal_drops (s : State) (p a c : Nat) : (s.captureInternal p a c).drops = s.drops := by
  obtain ⟨r, o, b, g, m, h⟩ := captureInternal_notes s p a c
  rw [h]
@[simp] theorem captureInternal_key (s : State) (p a c : Nat) : (s.captureInternal p a c).key = s.key := by
  obtain ⟨r, o, b, g, m, h⟩ := captureInternal_notes s p a c
  rw [h]
@[simp] theorem captureInternal_rings (s : State) (p a c : Nat) : (s.captureInternal p a c).rings = s.rings := by
  obtain ⟨r, o, b, g, m, h⟩ := captureInternal_notes s p a c
  rw [h]
@[simp] theorem captureInternal_can (s : State) (p a c : Nat) : (s.captureInternal p a c).can = s.can := by
  obtain ⟨r, o, b, g, m, h⟩ := captureInternal_notes s p a c
  rw [h]
@[simp] theorem captureInternal_lin (s : State) (p a c : Nat) : (s.captureInternal p a c).lin = s.lin := by
  obtain ⟨r, o, b, g, m, h⟩ := captureInternal_notes s p a c
  rw [h]
@[simp] theorem captureInternal_relay (s : State) (p a c : Nat) : (s.captureInternal p a c).relay = s.relay := by
  obtain ⟨r, o, b, g, m, h⟩ := captureInternal_notes s p a c
  rw [h]
@[simp] theorem captureInternal_test (s : State) (p a c : Nat) : (s.captureInternal p a c).test = s.test := by
  obtain ⟨r, o, b, g, m, h⟩ := captureInternal_notes s p a c
  rw [h]

/-! ### Records -/

/-- A record touches the log only. -/
theorem record_shape (s : State) (r : LogRec) : ∃ l, s.record r = { s with log := l } := by
  unfold State.record
  split
  · exact ⟨_, rfl⟩
  · exact ⟨s.log, rfl⟩

@[simp] theorem record_pending (s : State) (r : LogRec) : (s.record r).pending = s.pending := by
  obtain ⟨l, h⟩ := record_shape s r
  rw [h]
@[simp] theorem record_regs (s : State) (r : LogRec) : (s.record r).regs = s.regs := by
  obtain ⟨l, h⟩ := record_shape s r
  rw [h]
@[simp] theorem record_wide (s : State) (r : LogRec) : (s.record r).wide = s.wide := by
  obtain ⟨l, h⟩ := record_shape s r
  rw [h]
@[simp] theorem record_snap (s : State) (r : LogRec) : (s.record r).snap = s.snap := by
  obtain ⟨l, h⟩ := record_shape s r
  rw [h]
@[simp] theorem record_views (s : State) (r : LogRec) : (s.record r).views = s.views := by
  obtain ⟨l, h⟩ := record_shape s r
  rw [h]
@[simp] theorem record_owners (s : State) (r : LogRec) : (s.record r).owners = s.owners := by
  obtain ⟨l, h⟩ := record_shape s r
  rw [h]
@[simp] theorem record_rdata (s : State) (r : LogRec) : (s.record r).rdata = s.rdata := by
  obtain ⟨l, h⟩ := record_shape s r
  rw [h]
@[simp] theorem record_outbox (s : State) (r : LogRec) : (s.record r).outbox = s.outbox := by
  obtain ⟨l, h⟩ := record_shape s r
  rw [h]
@[simp] theorem record_freeIx (s : State) (r : LogRec) : (s.record r).freeIx = s.freeIx := by
  obtain ⟨l, h⟩ := record_shape s r
  rw [h]
@[simp] theorem record_timers (s : State) (r : LogRec) : (s.record r).timers = s.timers := by
  obtain ⟨l, h⟩ := record_shape s r
  rw [h]
@[simp] theorem record_mode (s : State) (r : LogRec) : (s.record r).mode = s.mode := by
  obtain ⟨l, h⟩ := record_shape s r
  rw [h]
@[simp] theorem record_boot (s : State) (r : LogRec) : (s.record r).boot = s.boot := by
  obtain ⟨l, h⟩ := record_shape s r
  rw [h]
@[simp] theorem record_power (s : State) (r : LogRec) : (s.record r).power = s.power := by
  obtain ⟨l, h⟩ := record_shape s r
  rw [h]
@[simp] theorem record_heat (s : State) (r : LogRec) : (s.record r).heat = s.heat := by
  obtain ⟨l, h⟩ := record_shape s r
  rw [h]
@[simp] theorem record_slots (s : State) (r : LogRec) : (s.record r).slots = s.slots := by
  obtain ⟨l, h⟩ := record_shape s r
  rw [h]
@[simp] theorem record_bridge (s : State) (r : LogRec) : (s.record r).bridge = s.bridge := by
  obtain ⟨l, h⟩ := record_shape s r
  rw [h]
@[simp] theorem record_fault (s : State) (r : LogRec) : (s.record r).fault = s.fault := by
  obtain ⟨l, h⟩ := record_shape s r
  rw [h]
@[simp] theorem record_wake (s : State) (r : LogRec) : (s.record r).wake = s.wake := by
  obtain ⟨l, h⟩ := record_shape s r
  rw [h]
@[simp] theorem record_time (s : State) (r : LogRec) : (s.record r).time = s.time := by
  obtain ⟨l, h⟩ := record_shape s r
  rw [h]
@[simp] theorem record_eth (s : State) (r : LogRec) : (s.record r).eth = s.eth := by
  obtain ⟨l, h⟩ := record_shape s r
  rw [h]
@[simp] theorem record_fwd (s : State) (r : LogRec) : (s.record r).fwd = s.fwd := by
  obtain ⟨l, h⟩ := record_shape s r
  rw [h]
@[simp] theorem record_drops (s : State) (r : LogRec) : (s.record r).drops = s.drops := by
  obtain ⟨l, h⟩ := record_shape s r
  rw [h]
@[simp] theorem record_key (s : State) (r : LogRec) : (s.record r).key = s.key := by
  obtain ⟨l, h⟩ := record_shape s r
  rw [h]
@[simp] theorem record_rings (s : State) (r : LogRec) : (s.record r).rings = s.rings := by
  obtain ⟨l, h⟩ := record_shape s r
  rw [h]
@[simp] theorem record_can (s : State) (r : LogRec) : (s.record r).can = s.can := by
  obtain ⟨l, h⟩ := record_shape s r
  rw [h]
@[simp] theorem record_lin (s : State) (r : LogRec) : (s.record r).lin = s.lin := by
  obtain ⟨l, h⟩ := record_shape s r
  rw [h]
@[simp] theorem record_relay (s : State) (r : LogRec) : (s.record r).relay = s.relay := by
  obtain ⟨l, h⟩ := record_shape s r
  rw [h]
@[simp] theorem record_test (s : State) (r : LogRec) : (s.record r).test = s.test := by
  obtain ⟨l, h⟩ := record_shape s r
  rw [h]

/-! ### The answer -/

theorem settleFault_signals (s : State) : Signals s s.settleFault := by
  unfold State.settleFault
  exact signals_if _ (Signals.refl s) (signals_if _ (assertFaultN_signals s) (Signals.refl s))

@[simp] theorem settleFault_pending (s : State) : s.settleFault.pending = s.pending := by
  obtain ⟨o, b, g, m, h⟩ := settleFault_signals s
  rw [h]
@[simp] theorem settleFault_wide (s : State) : s.settleFault.wide = s.wide := by
  obtain ⟨o, b, g, m, h⟩ := settleFault_signals s
  rw [h]
@[simp] theorem settleFault_snap (s : State) : s.settleFault.snap = s.snap := by
  obtain ⟨o, b, g, m, h⟩ := settleFault_signals s
  rw [h]
@[simp] theorem settleFault_views (s : State) : s.settleFault.views = s.views := by
  obtain ⟨o, b, g, m, h⟩ := settleFault_signals s
  rw [h]
@[simp] theorem settleFault_owners (s : State) : s.settleFault.owners = s.owners := by
  obtain ⟨o, b, g, m, h⟩ := settleFault_signals s
  rw [h]
@[simp] theorem settleFault_rdata (s : State) : s.settleFault.rdata = s.rdata := by
  obtain ⟨o, b, g, m, h⟩ := settleFault_signals s
  rw [h]
@[simp] theorem settleFault_freeIx (s : State) : s.settleFault.freeIx = s.freeIx := by
  obtain ⟨o, b, g, m, h⟩ := settleFault_signals s
  rw [h]
@[simp] theorem settleFault_mode (s : State) : s.settleFault.mode = s.mode := by
  obtain ⟨o, b, g, m, h⟩ := settleFault_signals s
  rw [h]
@[simp] theorem settleFault_boot (s : State) : s.settleFault.boot = s.boot := by
  obtain ⟨o, b, g, m, h⟩ := settleFault_signals s
  rw [h]
@[simp] theorem settleFault_power (s : State) : s.settleFault.power = s.power := by
  obtain ⟨o, b, g, m, h⟩ := settleFault_signals s
  rw [h]
@[simp] theorem settleFault_heat (s : State) : s.settleFault.heat = s.heat := by
  obtain ⟨o, b, g, m, h⟩ := settleFault_signals s
  rw [h]
@[simp] theorem settleFault_slots (s : State) : s.settleFault.slots = s.slots := by
  obtain ⟨o, b, g, m, h⟩ := settleFault_signals s
  rw [h]
@[simp] theorem settleFault_log (s : State) : s.settleFault.log = s.log := by
  obtain ⟨o, b, g, m, h⟩ := settleFault_signals s
  rw [h]
@[simp] theorem settleFault_wake (s : State) : s.settleFault.wake = s.wake := by
  obtain ⟨o, b, g, m, h⟩ := settleFault_signals s
  rw [h]
@[simp] theorem settleFault_time (s : State) : s.settleFault.time = s.time := by
  obtain ⟨o, b, g, m, h⟩ := settleFault_signals s
  rw [h]
@[simp] theorem settleFault_eth (s : State) : s.settleFault.eth = s.eth := by
  obtain ⟨o, b, g, m, h⟩ := settleFault_signals s
  rw [h]
@[simp] theorem settleFault_fwd (s : State) : s.settleFault.fwd = s.fwd := by
  obtain ⟨o, b, g, m, h⟩ := settleFault_signals s
  rw [h]
@[simp] theorem settleFault_drops (s : State) : s.settleFault.drops = s.drops := by
  obtain ⟨o, b, g, m, h⟩ := settleFault_signals s
  rw [h]
@[simp] theorem settleFault_key (s : State) : s.settleFault.key = s.key := by
  obtain ⟨o, b, g, m, h⟩ := settleFault_signals s
  rw [h]
@[simp] theorem settleFault_rings (s : State) : s.settleFault.rings = s.rings := by
  obtain ⟨o, b, g, m, h⟩ := settleFault_signals s
  rw [h]
@[simp] theorem settleFault_can (s : State) : s.settleFault.can = s.can := by
  obtain ⟨o, b, g, m, h⟩ := settleFault_signals s
  rw [h]
@[simp] theorem settleFault_lin (s : State) : s.settleFault.lin = s.lin := by
  obtain ⟨o, b, g, m, h⟩ := settleFault_signals s
  rw [h]
@[simp] theorem settleFault_relay (s : State) : s.settleFault.relay = s.relay := by
  obtain ⟨o, b, g, m, h⟩ := settleFault_signals s
  rw [h]
@[simp] theorem settleFault_test (s : State) : s.settleFault.test = s.test := by
  obtain ⟨o, b, g, m, h⟩ := settleFault_signals s
  rw [h]
@[simp] theorem settleFault_regs (s : State) : s.settleFault.regs = s.regs := by
  obtain ⟨o, b, g, m, h⟩ := settleFault_signals s
  rw [h]

/-- A command always answers a next state, with the queue as it was. -/
theorem answer_next (s t : State) : ∃ u, answer s t = .next u ∧ u.pending = s.pending := ⟨_, rfl, rfl⟩

/-- Where the boot is not done, an answer settles the FAULT_N pin only. -/
theorem answer_boot (s t : State) (h : (t.boot.step == BootStep.done) = false) : answer s t = .next { t.settleFault with pending := s.pending } := by
  have h1 : t.settleTests = t := by
    unfold State.settleTests
    rw [h]
    rfl
  have h2 : t.settleScratch = t := by
    unfold State.settleScratch
    rw [bne, h]
    rfl
  unfold answer
  rw [h1, h2]

/-- Where no test waits and nothing is scratched, an answer settles the FAULT_N pin only. -/
theorem answer_quiet (s t : State) (hw : t.test.waiting = none) (hl : t.test.lapDue = false) (hs : t.test.scratch = []) :
    answer s t = .next { t.settleFault with pending := s.pending } := by
  have h1 : t.settleTests = t := by
    unfold State.settleTests State.testResume
    rw [hw, hl]
    split <;> rfl
  have h2 : t.settleScratch = t := by
    unfold State.settleScratch
    rw [hs]
    split <;> rfl
  unfold answer
  rw [h1, h2]

end Sys2Proof.Laws
end

