-- ==== Sys2Proof/Laws/PerInstr.lean ====
section
/-! SUPPORT. One lemma per command: opcode_table.json gives no row any bits, so no word spells the command. -/

namespace Sys2Proof.Laws.NotSpelled

/-- No word of any length spells the command. -/
def Statement (c : Instr) : Prop := ∀ nbits w : Nat, decodeTableWord nbits w ≠ some c

theorem of_any (c : Instr) : Statement c := fun _ _ => nofun

theorem trimReq (m : Master) (on : Bool) : Statement (.trimReq m on) := of_any _
theorem restReq (m : Master) (trim : Bool) : Statement (.restReq m trim) := of_any _
theorem serviceReqHalt (m : Master) (trim : Bool) : Statement (.serviceReqHalt m trim) := of_any _
theorem serviceReqMaintain (m : Master) (trim : Bool) : Statement (.serviceReqMaintain m trim) := of_any _
theorem serviceReqLeaveMaintain (m : Master) (trim : Bool) : Statement (.serviceReqLeaveMaintain m trim) := of_any _
theorem quarClear (m : Master) (trim : Bool) : Statement (.quarClear m trim) := of_any _
theorem droopDetect : Statement (.droopDetect) := of_any _
theorem droopCrit : Statement (.droopCrit) := of_any _
theorem thermalSample (samples : List Int) : Statement (.thermalSample samples) := of_any _
theorem trimHoldExpiry : Statement (.trimHoldExpiry) := of_any _
theorem pgMainLoss : Statement (.pgMainLoss) := of_any _
theorem pgHoldExpiry : Statement (.pgHoldExpiry) := of_any _
theorem domainGroupStart : Statement (.domainGroupStart) := of_any _
theorem domainRestore (pd : Fin 16) : Statement (.domainRestore pd) := of_any _
theorem supplyLossRest : Statement (.supplyLossRest) := of_any _
theorem tamperEvent : Statement (.tamperEvent) := of_any _
theorem runtimeRemeasure (hash : BitVec 384) : Statement (.runtimeRemeasure hash) := of_any _
theorem diagExitHoldExpiry : Statement (.diagExitHoldExpiry) := of_any _
theorem standbySwitchover : Statement (.standbySwitchover) := of_any _
theorem standbyReturn : Statement (.standbyReturn) := of_any _
theorem vaonCollapse : Statement (.vaonCollapse) := of_any _
theorem internalPorRelease (bootsel : BitVec 2) (main : Bool) (bak : Bool) : Statement (.internalPorRelease bootsel main bak) := of_any _
theorem porstAssert : Statement (.porstAssert) := of_any _
theorem porstRelease (bootsel : BitVec 2) : Statement (.porstRelease bootsel) := of_any _
theorem wrstAssert : Statement (.wrstAssert) := of_any _
theorem wrstRelease : Statement (.wrstRelease) := of_any _
theorem rstCtrlWarm (m : Master) : Statement (.rstCtrlWarm m) := of_any _
theorem rstCtrlDomRst (m : Master) (mask : BitVec 16) : Statement (.rstCtrlDomRst m mask) := of_any _
theorem watchdogExpiry : Statement (.watchdogExpiry) := of_any _
theorem pwrLeanCfgWrite (m : Master) (value : Word) : Statement (.pwrLeanCfgWrite m value) := of_any _
theorem pllLockLoss (plls : List (Fin 5)) : Statement (.pllLockLoss plls) := of_any _
theorem pllSubstituteDone : Statement (.pllSubstituteDone) := of_any _
theorem refclkLost : Statement (.refclkLost) := of_any _
theorem refclkReturn : Statement (.refclkReturn) := of_any _
theorem bootFuseSense : Statement (.bootFuseSense) := of_any _
theorem bootPllLock : Statement (.bootPllLock) := of_any _
theorem bootHostifOn : Statement (.bootHostifOn) := of_any _
theorem bootRomMbist (failures : List MemFailure) : Statement (.bootRomMbist failures) := of_any _
theorem bootImageRead (image : Option ImageFacts) : Statement (.bootImageRead image) := of_any _
theorem bootImageCheck : Statement (.bootImageCheck) := of_any _
theorem p0BootGo (m : Master) (value : Word) : Statement (.p0BootGo m value) := of_any _
theorem p0BootTimeout : Statement (.p0BootTimeout) := of_any _
theorem bootNvmRecovery (badDigest : List (Fin 512)) : Statement (.bootNvmRecovery badDigest) := of_any _
theorem bootDomainSwitchOn (pgMain : Bool) (pgBak : Bool) : Statement (.bootDomainSwitchOn pgMain pgBak) := of_any _
theorem bootDomainMbist (failures : List MemFailure) : Statement (.bootDomainMbist failures) := of_any _
theorem bootMeasurement (ok : Bool) : Statement (.bootMeasurement ok) := of_any _
theorem bootHalt : Statement (.bootHalt) := of_any _
theorem pcieDetect : Statement (.pcieDetect) := of_any _
theorem registerWrite (m : Master) (w : Window) (off : BitVec 26) (value : Word) (extent : Extent) : Statement (.registerWrite m w off value extent) := of_any _
theorem errCountRead (m : Master) (page : BitVec 14) : Statement (.errCountRead m page) := of_any _
theorem counterReadClear (m : Master) (w : Window) (span : Span) : Statement (.counterReadClear m w span) := of_any _
theorem counter64LoRead (m : Master) (page : BitVec 14) (off : BitVec 12) : Statement (.counter64LoRead m page off) := of_any _
theorem pageSoftReset (m : Master) (page : BitVec 14) (value : Word) : Statement (.pageSoftReset m page value) := of_any _
theorem pageFreeze (m : Master) (page : BitVec 14) (value : Word) : Statement (.pageFreeze m page value) := of_any _
theorem lockWrite (m : Master) (page : BitVec 14) (value : Word) : Statement (.lockWrite m page value) := of_any _
theorem lockFinal (m : Master) (page : BitVec 14) (value : Word) : Statement (.lockFinal m page value) := of_any _
theorem stagedRegisterWrite (m : Master) (page : BitVec 14) (off : BitVec 12) (value : Word) : Statement (.stagedRegisterWrite m page off value) := of_any _
theorem tblReadLive (m : Master) (page : BitVec 14) : Statement (.tblReadLive m page) := of_any _
theorem tblReadStaged (m : Master) (page : BitVec 14) : Statement (.tblReadStaged m page) := of_any _
theorem tblWriteStaged (m : Master) (page : BitVec 14) : Statement (.tblWriteStaged m page) := of_any _
theorem tblDeleteStaged (m : Master) (page : BitVec 14) : Statement (.tblDeleteStaged m page) := of_any _
theorem tblWriteDirect (m : Master) (page : BitVec 14) : Statement (.tblWriteDirect m page) := of_any _
theorem tblReadRaw (m : Master) (page : BitVec 14) : Statement (.tblReadRaw m page) := of_any _
theorem tblOwnerTimeout (page : BitVec 14) : Statement (.tblOwnerTimeout page) := of_any _
theorem heatCommit (m : Master) : Statement (.heatCommit m) := of_any _
theorem heatAbort (m : Master) : Statement (.heatAbort m) := of_any _
theorem heatDiscard (m : Master) : Statement (.heatDiscard m) := of_any _
theorem heatLoad : Statement (.heatLoad) := of_any _
theorem refereeVerdict : Statement (.refereeVerdict) := of_any _
theorem heatSwap : Statement (.heatSwap) := of_any _
theorem heatSettle : Statement (.heatSettle) := of_any _
theorem heatLateRelease : Statement (.heatLateRelease) := of_any _
theorem linkChange (port : Fin 28) (up : Bool) (lane : LaneReport) : Statement (.linkChange port up lane) := of_any _
theorem ethFrameReceive (port : Fin 28) (bytes : List Byte) (symErr : Bool) (early : Bool) : Statement (.ethFrameReceive port bytes symErr early) := of_any _
theorem mmFragmentReceive (port : Fin 28) (frag : Fragment) : Statement (.mmFragmentReceive port frag) := of_any _
theorem mmVerifyTimer (port : Fin 28) : Statement (.mmVerifyTimer port) := of_any _
theorem mmVerifyResponse (port : Fin 28) : Statement (.mmVerifyResponse port) := of_any _
theorem pauseReceive (port : Fin 28) (frame : PauseFrame) : Statement (.pauseReceive port frame) := of_any _
theorem pauseTimerExpiry (port : Fin 28) (prio : Option (Fin 8)) : Statement (.pauseTimerExpiry port prio) := of_any _
theorem pauseSend (port : Fin 28) (prio : Option (Fin 8)) : Statement (.pauseSend port prio) := of_any _
theorem pauseRepeat (port : Fin 28) (prio : Option (Fin 8)) : Statement (.pauseRepeat port prio) := of_any _
theorem plcaCycleStart (i : Fin 4) : Statement (.plcaCycleStart i) := of_any _
theorem plcaBeaconReceive (i : Fin 4) : Statement (.plcaBeaconReceive i) := of_any _
theorem plcaBeaconLoss (i : Fin 4) : Statement (.plcaBeaconLoss i) := of_any _
theorem macsecTxanWrite (m : Master) (port : Fin 28) (value : Word) : Statement (.macsecTxanWrite m port value) := of_any _
theorem mdioCmdWrite (m : Master) (pair : Fin 2) (value : Word) : Statement (.mdioCmdWrite m pair value) := of_any _
theorem mdioCommandDone (pair : Fin 2) (data : BitVec 16) : Statement (.mdioCommandDone pair data) := of_any _
theorem mdioPoll (pair : Fin 2) (values : List (BitVec 16)) : Statement (.mdioPoll pair values) := of_any _
theorem frameClassify : Statement (.frameClassify) := of_any _
theorem frameLookup (vlanBad : Bool) (daBad : Bool) (saBad : Bool) (onward : OnwardParity) : Statement (.frameLookup vlanBad daBad saBad onward) := of_any _
theorem learnServe : Statement (.learnServe) := of_any _
theorem ageTick : Statement (.ageTick) := of_any _
theorem learnFlush (m : Master) (role : Fin 2) (value : Word) : Statement (.learnFlush m role value) := of_any _
theorem fwdSeedWrite (m : Master) (k : Fin 4) (value : Word) : Statement (.fwdSeedWrite m k value) := of_any _
theorem shadowComparePass (findings : List ShadowFinding) : Statement (.shadowComparePass findings) := of_any _
theorem sliceSubstitution : Statement (.sliceSubstitution) := of_any _
theorem sliceCopyDone : Statement (.sliceCopyDone) := of_any _
theorem sliceFailure (i : Fin 3) : Statement (.sliceFailure i) := of_any _
theorem streamGateEntry (g : Fin 256) : Statement (.streamGateEntry g) := of_any _
theorem sfUnblock (m : Master) (value : Word) : Statement (.sfUnblock m value) := of_any _
theorem sgReopen (m : Master) (value : Word) : Statement (.sgReopen m value) := of_any _
theorem mtrClear (m : Master) (value : Word) : Statement (.mtrClear m value) := of_any _
theorem flowPacerRelease (k : Fin 1024) : Statement (.flowPacerRelease k) := of_any _
theorem laneSelect (port : Fin 28) (cell : CellRead) : Statement (.laneSelect port cell) := of_any _
theorem frameTransmitEnd (port : Fin 28) : Statement (.frameTransmitEnd port) := of_any _
theorem hurdleEntryStart (port : Fin 28) : Statement (.hurdleEntryStart port) := of_any _
theorem hurdleHoldIssue (port : Fin 28) : Statement (.hurdleHoldIssue port) := of_any _
theorem canFrameReceive (c : Fin 48) (frame : CanWire) (begun : Bool) : Statement (.canFrameReceive c frame begun) := of_any _
theorem canTxStart (c : Fin 48) (delay : Nat) : Statement (.canTxStart c delay) := of_any _
theorem canTxSuccess (c : Fin 48) : Statement (.canTxSuccess c) := of_any _
theorem canArbLost (c : Fin 48) : Statement (.canArbLost c) := of_any _
theorem canBusError (c : Fin 48) (e : CanError) : Statement (.canBusError c e) := of_any _
theorem busOffEnd (c : Fin 48) (seen : Nat) : Statement (.busOffEnd c seen) := of_any _
theorem canIntegrated (c : Fin 48) : Statement (.canIntegrated c) := of_any _
theorem canTimingSwitch (c : Fin 48) : Statement (.canTimingSwitch c) := of_any _
theorem txbReq (m : Master) (c : Fin 48) (b : Fin 3) : Statement (.txbReq m c b) := of_any _
theorem txbCancel (m : Master) (c : Fin 48) (b : Fin 3) : Statement (.txbCancel m c b) := of_any _
theorem txqPush (m : Master) (c : Fin 48) (value : Word) : Statement (.txqPush m c value) := of_any _
theorem txqCancel (m : Master) (c : Fin 48) (value : Word) : Statement (.txqCancel m c value) := of_any _
theorem txevRead (m : Master) (c : Fin 48) : Statement (.txevRead m c) := of_any _
theorem canLifetimeExpiry (c : Fin 48) : Statement (.canLifetimeExpiry c) := of_any _
theorem mailboxOpen (m : Master) (c : Fin 48) (i : Fin 33) : Statement (.mailboxOpen m c i) := of_any _
theorem canHandoverRequest (c : Fin 48) (core : Fin 3) : Statement (.canHandoverRequest c core) := of_any _
theorem canHandoverMove (c : Fin 48) : Statement (.canHandoverMove c) := of_any _
theorem canHandoverAbandon (c : Fin 48) : Statement (.canHandoverAbandon c) := of_any _
theorem canCoreFailure (c : Fin 48) : Statement (.canCoreFailure c) := of_any _
theorem linSlotStart (n : Fin 12) : Statement (.linSlotStart n) := of_any _
theorem linHeaderReceive (n : Fin 12) (pid : Byte) (rate : BitVec 16) : Statement (.linHeaderReceive n pid rate) := of_any _
theorem linResponseEnd (n : Fin 12) (bytes : List Byte) (framing : Bool) (bitError : Bool) : Statement (.linResponseEnd n bytes framing bitError) := of_any _
theorem linResponseTimeout (n : Fin 12) (started : Bool) : Statement (.linResponseTimeout n started) := of_any _
theorem linDataCommit (m : Master) (n : Fin 12) (id : BitVec 6) (value : Word) : Statement (.linDataCommit m n id value) := of_any _
theorem linDataRead (m : Master) (n : Fin 12) (id : BitVec 6) : Statement (.linDataRead m n id) := of_any _
theorem linWakeCmd (m : Master) (n : Fin 12) : Statement (.linWakeCmd m n) := of_any _
theorem linBusWake (n : Fin 12) (us : Nat) : Statement (.linBusWake n us) := of_any _
theorem linIdleSleep (n : Fin 12) : Statement (.linIdleSleep n) := of_any _
theorem linCommanderResume (n : Fin 12) : Statement (.linCommanderResume n) := of_any _
theorem linHandover (n : Fin 12) : Statement (.linHandover n) := of_any _
theorem relayPduEnqueue : Statement (.relayPduEnqueue) := of_any _
theorem relayPdu (badRoute : Bool) (badRecord : Option (Fin 16)) : Statement (.relayPdu badRoute badRecord) := of_any _
theorem authCeilingCommitted : Statement (.authCeilingCommitted) := of_any _
theorem monitorExpiry (k : Fin 4096) : Statement (.monitorExpiry k) := of_any _
theorem acfFlush (k : Fin 64) : Statement (.acfFlush k) := of_any _
theorem acfDeencap : Statement (.acfDeencap) := of_any _
theorem timeFanoutUpdate (cycles : Nat) (off : List Island) : Statement (.timeFanoutUpdate cycles off) := of_any _
theorem timeSet (m : Master) (k : Fin 4) : Statement (.timeSet m k) := of_any _
theorem timeAdj (m : Master) (k : Fin 4) : Statement (.timeAdj m k) := of_any _
theorem domRateWrite (m : Master) (k : Fin 4) (value : Word) : Statement (.domRateWrite m k value) := of_any _
theorem hostOfsWrite (m : Master) (k : Fin 4) (value : Word) : Statement (.hostOfsWrite m k value) := of_any _
theorem servoHoldover (k : Fin 4) : Statement (.servoHoldover k) := of_any _
theorem dualCounterCheck (diffs : List (Fin 4 × Int)) (tl : Int × Int) : Statement (.dualCounterCheck diffs tl) := of_any _
theorem timeFracRead (m : Master) (g : Fin 5) : Statement (.timeFracRead m g) := of_any _
theorem pdelayReqSend (port : Fin 24) : Statement (.pdelayReqSend port) := of_any _
theorem pdelayRespReceive (port : Fin 24) (msg : PtpMsg) : Statement (.pdelayRespReceive port msg) := of_any _
theorem pdelayTimeout (port : Fin 24) : Statement (.pdelayTimeout port) := of_any _
theorem pdelayReqReceive (port : Fin 24) (msg : PtpMsg) : Statement (.pdelayReqReceive port msg) := of_any _
theorem syncReceive (port : Fin 24) (msg : PtpMsg) : Statement (.syncReceive port msg) := of_any _
theorem followUpReceive (port : Fin 24) (msg : PtpMsg) : Statement (.followUpReceive port msg) := of_any _
theorem syncSend (port : Fin 24) (k : Fin 4) : Statement (.syncSend port k) := of_any _
theorem announceReceive (port : Fin 24) (msg : PtpMsg) (decision : Option BmcaResult) : Statement (.announceReceive port msg decision) := of_any _
theorem pistolEdge (p : Fin 16) : Statement (.pistolEdge p) := of_any _
theorem pistolPulseEnd (p : Fin 16) : Statement (.pistolPulseEnd p) := of_any _
theorem captureEdge (i : Fin 8) (rising : Bool) : Statement (.captureEdge i rising) := of_any _
theorem capTsPop (m : Master) (i : Fin 8) : Statement (.capTsPop m i) := of_any _
theorem ctsSyncPeriod (i : Fin 8) : Statement (.ctsSyncPeriod i) := of_any _
theorem ctsSyncReceive (i : Fin 8) (frame : CanWire) (sofNs : Nat) : Statement (.ctsSyncReceive i frame sofNs) := of_any _
theorem ctsFupReceive (i : Fin 8) (frame : CanWire) : Statement (.ctsFupReceive i frame) := of_any _
theorem ttWindowOpen (c : Fin 48) (j : Fin 16) : Statement (.ttWindowOpen c j) := of_any _
theorem ttWindowClose (c : Fin 48) : Statement (.ttWindowClose c) := of_any _
theorem contractStateUpdate : Statement (.contractStateUpdate) := of_any _
theorem brgFenceRead (m : Master) (fn : Fin 11) : Statement (.brgFenceRead m fn) := of_any _
theorem perrPop (m : Master) (k : Fin 2) (value : Word) : Statement (.perrPop m k value) := of_any _
theorem brgLinkChange (k : Fin 2) (up : Bool) (stat : BitVec 13) : Statement (.brgLinkChange k up stat) := of_any _
theorem ringEnable (m : Master) (fn : Fin 11) (r : Fin 32) (value : Word) : Statement (.ringEnable m fn r value) := of_any _
theorem ringDisable (m : Master) (fn : Fin 11) (r : Fin 32) (value : Word) : Statement (.ringDisable m fn r value) := of_any _
theorem ringTailWrite (m : Master) (fn : Fin 11) (r : Fin 32) (value : Word) : Statement (.ringTailWrite m fn r value) := of_any _
theorem descFetch (fn : Fin 11) (r : Fin 32) (descs : List (BitVec 256)) : Statement (.descFetch fn r descs) := of_any _
theorem rxCopyWrite (fn : Fin 11) (r : Fin 32) : Statement (.rxCopyWrite fn r) := of_any _
theorem ringWaitExpiry (fn : Fin 11) (r : Fin 32) : Statement (.ringWaitExpiry fn r) := of_any _
theorem txFrameEnter (data : List Byte) : Statement (.txFrameEnter data) := of_any _
theorem txWriteback (fn : Fin 11) (r : Fin 32) : Statement (.txWriteback fn r) := of_any _
theorem tsLostTimeout (fn : Fin 11) (r : Fin 32) : Statement (.tsLostTimeout fn r) := of_any _
theorem ringIrqModTime (fn : Fin 11) (r : Fin 32) : Statement (.ringIrqModTime fn r) := of_any _
theorem outboundReadError (fn : Fin 11) (r : Fin 32) : Statement (.outboundReadError fn r) := of_any _
theorem functionLevelReset (fn : Fin 11) : Statement (.functionLevelReset fn) := of_any _
theorem pcieHotReset (e : LinkEvent) : Statement (.pcieHotReset e) := of_any _
theorem logRecordWrite : Statement (.logRecordWrite) := of_any _
theorem logSwitchTimer : Statement (.logSwitchTimer) := of_any _
theorem logCmdRewind (m : Master) : Statement (.logCmdRewind m) := of_any _
theorem logCmdMark (m : Master) : Statement (.logCmdMark m) := of_any _
theorem logCmdRelease (m : Master) : Statement (.logCmdRelease m) := of_any _
theorem logCmdSwitch (m : Master) : Statement (.logCmdSwitch m) := of_any _
theorem logPortRead (n : Nat) : Statement (.logPortRead n) := of_any _
theorem keyLoad (m : Master) : Statement (.keyLoad m) := of_any _
theorem saltLoad (m : Master) : Statement (.saltLoad m) := of_any _
theorem attrCommit (m : Master) : Statement (.attrCommit m) := of_any _
theorem keyDerive (m : Master) (value : Word) : Statement (.keyDerive m value) := of_any _
theorem keyGenerate (m : Master) (value : Word) : Statement (.keyGenerate m value) := of_any _
theorem keyInvalidate (m : Master) (value : Word) : Statement (.keyInvalidate m value) := of_any _
theorem orphanWipe (n : Fin 256) : Statement (.orphanWipe n) := of_any _
theorem nvmWriteDone : Statement (.nvmWriteDone) := of_any _
theorem nvmVerifyFail : Statement (.nvmVerifyFail) := of_any _
theorem attGo (m : Master) (value : Word) : Statement (.attGo m value) := of_any _
theorem attDone : Statement (.attDone) := of_any _
theorem drbgFail : Statement (.drbgFail) := of_any _
theorem drbgRestart (ok : Bool) : Statement (.drbgRestart ok) := of_any _
theorem drbgOutRead (m : Master) : Statement (.drbgOutRead m) := of_any _
theorem lcReq (m : Master) (value : Word) : Statement (.lcReq m value) := of_any _
theorem lcRollbackAdvance (m : Master) (value : Word) : Statement (.lcRollbackAdvance m value) := of_any _
theorem lapStart : Statement (.lapStart) := of_any _
theorem stStartLap (m : Master) : Statement (.stStartLap m) := of_any _
theorem stStopLap (m : Master) : Statement (.stStopLap m) := of_any _
theorem stTestUnit (m : Master) (unit : BitVec 16) : Statement (.stTestUnit m unit) := of_any _
theorem stFullBist (m : Master) : Statement (.stFullBist m) := of_any _
theorem fullBistDone (results : List UnitRun) : Statement (.fullBistDone results) := of_any _
theorem stHardRepair (m : Master) : Statement (.stHardRepair m) := of_any _
theorem hardRepairDone (failures : List MemFailure) (results : List UnitRun) : Statement (.hardRepairDone failures results) := of_any _
theorem testSliceEnd (run : SliceRun) : Statement (.testSliceEnd run) := of_any _
theorem macsecHandover (port : Fin 28) : Statement (.macsecHandover port) := of_any _
theorem macsecEngineRelease : Statement (.macsecEngineRelease) := of_any _
theorem unitFailDuringTest (unit : BitVec 16) : Statement (.unitFailDuringTest unit) := of_any _
theorem macsecEngineFailure (port : Fin 28) : Statement (.macsecEngineFailure port) := of_any _
theorem mbLogPop (m : Master) : Statement (.mbLogPop m) := of_any _
theorem wkCfgWrite (m : Master) (n : Fin 16) (value : Word) : Statement (.wkCfgWrite m n value) := of_any _
theorem wakeRawChange (n : Fin 16) (ball : Bool) : Statement (.wakeRawChange n ball) := of_any _
theorem wakeDebounceExpiry (n : Fin 16) : Statement (.wakeDebounceExpiry n) := of_any _
theorem wakeHoldoffEnd (n : Fin 16) : Statement (.wakeHoldoffEnd n) := of_any _
theorem wakeStuck (n : Fin 16) : Statement (.wakeStuck n) := of_any _
theorem pnWup (c : Fin 48) : Statement (.pnWup c) := of_any _
theorem pnWuf (c : Fin 48) (ide : Bool) (id : BitVec 29) (dlc : BitVec 4) (data : List Byte) : Statement (.pnWuf c ide id dlc data) := of_any _
theorem pnFrameError (c : Fin 48) (fd : Bool) : Statement (.pnFrameError c fd) := of_any _
theorem t1sWakeSignal (i : Fin 4) : Statement (.t1sWakeSignal i) := of_any _
theorem restJournalDone : Statement (.restJournalDone) := of_any _
theorem restDomainsOff : Statement (.restDomainsOff) := of_any _
theorem restPwrReqLow : Statement (.restPwrReqLow) := of_any _
theorem wakeEvent (src : WakeSource) : Statement (.wakeEvent src) := of_any _
theorem restExitPgSample (pgMain : Bool) (pgBak : Bool) : Statement (.restExitPgSample pgMain pgBak) := of_any _
theorem pgWaitExpiry : Statement (.pgWaitExpiry) := of_any _
theorem phyWakeOutEnd (n : Fin 16) : Statement (.phyWakeOutEnd n) := of_any _
theorem faultNRelease : Statement (.faultNRelease) := of_any _
theorem faultForce (m : Master) (value : Word) : Statement (.faultForce m value) := of_any _
theorem coachLockstep : Statement (.coachLockstep) := of_any _
theorem fabricErr (victim : FabricVictim) : Statement (.fabricErr victim) := of_any _
theorem speedMismatch (port : Fin 28) (speed : Fin 8) : Statement (.speedMismatch port speed) := of_any _
theorem tamperEnd : Statement (.tamperEnd) := of_any _
theorem droopEnd (clear : Bool) : Statement (.droopEnd clear) := of_any _
theorem tsGapExpiry : Statement (.tsGapExpiry) := of_any _
theorem csmaCollision (i : Fin 4) : Statement (.csmaCollision i) := of_any _
theorem inTestStallEnd (k : Fin 2) : Statement (.inTestStallEnd k) := of_any _

end Sys2Proof.Laws.NotSpelled
end

