-- ==== Sys2Proof/Tests/Slice0.lean ====
section
/-! SUPPORT. Tests: a term that each check of WellFormed refuses, the manual's worked examples, and for every statement about a command a
state and operands that meet its hypotheses. -/

set_option maxRecDepth 1000000
set_option linter.unusedVariables false

open Sys2Proof Sys2Proof.Machine

namespace Sys2Proof.Tests

/-! ### The states of the tests -/

/-- A device after a completed boot, in RUN and OPEN, with every domain on. -/
def live : State :=
  let b : State := { State.reset with
    boot := { BootState.reset with step := .done, porstLow := false, measured := true, matched := true, detect0 := true, detect1 := true }
    mode := { ModeState.reset with service := .run, trust := .opn, measuresMatch := true }
    fault := { FaultState.reset with boot := false, pin := false } }
  (b.setF 1 R.PWR_STAT_DOMAIN_ON 0xFFFF).setF 4 R.PLL_STAT_LOCKED 0x3F

/-- `live` with one part of its modes replaced. -/
def inService (x : Service) : State := { live with mode := { live.mode with service := x } }
def inPower (x : Power) : State := { live with mode := { live.mode with power := x } }
def inTrust (x : Trust) : State := { live with mode := { live.mode with trust := x } }
def inRest (x : RestPhase) : State := { live with mode := { live.mode with rest := x, power := .rest } }

/-- A boot at the step given. -/
def atStep (x : BootStep) : State := { live with boot := { live.boot with step := x, measured := false } }

/-- A heat under check whose one record sets a flow pacer to a policy that R347 refuses. -/
def refusedHeat : Checking :=
  ⟨9, ⟨[], [⟨pgPacer, 0, false, BitVec.allOnes 256, [], [], 1⟩]⟩, 1, 0, 0, 0, false, 0, false⟩

/-- `live` with port `n` enabled, its lane mode set and its link up. -/
def portUp (n : Nat) : State :=
  let s := if n < 24 then live.setF (0x060 + n) R.LANE_CFG_MODE 2 else live
  (s.setB (macPage n) R.PAGE_CTRL_ENABLE true).setB (macPage n) R.MAC_STAT_LINK true

/-- A 64-byte frame with a good check sequence, and a frame on its way to the lookup. -/
def goodFrame : List Byte := List.replicate 60 1 ++ fcsOf (List.replicate 60 1)
def aStamp : Stamps := ⟨0, 0, 0, 0, 0, 0, .aon⟩
def aFrame : Frame := frameOf 0 (List.replicate 60 1) false false false false aStamp false 0

/-- A copy of a stored frame, its transmission from lane 3, and `portUp n` with it in lane 3 or on the line. -/
def aCopy : Copy := ⟨0, List.replicate 60 1, false, false, false, none, 0, none, false⟩
def aSending : Sending := ⟨3, aCopy, List.replicate 60 1, false, 0, 0, 0, none, none, none, none⟩
def withPacket (s : State) : State := { s with fwd := { s.fwd with packets := [(0, ⟨1, 0, 3, 1, false⟩)], nextPacket := 1 } }
def inLane (n : Nat) : State := (withPacket (portUp n)).setLane n 3 { Lane.empty with q := [aCopy] }
def onWire (n : Nat) : State :=
  (withPacket { portUp n with time := { live.time with tl := 10 ^ 21 } }).setPort n { EgressPort.idle with express := some aSending }

/-- A frame with one lane copy behind flow pacer 5. -/
def aPaced : Paced := ⟨1, 60, 0, 3, [(4, 3, aCopy)], [], [], true, none⟩

/-- A state in which the self-test controller runs unit `u` in the phase given. -/
def testing (u : Nat) (ph : TestPhase) (k : Nat) : State :=
  { live with test := { live.test with op := 1, run := some ⟨u, ph, 0, false, false, k, false, 0⟩ } }

/-- `live` with CAN channel `n` enabled and error active. -/
def canUp (n : Nat) : State := (live.setB (canPage n) R.PAGE_CTRL_ENABLE true).setF (canPage n) R.CAN_STAT_ERR_STATE 0
def aWire : CanWire := ⟨0, false, 0x123, false, false, false, false, 0, 0, 0, [1, 2, 3]⟩
def aHeld : CanHeld := ⟨CanWire.frame aWire, 0x105, true, none, none⟩
def anError (k : CanErrKind) : CanError := ⟨k, false, false, 0, false, false, false, false⟩
/-- A channel that holds a frame in buffer 1, and one that sends it. -/
def holding (n : Nat) : State := (canUp n).setChan n { CanChan.empty with bufs := [(1, aHeld)] }
def sending (n : Nat) : State := (canUp n).setChan n { CanChan.empty with bufs := [(1, aHeld)], locked := some 1 }
/-- A CAN or LIN channel handed over: the run of its test, and the core that attaches. -/
def handing (n k : Nat) (a : Option Nat) : State :=
  { live.setChan n { CanChan.empty with attached := a } with
    test := { live.test with op := 1, run := some ⟨0x200 + n, .out, 0, false, false, k, false, n⟩ } }

/-- `live` with LIN channel `n` enabled, as responder or commander, frame `id` of the direction given with two data bytes. -/
def linUp (n : Nat) (commander : Bool) (id dir : Nat) : State :=
  ((live.setB (linPage n) R.PAGE_CTRL_ENABLE true).setB (linPage n) R.LIN_CFG_ROLE commander).putPair (linPage n) id
    (BitVec.ofNat 256 (dir + 2 * 4))
def inSlot (s : State) (n : Nat) (x : LinSlot) : State := s.setLin n { LinChan.empty with slot := some x }

/-- A PDU, and a copy of it for LIN channel 2. -/
def aPdu : Pdu := ⟨3, 0, false, 0x123, false, false, false, false, 0, 0, 0, 0, [1, 2, 3], aStamp, false, none⟩
def relayCopyTo (kind : Nat) : RelayCopy := ⟨kind, 2, Pdu.msg aPdu, 0, 0, 0, none, 3, aStamp, false⟩
def withRelay (r : RelayState) : State := { live with relay := r }

/-- `live` with gPTP on port `n`, in role `role` of domain 0, link up. -/
def ptpUp (n role : Nat) : State :=
  ((portUp n).setB pgPtp (R.PTP_PORT_EN n) true).setF pgPtp (R.PTP_PORT_ROLE n) role
def aMsg (k : PtpKind) : PtpMsg := ⟨1, k, 0, false, 0, 7, 100, 5, 0, 0, 0⟩

/-- A port that asked for the delay with sequence 7, and the answer to it. -/
def asking : State := (ptpUp 3 1).setPtp 3 { ((live.ptpPort 3) : PtpPort) with asked := true, seq := 7 }
def anAnswer : PtpMsg := { aMsg .pdelayResp with requester := (BitVec.ofNat 80 (ptpIdentity 3)) }

/-- A frame of an ACF stream with a good TSCF header, a pistol whose edge is due, a slot of CAN time synchronisation on channel 3, and a
time-triggered schedule of channel 3 whose window 0 is open. -/
def acfFrame : Frame :=
  { aFrame with bytes := List.replicate 12 1 ++ [0x22, 0xF0, 0x05, 0x80] ++ List.replicate 46 0 }
def pistolUp : State :=
  let s := ((live.setB pgPistol (R.PST_CFG_EN 2) true).setF pgTime R.TIME_STAT_VALID 15).setB pgTime R.TIME_STAT_ON_REF false
  { s with time := { s.time with pistols := [(2, ⟨some (0, 0), none⟩)] } }
def ctsUp (slave : Bool) : State :=
  ((((((canUp 3).setB pgCts (R.CTS_CFG_EN 2) true).setB pgCts (R.CTS_CFG_DIR 2) slave).setF pgCts (R.CTS_CFG_CHANNEL 2) 3).setF pgCts
    (R.CTS_ID 2) 0x123).setF pgCts (R.CTS_TIME_PERIOD 2) 5).setF pgTime R.TIME_STAT_VALID 15
def ttUp : State :=
  let s := ((canUp 3).putPair pgTt (ttHeader 3) (eSet (eSet (eSet 0 29 0 1000000000) 83 83 1) 88 84 1)).putPair pgTt (ttEntry 3 0)
    (eSet 0 61 32 1000)
  ({ s with time := { s.time with tt := [(3, 0)] } } : State).setF pgTime R.TIME_STAT_VALID 15

/-- The schedule of channel 3 with a window of buffer 1 whose time is over, and the buffer still held. -/
def ttShutting : State := ttUp.setChan 3 { CanChan.empty with windows := [(1, 0)], bufs := [(1, aHeld)] }

/-- `live` with P0's and P1's links up and ring `r` of function `fn` of 16 descriptors running, with the contents given. -/
def ringUp (fn r : Nat) (x : Ring) : State :=
  let s0 := (live.setB 0x020 R.BRG_STAT_LINK_UP true).setB 0x021 R.BRG_STAT_LINK_UP true
  let s := { s0 with bridge := { s0.bridge with numVfs := 8, vfEnable := true } }
  ((((s.setB (fnPage fn) (R.RING_CFG_EN r) true).setB (fnPage fn) (R.RING_STAT_ACTIVE r) true).setF (fnPage fn) (R.RING_SIZE r) 16).setF
    (fnPage fn) (R.RING_TAIL r) 5).setRing fn r x
def anItem : RxItem := ⟨none, 1, [1, 2, 3, 4], false, none, false, 3, 0, 0, aStamp, none, none⟩
def aTxDesc : TxDesc := ⟨0, 0x1000, 64, true, true, false, true, 3, 5, 0, false, 0, false, false, false, 0, 0, 0⟩
def aWait (known : Bool) : TxWait := ⟨7, [aTxDesc], true, [], 0, none, known, 0, false⟩

/-- `live` in DEV, OPEN, with the generator ready; slot `n` holding a key of the usage given for every master. -/
def keyUp (n usage : Nat) : State :=
  let s := { live with mode := { live.mode with life := .dev } }
  ((s.setB pgDrbg R.DRBG_STAT_READY true).setB pgDrbg R.DRBG_STAT_FAIL false).setKeySlot n
    { KeySlot.empty 4 with usage := usage, masters := 0xFFFF, lcDev := true, lcProd := true, key := 77 }
def loaded : State :=
  let s := keyUp 9 1
  { s with key := { s.key with buf1 := ⟨some 5, 6⟩ } }
/-- MAINTAIN, FULL, in the life-cycle state given, with firmware security version 3. -/
def maintaining (l : LifeCycle) : State :=
  let s := inService .maintain
  ({ s with mode := { s.mode with life := l } } : State).setF 0 R.DEV_FW_VER_SECVER 3

/-! ### WellFormed refuses an ill-formed term, one for each check -/

theorem refuse_classic_length : CanWire.wf { aWire with data := List.replicate 9 0 } = false := by decide
theorem refuse_fd_length : CanWire.wf { aWire with fmt := 1, data := List.replicate 9 0 } = false := by decide
theorem refuse_xl_empty : CanWire.wf { aWire with fmt := 2, data := [] } = false := by decide
theorem refuse_base_id : CanWire.wf { aWire with id := 2048 } = false := by decide
theorem refuse_xl_extended : CanWire.wf { aWire with fmt := 2, ide := true } = false := by decide
theorem refuse_fd_remote : CanWire.wf { aWire with fmt := 1, rtr := true, data := [] } = false := by decide
theorem refuse_classic_brs : CanWire.wf { aWire with brs := true } = false := by decide
theorem refuse_classic_sdt : CanWire.wf { aWire with sdt := 1 } = false := by decide
theorem refuse_remote_data : CanWire.wf { aWire with rtr := true } = false := by decide
theorem take_a_frame : CanWire.wf aWire = true := by decide
theorem refuse_pause_times : Instr.wf (.pauseReceive 3 ⟨false, 0, true, 0, [1, 2]⟩) = false := by decide
theorem refuse_empty_fragment : Instr.wf (.mmFragmentReceive 3 ⟨false, true, 0, 0, true, [], true, true⟩) = false := by decide
theorem refuse_memory_holder : Instr.wf (.bootRomMbist [⟨0, 0, 0, some 0x0A03⟩]) = false := by decide
theorem refuse_slice_run : Instr.wf (.testSliceEnd ⟨5, 4, 0, 0⟩) = false := by decide
theorem refuse_repeat_of_pass : Instr.wf (.fullBistDone [⟨0, [(⟨4, 4, 1, 1⟩, some ⟨4, 4, 1, 1⟩)]⟩]) = false := by decide
theorem refuse_thermal : Instr.wf (.thermalSample [20]) = false := by decide
theorem refuse_no_pll : Instr.wf (.pllLockLoss []) = false := by decide
theorem refuse_pll_twice : Instr.wf (.pllLockLoss [1, 1]) = false := by decide
theorem refuse_digest_twice : Instr.wf (.bootNvmRecovery [7, 7]) = false := by decide
theorem refuse_unaligned : Instr.wf (.counter64LoRead .m0 0 0x102) = false := by decide
theorem refuse_empty_frame : Instr.wf (.ethFrameReceive 3 [] false false) = false := by decide
theorem refuse_mdio_values : Instr.wf (.mdioPoll 0 []) = false := by decide
theorem refuse_bus_off_end : Instr.wf (.busOffEnd 3 0) = false := by decide
theorem refuse_lin_bytes : Instr.wf (.linResponseEnd 2 (List.replicate 10 0) true false) = false := by decide
theorem refuse_lin_wake : Instr.wf (.linBusWake 2 0) = false := by decide
theorem refuse_fanout : Instr.wf (.timeFanoutUpdate 0 []) = false := by decide
theorem refuse_ptp_kind : Instr.wf (.syncReceive 3 (aMsg .announce)) = false := by decide
theorem refuse_no_descriptor : Instr.wf (.descFetch 1 0 []) = false := by decide
theorem refuse_empty_transmit : Instr.wf (.txFrameEnter []) = false := by decide
theorem refuse_log_read : Instr.wf (.logPortRead 0) = false := by decide
theorem refuse_wuf_id : Instr.wf (.pnWuf 3 false 4096 0 []) = false := by decide
theorem refuse_wuf_data : Instr.wf (.pnWuf 3 true 4096 0 (List.replicate 9 0)) = false := by decide
theorem refuse_speed : Instr.wf (.speedMismatch 3 6) = false := by decide

/-- The identity of a port fits the field of a message that carries it. -/
theorem own_identity : ((BitVec.ofNat 80 (ptpIdentity 3)).toNat == ptpIdentity 3) = true := by
  have h := Config.clockIdentity.isLt
  simp only [ptpIdentity, BitVec.toNat_ofNat, beq_iff_eq]
  omega

/-! ### The manual's own figures -/

/-- Chapter 08, example 1: CAN_DBT 0x0707_1600 is a bit of 32 clocks with the sample point at 24 of 32. -/
theorem test_dbt_example :
    let s := live.wr (canPage 3) R.CAN_DBT_BRP.off 0x07071600
    (s.fdTiming 3).clocks = 32 ∧ 1 + (s.fdTiming 3).t1 = 24 := by decide

/-- Chapter 08, example 2: a cancel of a locked buffer waits, and the frame that wins is DONE with CANCEL_LATE. -/
theorem test_cancel_waits : ((sending 5).txbCancel 5 1).flag (canPage 5) (R.TXB_CTRL_CANCEL 1) = true := by decide
theorem test_cancel_late :
    ((((sending 5).txbCancel 5 1).attemptDone 5).map fun r =>
      (r.1.fld (canPage 5) (R.TXB_CTRL_OUTCOME 1), r.1.flag (canPage 5) (R.TXB_CTRL_CANCEL_LATE 1))) = some (1, true) := by decide

/-- Chapter 12, example 2: the TLPs of a frame of 1,518 bytes to 0x1_0000_0F40 start with 192 bytes, and go on with 256, or 512 under an MPS of 512. -/
theorem test_tlp_example :
    tlpLen 256 0x100000F40 1518 = 192 ∧ tlpLen 256 0x100001000 1326 = 256 ∧ tlpLen 512 0x100001000 1326 = 512 ∧ tlpLen 512 0x100001400 302 = 302 := by
  decide

/-- Chapter 10, example 1: a start of 30,813,333 ns and one quarter is 0x41D6_2C95 in PST_NS. -/
theorem test_pistol_phase :
    let s := live.wr pgPistol (R.PST_NS_NS 3).off 0x41D62C95
    s.fld pgPistol (R.PST_NS_NS 3) = 30813333 ∧ s.fld pgPistol (R.PST_NS_QNS 3) = 1 := by decide

/-- The check value of CRC-32: that of the nine characters 123456789. -/
theorem test_crc32 : crc32 [0x31, 0x32, 0x33, 0x34, 0x35, 0x36, 0x37, 0x38, 0x39] = 0xCBF43926 := by decide

/-- The ball map of R478: C47, L11, the N ball of E27 and RXP of lane 3 of P1. -/
theorem test_balls : Signal.ball (.canTx 47) = (18, 1) ∧ Signal.ball (.linRx 11) = (30, 2) ∧ Signal.ball (.t1s 3 true) = (26, 33)
    ∧ Signal.ball (.pcie 1 3 .rxp) = (31, 34) := by decide

/-- No word spells a command. -/
theorem test_no_word : decodeTableWord 32 0x12345678 = none := rfl

/-! ### What meets the hypotheses of the statements -/

theorem wit_ModeRequestsTaken :
    (∃ (s : State) (m : Master) (on : Bool), s.quiet = true ∧ (m = .m0 ∨ m = .m1) ∧ s.writable m 0x000 0x044 = true) ∧
    (∃ (s : State) (m : Master) (trim : Bool), s.quiet = true ∧ (m = .m0 ∨ m = .m1) ∧ s.writable m 0x000 0x044 = true ∧ s.mode.rest = .awake ∧
      s.mode.service ≠ .diagnose ∧ s.canWake = true) ∧
    (∃ (s : State) (m : Master) (trim : Bool), s.quiet = true ∧ (m = .m0 ∨ m = .m1) ∧ s.writable m 0x000 0x044 = true ∧ (s.mode.service = .run ∨
      s.mode.service = .diagnose)) ∧
    (∃ (s : State) (m : Master) (trim : Bool), s.quiet = true ∧ (m = .m0 ∨ m = .m1) ∧ s.writable m 0x000 0x044 = true ∧ (s.mode.service = .run ∨
      s.mode.service = .halt)) ∧
    (∃ (s : State) (m : Master) (trim : Bool), s.quiet = true ∧ (m = .m0 ∨ m = .m1) ∧ s.writable m 0x000 0x044 = true ∧ s.mode.service = .maintain) ∧
    (∃ (s : State) (trim : Bool), s.quiet = true ∧ s.writable .m1 0x000 0x044 = true ∧ s.mode.trust = .quarantine ∧ s.mode.measuresMatch = true ∧
      s.mode.tamper = false) :=
  ⟨⟨live, .m1, true, by decide⟩,
    ⟨live.setF pgWakeIn (R.WK_CFG_EN 3) 1, .m1, false, by decide⟩,
    ⟨live, .m0, false, by decide⟩,
    ⟨live, .m1, true, by decide⟩,
    ⟨inService .maintain, .m1, false, by decide⟩,
    ⟨{ live with mode := { live.mode with trust := .quarantine, measuresMatch := true, quarRecord := some ⟨2, true⟩ } }, false, by decide⟩⟩

theorem wit_PowerAxisMoves :
    (∃ (s : State), s.quiet = true ∧ s.due .trimHold = true ∧ s.mode.power = .trim ∧ s.trimCause = false) ∧
    (∃ (s : State), s.quiet = true ∧ s.settled = true ∧ (s.mode.power = .full ∨ s.mode.power = .trim)) ∧
    (∃ (s : State), s.quiet = true ∧ s.settled = true ∧ s.mode.power = .lean ∧ ((s.running .pgHold = true → s.due .pgHold = true))) ∧
    (∃ (s : State), s.quiet = true ∧ s.settled = true ∧ s.mode.power ≠ .rest) ∧
    (∃ (s : State) (g : List Nat) (l : List (List Nat)), s.quiet = true ∧ s.due .group = true ∧ s.power.groups = g :: l) ∧
    (∃ (s : State) (d : Fin 16), s.quiet = true ∧ s.power.restoring.contains d.val = true ∧ s.fault.lockstep = false) :=
  ⟨⟨inPower .trim |>.start .trimHold 0, by decide⟩,
    ⟨live, by decide⟩,
    ⟨inPower .lean, by decide⟩,
    ⟨live, by decide⟩,
    ⟨{ live with power := { live.power with groups := [[9], [10, 11]] } } |>.start .group 0, [9], [[10, 11]], by decide⟩,
    ⟨{ live with power := { live.power with restoring := [9, 15] } }, 15, by decide⟩⟩

theorem wit_SensorsSetTrim :
    (∃ (s : State), s.quiet = true ∧ s.mainOn = true) ∧
    (∃ (s : State), s.quiet = true) ∧
    (∃ (s : State), s.quiet = true ∧ s.mainOn = true) ∧
    (∃ (s : State) (l : List Int), s.quiet = true ∧ s.mainOn = true ∧ l.length = 8 ∧ ((∃ x ∈ l, (within (s.fld 2 R.PWR_SENSE_CFG_THERM_TRIM) 85 125
      : Int) ≤ x))) ∧
    (∃ (s : State) (l : List Int), s.quiet = true ∧ s.mainOn = true ∧ l.length = 8 ∧ ((∀ x ∈ l, x < (within (s.fld 2 R.PWR_SENSE_CFG_THERM_TRIM) 85
      125 : Int) - atLeast1 (s.fld 2 R.PWR_SENSE_CFG_THERM_HYST)))) ∧
    (∃ (l : List Int) (s t : State), s.quiet = true ∧ exec (.droopDetect) s = .next t) :=
  ⟨⟨live, by decide⟩,
    ⟨live, by decide⟩,
    ⟨live, by decide⟩,
    ⟨live, [20, 20, 20, 126, 20, 20, 20, 20], by decide⟩,
    ⟨live, [20, 20, 20, 30, 20, 20, 20, 20], by decide⟩,
    ⟨[], live, _, by decide, rfl⟩⟩

theorem wit_TrustAxisMoves :
    (∃ (s : State), s.quiet = true ∧ s.alive = true ∧ s.mode.trust = .sealed ∧ s.mode.power ≠ .rest) ∧
    (∃ (s : State), s.quiet = true) ∧
    (∃ (s : State) (h : BitVec 384), s.quiet = true ∧ s.clocked 1 = true ∧ s.boot.step = .done ∧ s.mode.power ≠ .rest ∧ s.fault.lockstep = false ∧
      s.mode.trust = .sealed ∧ h ≠ s.key.bodyHash) ∧
    (∃ (s : State) (h : BitVec 384), s.quiet = true ∧ s.clocked 1 = true ∧ s.boot.step = .done ∧ s.mode.power ≠ .rest ∧ s.fault.lockstep = false ∧ h
      = s.key.bodyHash) ∧
    (∃ (s : State), s.quiet = true ∧ s.due .diagExit = true ∧ s.mode.service = .diagnose) :=
  ⟨⟨inTrust .sealed, by decide⟩,
    ⟨live, by decide⟩,
    ⟨inTrust .sealed, 5, by decide⟩,
    ⟨live, 0, by decide⟩,
    ⟨inService .diagnose |>.start .diagExit 0, by decide⟩⟩

theorem wit_SuppliesAndClocks :
    (∃ (s : State), s.quiet = true ∧ s.alive = true ∧ s.flag 1 R.PWR_STAT_VSB_BAK_OK = true ∧ s.flag 1 R.PWR_STAT_VSB_SRC = false) ∧
    (∃ (s : State), s.quiet = true ∧ s.alive = true) ∧
    (∃ (s : State) (n : Fin 5), s.quiet = true ∧ s.mainOn = true ∧ s.locked n.val = true ∧ s.pll5Free = true) ∧
    (∃ (s : State) (n : Nat), s.quiet = true ∧ n < 5 ∧ s.power.substituting = some n) ∧
    (∃ (s : State), s.quiet = true ∧ s.alive = true ∧ s.flag 4 R.PLL_STAT_REF_ON_RC = false) ∧
    (∃ (s : State), s.alive = true ∧ s.flag 4 R.PLL_STAT_REF_ON_RC = true ∧ s.mode.rest = .awake ∧ s.boot.step = .done) ∧
    (∃  (s t : State), s.quiet = true ∧ exec (.standbySwitchover) s = .next t) :=
  ⟨⟨live, by decide⟩,
    ⟨live, by decide⟩,
    ⟨live, 1, by decide⟩,
    ⟨{ live with power := { live.power with substituting := some 1, heldPlls := [1] } }, 1, by decide⟩,
    ⟨live, by decide⟩,
    ⟨live.setB 4 R.PLL_STAT_REF_ON_RC true, by decide⟩,
    ⟨live, _, by decide, rfl⟩⟩

theorem wit_ResetsTakeEffect :
    (∃ (s : State) (b : BitVec 2) (x y : Bool), s.boot.internalPor = true ∧ s.boot.porstLow = false ∧ (x || y) = true) ∧
    (∃ (s : State) (b : BitVec 2), s.boot.porstLow = true ∧ s.boot.internalPor = false) ∧
    (∃ (s : State), s.alive = true ∧ s.boot.step = .done ∧ s.mode.rest = .awake) ∧
    (∃ (s : State), s.quiet = true) ∧
    (∃ (s : State) (m : Master), (m = .m0 ∨ m = .m1) ∧ s.writable m 0x005 0x040 = true ∧ s.alive = true ∧ s.boot.step = .done ∧ s.mode.rest =
      .awake) ∧
    (∃ (s : State) (m : Master) (mask : BitVec 16), s.quiet = true ∧ (m = .m0 ∨ m = .m1) ∧ s.writable m 0x005 0x040 = true) ∧
    (∃ (s : State), s.alive = true ∧ s.boot.step = .done ∧ s.mode.rest = .awake) :=
  ⟨⟨{ State.reset with boot := { BootState.reset with internalPor := true, porstLow := false } }, 1, false, true, by decide⟩,
    ⟨State.reset, 2, by decide⟩,
    ⟨live, by decide⟩,
    ⟨live, by decide⟩,
    ⟨live, .m1, by decide⟩,
    ⟨live, .m1, 0x8200, by decide⟩,
    ⟨live, by decide⟩⟩

theorem wit_LeanConfigChecked :
    (∃ (s : State) (m : Master) (v : Word), s.quiet = true ∧ s.writable m 0x001 0x040 = true ∧ s.mode.power = .lean) ∧
    (∃ (s : State) (m : Master) (v : Word), s.quiet = true ∧ s.writable m 0x001 0x040 = true ∧ s.mode.power ≠ .lean ∧ leanCost v ≤ getBits v 11 0 *
      10) ∧
    (∃ (s : State) (m : Master) (v : Word), s.quiet = true ∧ s.writable m 0x001 0x040 = true ∧ getBits v 11 0 * 10 < leanCost v) :=
  ⟨⟨inPower .lean, .m1, 0xFF, by decide⟩,
    ⟨live, .m1, 0xFF, by decide⟩,
    ⟨live, .m1, 0xFF000, by decide⟩⟩

theorem wit_BootSequenceAdvances :
    (∃ (s : State), s.boot.step = .fuses ∧ s.fuseRow < 4) ∧
    (∃ (s : State), s.boot.step = .fuses ∧ s.fuseRow = 4) ∧
    (∃ (s : State), s.boot.step = .plls ∧ s.fault.refclkLost = false) ∧
    (∃ (s : State), s.boot.step = .hostif ∧ s.boot.wrstLow = false) ∧
    (∃ (s : State) (l : List MemFailure), s.boot.step = .romMbist ∧ s.coachFails l = false) ∧
    (∃ (s : State) (f : ImageFacts), s.boot.step = .imageRead ∧ f.headerOk = true) ∧
    (∃ (s : State) (f : ImageFacts), s.boot.step = .imageCheck ∧ s.boot.image = some f ∧ f.sigOk = true ∧ s.key.rollback ≤ f.secver.toNat ∧
      f.factory = (s.mode.life == .blank)) ∧
    (∃ (s : State) (v : Word), s.boot.step = .p0Wait ∧ s.on 4 = true ∧ s.bridgeFree .m1 = true) ∧
    (∃ (s : State), s.boot.step = .p0Wait ∧ s.due .bootGo = true) ∧
    (∃ (s : State) (l : List (Fin 512)), s.boot.step = .recovery) ∧
    (∃ (s : State) (b : Bool), s.boot.step = .domains) ∧
    (∃ (s : State) (l : List MemFailure), s.boot.step = .domainMbist ∧ s.power.groups = []) ∧
    (∃ (s : State) (ok : Bool), s.boot.step = .measure) ∧
    (∃ (s : State), s.quiet = true ∧ s.boot.step = .halt) ∧
    (∃ (s : State) (h : Bool), s.quiet = true) ∧
    (∃ (s : State), s.quiet = true ∧ s.on 4 = true) ∧
    (∃ (f : Option ImageFacts) (s t : State), s.quiet = true ∧ exec (.bootFuseSense) s = .next t) ∧
    (∃ (l : List MemFailure) (s t : State), s.quiet = true ∧ exec (.bootRomMbist l) s = .next t) :=
  ⟨⟨atStep .fuses, by decide⟩,
    ⟨{ atStep .fuses with mode := { live.mode with life := .fin } }, by decide⟩,
    ⟨atStep .plls, by decide⟩,
    ⟨atStep .hostif, by decide⟩,
    ⟨atStep .romMbist, [], by decide⟩,
    ⟨atStep .imageRead, ⟨true, true, 0, false, 0, 0⟩, by decide⟩,
    ⟨{ atStep .imageCheck with boot := { (atStep .imageCheck).boot with image := some ⟨true, true, 0, true, 0, 0⟩ } }, ⟨true, true, 0, true, 0, 0⟩,
      by decide⟩,
    ⟨atStep .p0Wait, 0, by decide⟩,
    ⟨atStep .p0Wait |>.start .bootGo 0, by decide⟩,
    ⟨atStep .recovery, [], by decide⟩,
    ⟨atStep .domains, true, by decide⟩,
    ⟨atStep .domainMbist, [], by decide⟩,
    ⟨atStep .measure, true, by decide⟩,
    ⟨atStep .halt, by decide⟩,
    ⟨live, false, by decide⟩,
    ⟨live, by decide⟩,
    ⟨none, atStep .fuses, _, by decide, rfl⟩,
    ⟨[], atStep .romMbist, _, by decide, rfl⟩⟩

theorem wit_WakeSources :
    (∃ (s : State) (n : Fin 16) (ball : Bool), s.quiet = true ∧ s.alive = true ∧ (ball != s.flag pgWakeIn (R.WK_CFG_POL n.val)) ≠ s.wkRaw n.val ∧
      s.wkWatched n.val = true ∧ s.wkMasked n.val = false ∧ s.fld pgWakeIn (R.WK_LIM_CHATTER_EDGES n.val) = 0 ∧ s.fld pgWakeIn (R.WK_CFG_DEBOUNCE
      n.val) = 5) ∧
    (∃ (s : State) (n : Fin 16), s.quiet = true ∧ s.due (.debounce n.val) = true ∧ s.wkWatched n.val = true ∧ s.wkMasked n.val = false ∧ s.wkRaw
      n.val ≠ s.wkLevel n.val) ∧
    (∃ (s : State) (n : Fin 16), s.quiet = true ∧ s.due (.holdoff n.val) = true) ∧
    (∃ (s : State) (n : Fin 16), s.quiet = true ∧ s.due (.stuck n.val) = true ∧ s.wkWatched n.val = true) ∧
    (∃ (s : State) (n : Fin 16), s.quiet = true ∧ s.due (.phyWake n.val) = true) ∧
    (∃ (s : State) (m : Master) (n : Fin 16) (v : Word), s.quiet = true ∧ s.writable m 0x1D1 (0x100 + 16 * n.val) = true ∧ getBits v 3 2 ≠ 1 ∧
      getBits v 1 1 = b2n (s.flag pgWakeIn (R.WK_CFG_POL n.val)) ∧ s.flag pgWakeIn (R.WK_CFG_EN n.val) = false ∧ v.getLsbD 0 = true) ∧
    (∃ (s : State), s.quiet = true ∧ s.mode.rest = .requested ∧ s.key.writes = []) ∧
    (∃ (s : State), s.mode.rest = .committed ∧ s.due .restOff = true ∧ s.quiet = true) ∧
    (∃ (s : State), s.quiet = true ∧ s.alive = true ∧ s.mode.rest = .off ∧ s.due .restPwr = true ∧ s.mode.wakeSeen = false) ∧
    (∃ (s : State) (n : Fin 16), s.quiet = true ∧ s.alive = true ∧ s.mode.rest = .asleep ∧ s.mode.wakeSeen = false ∧ s.wkWatched n.val = true) ∧
    (∃ (s : State) (x y : Bool), s.mode.rest = .waking ∧ (x || y) = true) ∧
    (∃ (s : State), s.quiet = true ∧ s.mode.rest = .waking ∧ s.due .pgWait = true) ∧
    (∃ (s : State) (c : Fin 48), s.quiet = true ∧ s.alive = true ∧ (s.pnMode c.val = 1 ∨ s.pnMode c.val = 3)) ∧
    (∃ (s : State) (c : Fin 48) (ide : Bool) (id : BitVec 29) (n : BitVec 4) (l : List Byte), s.quiet = true ∧ s.alive = true ∧ s.pnMode c.val = 2 ∧
      s.pnMatches c.val ide id.toNat n.toNat l = true) ∧
    (∃ (s : State) (c : Fin 48), s.quiet = true ∧ s.alive = true ∧ 2 ≤ s.pnMode c.val ∧ s.fld pgPnf (R.PN_STAT_FEC c.val) < 31) ∧
    (∃ (s : State) (i : Fin 4), s.quiet = true ∧ s.alive = true ∧ s.mode.rest ≠ .awake ∧ s.flag pgT1sWake (R.T1S_WAKE_CFG_WAKE_EN i.val) = true) ∧
    (∃ (n : Fin 16) (ball : Bool) (c : Fin 48) (ide fd : Bool) (id : BitVec 29) (dlc : BitVec 4) (l : List Byte) (i : Fin 4) (s t : State), s.quiet
      = true ∧ exec (.wakeRawChange n ball) s = .next t) :=
  ⟨⟨(live.setF pgWakeIn (R.WK_CFG_EN 3) 1).setF pgWakeIn (R.WK_CFG_DEBOUNCE 3) 5 |>.setF pgWakeIn (R.WK_LIM_CHATTER_EDGES 3) 0, 3, true, by decide⟩,
    ⟨((live.setF pgWakeIn (R.WK_CFG_EN 3) 1).setB pgWakeIn (R.WK_STAT_RAW 3) true).start (.debounce 3) 0, 3, by decide⟩,
    ⟨live.start (.holdoff 3) 0, 3, by decide⟩,
    ⟨(live.setF pgWakeIn (R.WK_CFG_EN 3) 1).start (.stuck 3) 0, 3, by decide⟩,
    ⟨live.start (.phyWake 3) 0, 3, by decide⟩,
    ⟨live, .m1, 3, 1, by decide⟩,
    ⟨inRest .requested, by decide⟩,
    ⟨inRest .committed |>.start .restOff 0, by decide⟩,
    ⟨inRest .off |>.start .restPwr 0, by decide⟩,
    ⟨(inRest .asleep).setF pgWakeIn (R.WK_CFG_EN 15) 1, 15, by decide⟩,
    ⟨inRest .waking, false, true, by decide⟩,
    ⟨inRest .waking |>.start .pgWait 0, by decide⟩,
    ⟨live.setF pgPnf (R.PN_CFG_MODE 47) 1, 47, by decide⟩,
    ⟨live.setF pgPnf (R.PN_CFG_MODE 12) 2, 12, false, 0, 0, [], by decide⟩,
    ⟨live.setF pgPnf (R.PN_CFG_MODE 0) 3, 0, by decide⟩,
    ⟨(inRest .asleep).setB pgT1sWake (R.T1S_WAKE_CFG_WAKE_EN 3) true, 3, by decide⟩,
    ⟨3, true, 5, false, false, 0, 0, [], 1, live, _, by decide, rfl⟩⟩

theorem wit_FaultPinCommands :
    (∃ (s : State), s.quiet = true ∧ s.fault.pin = true ∧ s.faultHeld = false ∧ s.running .faultMin = false) ∧
    (∃ (s : State) (m : Master) (v : Word), s.quiet = true ∧ s.writable m 0x1E0 0x044 = true ∧ (v &&& accMask (· == .rw) 0x1E0 0x044).getLsbD
      R.FAULT_CTRL_FORCE.lo = true) ∧
    (∃ (s : State), s.quiet = true ∧ s.on 3 = true ∧ s.fault.lockstep = false) ∧
    (∃ (s : State) (m : Master), s.quiet = true ∧ s.windowOpen m = true) ∧
    (∃ (s : State) (m : Master) (fn : Fin 11) (off : BitVec 26) (v : Word), s.quiet = true ∧ s.windowOpen m = true ∧ Master.fn m = some fn.val) ∧
    (∃ (s : State) (fn : Fin 11) (r : Fin 32), s.quiet = true ∧ ringExists fn.val r.val = true ∧ s.on 4 = true ∧ s.ringActive fn.val r.val = true) ∧
    (∃ (m : Master) (v : Word) (s t : State), s.quiet = true ∧ exec (.faultNRelease) s = .next t) :=
  ⟨⟨{ live with fault := { live.fault with pin := true } }, by decide⟩,
    ⟨live, .m1, 1, by decide⟩,
    ⟨live, by decide⟩,
    ⟨live, .m1, by decide⟩,
    ⟨live, .m1, 0, 0x41014, 5, by decide⟩,
    ⟨ringUp 2 3 { Ring.empty with queue := [anItem] }, 2, 3, by decide⟩,
    ⟨.m1, 0, live, _, by decide, rfl⟩⟩

theorem wit_ReadsClearCounters :
    (∃ (s : State) (m : Master) (p : BitVec 14), s.quiet = true ∧ s.arrives m p.toNat 0x028 = true ∧ s.frozen p.toNat = false) ∧
    (∃ (s : State) (m : Master) (p : BitVec 14) (off : BitVec 12), s.quiet = true ∧ s.readable m p.toNat off.toNat = true ∧ countsAt p.toNat
      off.toNat = true ∧ wideCounter p.toNat off.toNat = false ∧ s.frozen p.toNat = false) ∧
    (∃ (s : State) (m : Master) (p : BitVec 14) (off : BitVec 12), s.quiet = true ∧ s.readable m p.toNat off.toNat = true ∧ wideCounter p.toNat
      off.toNat = true ∧ s.frozen p.toNat = false) :=
  ⟨⟨live.setF 0x088 R.ERR_COUNT 7, .m1, 0x088, by decide⟩,
    ⟨live.setF 0x040 R.RX_FCS_ERR 9, .m1, 0x040, BitVec.ofNat 12 R.RX_FCS_ERR.off, by decide⟩,
    ⟨live.countWide 0x040 0x080 0x1234567890, .m1, 0x040, 0x080, by decide⟩⟩

theorem wit_RegisterWritesTaken :
    (∃ (s : State) (m : Master) (p : BitVec 14) (v : Word), s.quiet = true ∧ s.headWritable m p.toNat 0x014 = true) ∧
    (∃ (s : State) (m : Master) (p : BitVec 14) (v : Word), s.quiet = true ∧ s.headWritable m p.toNat 0x008 = true ∧ softResettable p.toNat = true ∧
      s.pageUp p.toNat = true) ∧
    (∃ (s : State) (m : Master) (p : BitVec 14) (v : Word), s.quiet = true ∧ s.headWritable m p.toNat 0x008 = true ∧ s.frozen p.toNat = false ∧
      v.getLsbD 2 = false) ∧
    (∃ (s : State) (m : Master) (p : BitVec 14) (off : BitVec 12) (v : Word), s.quiet = true ∧ 0x040 ≤ p.toNat ∧ p.toNat ≤ 0x05B ∧ 0x040 ≤ off.toNat
      ∧ s.writable m p.toNat off.toNat = true ∧ accMask (· == .rws) p.toNat off.toNat ≠ 0) ∧
    (∃ (m : Master) (p : BitVec 14) (v : Word) (s t : State), s.quiet = true ∧ exec (.lockWrite m p v) s = .next t) :=
  ⟨⟨live, .m1, 0x100, 0x80000002, by decide⟩,
    ⟨live.setF 0x141 R.ERR_COUNT 3, .m1, 0x141, 0, by decide⟩,
    ⟨live.setF 0x040 R.RX_FCS_ERR 9, .m1, 0x040, 0, by decide⟩,
    ⟨live, .m1, 0x041, 0x040, 0xFFFFFFFF, by decide⟩,
    ⟨.m1, 0x040, 5, live, _, by decide, rfl⟩⟩

theorem wit_LockKept :
    (∃ (s : State) (m : Master) (p : BitVec 14) (v : Word), s.quiet = true ∧ (m = .m0 ∨ m = .m1) ∧ s.arrives m p.toNat 0x034 = true ∧ s.flag p.toNat
      R.LOCK_FINAL = false ∧ v.getLsbD 31 = false) ∧
    (∃ (s : State) (m : Master) (p : BitVec 14) (v : Word), s.quiet = true ∧ (m = .m0 ∨ m = .m1) ∧ s.arrives m p.toNat 0x034 = true ∧ s.flag p.toNat
      R.LOCK_FINAL = false) ∧
    (∃ (s : State) (m : Master) (p : BitVec 14) (v : Word), s.quiet = true ∧ (2 ≤ Master.num m ∨ s.flag p.toNat R.LOCK_FINAL = true) ∧ s.arrives m
      p.toNat 0x034 = true) :=
  ⟨⟨live, .m0, 0x100, 0x00FF0707, by decide⟩,
    ⟨live, .m1, 0x1E0, 0, by decide⟩,
    ⟨live.setB 0x100 R.LOCK_FINAL true, .m1, 0x100, 0, by decide⟩⟩

theorem wit_BridgeReports :
    (∃ (s : State) (k : Fin 2) (m : Master) (p off : Nat), s.calm = true ∧ (if k.val = 0 then s.bridge.p0.stall else s.bridge.p1.stall) = [.read m p
      off] ∧ (if k.val = 0 then s.bridge.p1.stall else s.bridge.p0.stall) = [] ∧ s.bridge.p0.link = [] ∧ s.bridge.p1.link = [] ∧ off < 0x040) ∧
    (∃ (s : State) (m : Master) (fn : Fin 11), s.quiet = true ∧ Master.fn m = some fn.val ∧ s.readable m (if fn.val == 10 then 0x032 else 0x028 +
      fn.val) 0x044 = true ∧ s.outstanding fn.val = []) ∧
    (∃ (s : State) (m : Master) (k : Fin 2) (v : Word), s.quiet = true ∧ s.writable m (0x020 + k.val) 0x04C = true) ∧
    (∃ (s : State) (k : Fin 2) (up : Bool) (stat : BitVec 13), s.quiet = true ∧ s.on 4 = true) ∧
    (∃ (m : Master) (fn : Fin 11) (k : Fin 2) (v : Word) (up : Bool) (stat : BitVec 13) (s t : State), s.quiet = true ∧ exec (.brgFenceRead m fn) s
      = .next t) :=
  ⟨⟨{ live with bridge := { live.bridge with p1 := { Bridge.reset with stall := [.read .m4 0x100 0x00C] } } }, 1, .m4, 0x100, 0x00C, by decide⟩,
    ⟨{ live with bridge := { live.bridge with failed := [(0, 3)], last := [(0, 9)] } }, .m1, 0, by decide⟩,
    ⟨live, .m1, 1, 0, by decide⟩,
    ⟨live, 0, true, 0x123, by decide⟩,
    ⟨.m1, 1, 0, 0, true, 0, live, _, by decide, rfl⟩⟩

theorem wit_TablePorts :
    (∃ (s : State) (m : Master), s.quiet = true ∧ s.writable m pgVlan 0x040 = true ∧ s.fld pgVlan R.TBL_IDX < 4096) ∧
    (∃ (s : State) (m : Master), s.quiet = true ∧ s.writable m pgVlan 0x040 = true ∧ s.fld pgVlan R.TBL_IDX < 4096) ∧
    (∃ (s : State) (m : Master), s.quiet = true ∧ s.writable m pgVlan 0x040 = true ∧ s.fld pgVlan R.TBL_IDX < 8192) ∧
    (∃ (s : State) (m : Master), s.quiet = true ∧ s.writable m pgVlan 0x040 = true ∧ s.fld pgVlan R.TBL_IDX < 4096 ∧ entryRefused pgVlan (s.fld
      pgVlan R.TBL_IDX) (s.tblData pgVlan) = 0) ∧
    (∃ (s : State) (m : Master), s.quiet = true ∧ s.writable m pgVlan 0x040 = true ∧ s.fld pgVlan R.TBL_IDX < 4096) ∧
    (∃ (s : State) (m : Master), s.quiet = true ∧ s.writable m pgImage 0x040 = true ∧ s.fld pgImage R.TBL_IDX < 8192 ∧ s.fld pgImage R.TBL_IDX %
      4096 < 2048) ∧
    (∃ (s : State) (p : BitVec 14), s.quiet = true ∧ s.due (.tblOwner p.toNat) = true) :=
  ⟨⟨(live.putPair pgVlan 5 0x123).wr pgVlan 0x044 5, .m1, by decide⟩,
    ⟨(live.putPair pgVlan 5 0x123).wr pgVlan 0x044 5, .m1, by decide⟩,
    ⟨(live.putPair pgVlan 5 0x123).wr pgVlan 0x044 0x1005, .m1, by decide⟩,
    ⟨(live.wr pgVlan 0x044 5).wr pgVlan 0x050 1, .m1, by decide⟩,
    ⟨(live.putPair pgVlan 5 0x123).wr pgVlan 0x044 5, .m1, by decide⟩,
    ⟨(live.wr pgImage 0x044 0x1003).wr pgImage 0x06C 0xABCD, .m1, by decide⟩,
    ⟨(live.latch .m1 0x088).start (.tblOwner 0x088) 0, 0x088, by decide⟩⟩

theorem wit_HeatCommands :
    (∃ (s : State) (m : Master), s.quiet = true ∧ s.writable m pgHeat 0x040 = true ∧ (s.asWritten m pgHeat).commitRefusal m = 0) ∧
    (∃ (s : State) (m : Master) (h : Armed), s.quiet = true ∧ s.writable m pgHeat 0x040 = true ∧ s.heat.checking = none ∧ s.heat.armed.find? (fun x
      => x.tag == s.rd pgHeat R.HEAT_TAG.off) = some h ∧ s.liesAhead h = true) ∧
    (∃ (s : State) (m : Master), s.quiet = true ∧ s.writable m pgHeat 0x040 = true ∧ s.heat.checking = none) ∧
    (∃ (m : Master) (s t : State), s.quiet = true ∧ exec (.heatCommit m) s = .next t) ∧
    (∃ (m : Master) (s t : State), s.quiet = true ∧ exec (.heatAbort m) s = .next t) :=
  ⟨⟨(({ live with mode := { live.mode with life := .dev } }).setF pgHeat R.HEAT_ACT_MODE_MODE 1).setF pgHeat R.HEAT_TAG 9, .m1, by decide⟩,
    ⟨(live.setF pgHeat R.HEAT_TAG 7 |> fun x => { x with heat := { x.heat with armed := [⟨7, Changes.empty, 4, 10 ^ 30, true, false, none, false,
      false, []⟩] } }), .m1, ⟨7, Changes.empty, 4, 10 ^ 30, true, false, none, false, false, []⟩, by decide⟩,
    ⟨live.stageReg 0x041 0x040 1, .m1, by decide⟩,
    ⟨.m1, live, _, by decide, rfl⟩,
    ⟨.m1, live, _, by decide, rfl⟩⟩

theorem wit_HeatProgress :
    (∃ (s : State) (k : Checking), s.quiet = true ∧ s.clocked 1 = true ∧ s.heat.checking = some k ∧ k.mode = 1 ∧ k.loaded = true ∧ (refVerdict
      (s.checkedConfigs k).1 (s.checkedConfigs k).2 k.chg (k.mode == 0) k.domain k.time).code = 0) ∧
    (∃ (s : State) (k : Checking), s.quiet = true ∧ s.clocked 1 = true ∧ s.heat.checking = some k ∧ (refVerdict (s.checkedConfigs k).1
      (s.checkedConfigs k).2 k.chg (k.mode == 0) k.domain k.time).code ≠ 0) ∧
    (∃ (s : State) (h : Armed) (l : List Armed), s.quiet = true ∧ s.clocked 0 = true ∧ s.heat.settling = none ∧ s.heat.armed = h :: l ∧ h.loaded =
      false) ∧
    (∃ (s : State) (h : Armed) (l : List Armed), s.quiet = true ∧ s.clocked 0 = true ∧ s.heat.armed = h :: l ∧ h.loaded = true ∧ h.lateTime = none ∧
      s.domainValid h.domain = true ∧ h.time ≤ s.clock h.domain ∧ h.late = false) ∧
    (∃ (s : State) (h : Armed) (l : List Armed) (x : Nat), s.quiet = true ∧ s.clocked 0 = true ∧ s.heat.armed = h :: l ∧ h.loaded = true ∧
      h.lateTime = some x ∧ x ≤ s.time.tl) ∧
    (∃ (s : State) (c : Changes) (x : Nat), s.quiet = true ∧ s.clocked 0 = true ∧ s.heat.settling = some (c, x) ∧ s.oldWork = false) :=
  ⟨⟨{ live with heat := { live.heat with checking := some ⟨9, Changes.empty, 1, 0, 0, 0, true, 0, false⟩ } }, ⟨9, Changes.empty, 1, 0, 0, 0, true,
      0, false⟩, by decide⟩,
    ⟨{ live with heat := { live.heat with checking := some refusedHeat } }, refusedHeat, by decide⟩,
    ⟨{ live with heat := { live.heat with armed := [⟨7, Changes.empty, 4, 0, false, false, none, false, false, []⟩] } }, ⟨7, Changes.empty, 4, 0,
      false, false, none, false, false, []⟩, [], by decide⟩,
    ⟨{ live with heat := { live.heat with armed := [⟨7, Changes.empty, 4, 0, true, false, none, false, false, []⟩] } }, ⟨7, Changes.empty, 4, 0,
      true, false, none, false, false, []⟩, [], by decide⟩,
    ⟨{ live with heat := { live.heat with armed := [⟨7, Changes.empty, 4, 0, true, true, some 0, false, false, []⟩] } }, ⟨7, Changes.empty, 4, 0,
      true, true, some 0, false, false, []⟩, [], 0, by decide⟩,
    ⟨{ live with heat := { live.heat with settling := some (Changes.empty, 0), live := 7 } }, Changes.empty, 0, by decide⟩⟩

theorem wit_LogbookWorks :
    (∃ (s : State) (m : Master), s.quiet = true ∧ s.writable m pgLog 0x044 = true) ∧
    (∃ (s : State) (m : Master), s.quiet = true ∧ s.writable m pgLog 0x044 = true) ∧
    (∃ (s : State) (m : Master), s.quiet = true ∧ s.writable m pgLog 0x044 = true ∧ s.log.a.st ≠ .closed ∧ s.log.b.st ≠ .closed) ∧
    (∃ (s : State) (m : Master), s.quiet = true ∧ s.writable m pgLog 0x044 = true ∧ (s.log.bank s.log.olderB).st = .closed ∧ (s.log.bank
      s.log.olderB).bytes.length ≤ s.log.place s.log.mark) ∧
    (∃ (s : State) (m : Master) (x : Bool), s.quiet = true ∧ s.writable m pgLog 0x044 = true ∧ s.log.filling = some x ∧ (s.log.bank x).bytes ≠ [] ∧
      (s.log.bank (!x)).st = .free) ∧
    (∃ (s : State) (n : Nat), s.quiet = true ∧ s.windowOpen .m4 = true ∧ s.bridgeFree .m4 = true ∧ n ≤ s.log.avail) ∧
    (∃ (s : State) (r : LogRec) (l : List LogRec), s.quiet = true ∧ s.log.coming = r :: l ∧ s.log.a.st = .closed ∧ s.log.b.st = .closed) ∧
    (∃ (s : State) (r : LogRec) (l : List LogRec) (x : Bool), s.quiet = true ∧ s.log.coming = r :: l ∧ s.log.filling = some x ∧ (s.log.bank
      x).bytes.length + (logBytes r 0 false).length ≤ bankSize) ∧
    (∃ (s : State) (x : Bool), s.quiet = true ∧ s.logSwitchDue = true ∧ s.log.filling = some x ∧ (s.log.bank x).bytes ≠ [] ∧ (s.log.bank (!x)).st =
      .free) ∧
    (∃ (m : Master) (s t : State), s.quiet = true ∧ exec (.logCmdRewind m) s = .next t) :=
  ⟨⟨{ live with log := { live.log with a := ⟨.filling, List.replicate 64 1⟩, mark := ⟨false, 32⟩ } }, .m1, by decide⟩,
    ⟨{ live with log := { live.log with a := ⟨.filling, List.replicate 64 1⟩, rp := ⟨false, 32⟩ } }, .m1, by decide⟩,
    ⟨{ live with log := { live.log with a := ⟨.filling, List.replicate 64 1⟩, mark := ⟨false, 32⟩ } }, .m1, by decide⟩,
    ⟨{ live with log := { live.log with a := ⟨.closed, List.replicate 64 1⟩, b := ⟨.filling, []⟩, mark := ⟨true, 0⟩ } }, .m1, by decide⟩,
    ⟨{ live with log := { live.log with a := ⟨.filling, [1]⟩ } }, .m1, false, by decide⟩,
    ⟨{ live with log := { live.log with a := ⟨.filling, [1, 2, 3, 4, 5, 6, 7, 8]⟩ } }, 4, by decide⟩,
    ⟨{ live with log := { live.log with a := ⟨.closed, List.replicate 64 1⟩, b := ⟨.closed, []⟩, coming := [⟨6, 1, 0, false, 2, 3, 4, 5, []⟩] } },
      ⟨6, 1, 0, false, 2, 3, 4, 5, []⟩, [], by decide⟩,
    ⟨{ live with log := { live.log with coming := [⟨6, 1, 0, false, 2, 3, 4, 5, []⟩] } }, ⟨6, 1, 0, false, 2, 3, 4, 5, []⟩, [], false, by decide⟩,
    ⟨({ (({ live with log := { live.log with a := ⟨.filling, [1]⟩ } } : State).setF pgLog R.LOG_CFG_SWITCH_TIME 1).start .logSwitch 0 with time := {
      live.time with tl := 10 ^ 24 } } : State), false, by decide⟩,
    ⟨.m1, live, _, by decide, rfl⟩⟩

theorem wit_LinkAndFrames :
    (∃ (s : State) (port : Fin 28) (lane : BitVec 5) (v : Fin 8), s.quiet = true ∧ s.linkBarred port.val = false ∧ s.flag (macPage port.val)
      R.MAC_STAT_LINK = false ∧ s.laneReady port.val lane v.val = true) ∧
    (∃ (s : State) (port : Fin 28) (lane : BitVec 5) (v : Fin 8), s.quiet = true) ∧
    (∃ (s : State) (port : Fin 28) (v : Fin 8), s.quiet = true ∧ s.portRuns port.val = true ∧ port.val < 24 ∧ s.flag (0x060 + port.val)
      R.LANE_CFG_AN_EN = true ∧ (s.laneMode port.val = 1 ∨ s.laneMode port.val = 5) ∧ v.val ≠ s.speed port.val ∧ v.val ≠ 7) ∧
    (∃ (s : State) (port : Fin 28) (l : List Byte), s.quiet = true ∧ s.portRuns port.val = true ∧ s.portEnabled port.val = true ∧ s.flag (macPage
      port.val) R.MAC_STAT_LINK = true ∧ s.running_ = true ∧ s.mode.rest = .awake ∧ s.up 8 = true ∧ 64 ≤ l.length ∧ l.length ≤ s.maxLen port.val ∧
      fcsGood l = true ∧ etherType l ≠ 0x8808 ∧ isGptp port.val l = false ∧ s.fld (macPage port.val) R.MACSEC_CTRL_VALIDATE = 0 ∧ s.secLost port.val
      = 0) ∧
    (∃ (s : State) (port : Fin 28) (l : List Byte), s.quiet = true ∧ s.portRuns port.val = true ∧ s.portEnabled port.val = true ∧ s.flag (macPage
      port.val) R.MAC_STAT_LINK = true ∧ s.running_ = false ∧ s.mode.rest = .awake ∧ 64 ≤ l.length ∧ etherType l ≠ 0x8808 ∧ isGptp port.val l =
      false) ∧
    (∃ (port : Fin 28) (speed : Fin 8) (frag : Fragment) (l : List Byte) (symErr early : Bool) (s t : State), s.quiet = true ∧ exec (.speedMismatch
      port speed) s = .next t) :=
  ⟨⟨(portUp 3).setB (macPage 3) R.MAC_STAT_LINK false, 3, 0x0B, 7, by decide⟩,
    ⟨portUp 3, 3, 0, 7, by decide⟩,
    ⟨((portUp 3).setF 0x063 R.LANE_CFG_MODE 1).setB 0x063 R.LANE_CFG_AN_EN true, 3, 2, by decide⟩,
    ⟨portUp 3, 3, goodFrame, by decide⟩,
    ⟨{ portUp 3 with mode := { live.mode with service := .halt } }, 3, goodFrame, by decide⟩,
    ⟨3, 1, ⟨false, true, 0, 0, true, [], true, true⟩, [], false, false, portUp 3, _, by decide, rfl⟩⟩

theorem wit_PreemptionAndPause :
    (∃ (s : State) (port : Fin 28) (f : Fragment), s.quiet = true ∧ s.portRuns port.val = true ∧ s.portEnabled port.val = true ∧ s.flag (macPage
      port.val) R.MAC_STAT_LINK = true ∧ s.flag (macPage port.val) R.MM_CFG_EN = true ∧ f.verify = true ∧ (s.settleLine port.val).lineFree port.val
      = true) ∧
    (∃ (s : State) (port : Fin 28) (f : Fragment), s.quiet = true ∧ s.portRuns port.val = true ∧ s.portEnabled port.val = true ∧ s.flag (macPage
      port.val) R.MAC_STAT_LINK = true ∧ s.flag (macPage port.val) R.MM_CFG_EN = true ∧ f.verify = true ∧ (s.settleLine port.val).lineFree port.val
      = false) ∧
    (∃ (s : State) (port : Fin 28) (f : Fragment), s.quiet = true ∧ s.portRuns port.val = true ∧ s.portEnabled port.val = true ∧ s.flag (macPage
      port.val) R.MAC_STAT_LINK = true ∧ s.flag (macPage port.val) R.MM_CFG_EN = true ∧ f.verify = false ∧ f.smdKnown = true ∧ f.crcOk = true ∧
      f.first = true ∧ f.last = false ∧ mget s.eth.asm port.val = none) ∧
    (∃ (s : State) (port : Fin 28) (f : Fragment) (a : Assembly), s.quiet = true ∧ s.portRuns port.val = true ∧ s.portEnabled port.val = true ∧
      s.flag (macPage port.val) R.MAC_STAT_LINK = true ∧ s.flag (macPage port.val) R.MM_CFG_EN = true ∧ f.verify = false ∧ f.smdKnown = true ∧
      f.crcOk = true ∧ f.first = false ∧ f.last = false ∧ mget s.eth.asm port.val = some a ∧ a.frame = f.frame.val ∧ a.next = f.count.val) ∧
    (∃ (s : State) (port : Fin 28) (f : Fragment) (a : Assembly), s.quiet = true ∧ s.portRuns port.val = true ∧ s.portEnabled port.val = true ∧
      s.flag (macPage port.val) R.MAC_STAT_LINK = true ∧ s.flag (macPage port.val) R.MM_CFG_EN = true ∧ f.verify = false ∧ f.smdKnown = true ∧
      f.crcOk = true ∧ f.first = false ∧ f.last = true ∧ mget s.eth.asm port.val = some a ∧ a.frame = f.frame.val ∧ a.next = f.count.val ∧ a.stale =
      false ∧ s.running_ = true ∧ s.mode.rest = .awake ∧ s.up 8 = true ∧ 64 ≤ (a.bytes ++ f.bytes).length ∧ (a.bytes ++ f.bytes).length ≤ s.maxLen
      port.val ∧ fcsGood (a.bytes ++ f.bytes) = true ∧ etherType (a.bytes ++ f.bytes) ≠ 0x8808 ∧ isGptp port.val (a.bytes ++ f.bytes) = false ∧
      s.fld (macPage port.val) R.MACSEC_CTRL_VALIDATE = 0 ∧ s.secLost port.val = 0) ∧
    (∃ (s : State) (port : Fin 28) (f : Fragment), s.quiet = true ∧ s.portRuns port.val = true ∧ s.portEnabled port.val = true ∧ s.flag (macPage
      port.val) R.MAC_STAT_LINK = true ∧ s.flag (macPage port.val) R.MM_CFG_EN = true ∧ f.verify = false ∧ f.smdKnown = true ∧ f.crcOk = true ∧
      f.first = true ∧ f.last = true ∧ mget s.eth.asm port.val = none ∧ s.running_ = true ∧ s.mode.rest = .awake ∧ s.up 8 = true ∧ 64 ≤
      f.bytes.length ∧ f.bytes.length ≤ s.maxLen port.val ∧ fcsGood f.bytes = true ∧ etherType f.bytes ≠ 0x8808 ∧ isGptp port.val f.bytes = false ∧
      s.fld (macPage port.val) R.MACSEC_CTRL_VALIDATE = 0 ∧ s.secLost port.val = 0) ∧
    (∃ (s : State) (port : Fin 28), s.quiet = true ∧ s.due (.mmVerify port.val) = true ∧ s.fld (macPage port.val) R.MM_STAT_VERIFY_STATE = 2 ∧ (mget
      s.eth.tries port.val).getD 0 < 3) ∧
    (∃ (s : State) (port : Fin 28), s.quiet = true ∧ s.due (.mmVerify port.val) = true ∧ s.fld (macPage port.val) R.MM_STAT_VERIFY_STATE = 2 ∧ 3 ≤
      (mget s.eth.tries port.val).getD 0) ∧
    (∃ (s : State) (port : Fin 28), s.quiet = true ∧ s.fld (macPage port.val) R.MM_STAT_VERIFY_STATE = 2) ∧
    (∃ (s : State) (port : Fin 28) (f : PauseFrame) (q : BitVec 16), s.quiet = true ∧ s.portRuns port.val = true ∧ s.portEnabled port.val = true ∧
      s.flag (macPage port.val) R.MAC_STAT_LINK = true ∧ f.pfc = false ∧ f.fcsOk = true ∧ f.da = 0x0180C2000001 ∧ f.times = [q] ∧ q ≠ 0 ∧ s.flag
      (macPage port.val) R.FC_CFG_PAUSE_RX = true) ∧
    (∃ (s : State) (port : Fin 28) (prio : Option (Fin 8)), s.quiet = true ∧ s.due (.pause (pauseTimer port prio)) = true) ∧
    (∃ (s : State) (port : Fin 28) (prio : Option (Fin 8)), s.quiet = true ∧ s.lineFree port.val = true ∧ s.sendsPause port.val (prio.map (·.val)) =
      true ∧ bit (s.xoffSet port.val) (pauseIx (prio.map (·.val))) = false ∧ s.fld (macPage port.val) R.FC_THRESH_XOFF_CELLS ≤ s.enteredCells
      port.val (prio.map (·.val))) ∧
    (∃ (s : State) (port : Fin 28) (prio : Option (Fin 8)), s.quiet = true ∧ s.due (.pauseRepeat (pauseTimer port prio)) = true ∧ s.sendsPause
      port.val (prio.map (·.val)) = true ∧ s.lineFree port.val = true ∧ s.xonCells port.val ≤ s.enteredCells port.val (prio.map (·.val))) ∧
    (∃ (port : Fin 28) (frame : PauseFrame) (prio : Option (Fin 8)) (s t : State), s.quiet = true ∧ exec (.mmVerifyTimer port) s = .next t) :=
  ⟨⟨(portUp 3).setB (macPage 3) R.MM_CFG_EN true, 3, ⟨true, true, 0, 0, true, [], true, true⟩, by decide⟩,
    ⟨({ ((portUp 3).setB (macPage 3) R.MM_CFG_EN true) with time := { live.time with tl := 5 } } : State).setPort 3 { EgressPort.idle with free :=
      10 ^ 30 }, 3, ⟨true, true, 0, 0, true, [], true, true⟩, by decide⟩,
    ⟨((portUp 3).setB (macPage 3) R.MM_CFG_EN true), 3, ⟨false, true, 1, 0, true, goodFrame.take 40, false, true⟩, by decide⟩,
    ⟨({ ((portUp 3).setB (macPage 3) R.MM_CFG_EN true) with eth := { live.eth with asm := [(3, ⟨1, 2, goodFrame.take 40, aStamp, false, false⟩)] } }
      : State), 3, ⟨false, false, 1, 2, true, goodFrame.drop 40, false, true⟩, ⟨1, 2, goodFrame.take 40, aStamp, false, false⟩, by decide⟩,
    ⟨({ ((portUp 3).setB (macPage 3) R.MM_CFG_EN true) with eth := { live.eth with asm := [(3, ⟨1, 2, goodFrame.take 40, aStamp, false, false⟩)] } }
      : State), 3, ⟨false, false, 1, 2, true, goodFrame.drop 40, true, true⟩, ⟨1, 2, goodFrame.take 40, aStamp, false, false⟩, by decide⟩,
    ⟨((portUp 3).setB (macPage 3) R.MM_CFG_EN true), 3, ⟨false, true, 1, 0, true, goodFrame, true, true⟩, by decide⟩,
    ⟨((portUp 3).setF (macPage 3) R.MM_STAT_VERIFY_STATE 2).start (.mmVerify 3) 0, 3, by decide⟩,
    ⟨((({ portUp 3 with eth := { live.eth with tries := [(3, 3)] } } : State).setF (macPage 3) R.MM_STAT_VERIFY_STATE 2).start (.mmVerify 3) 0), 3,
      by decide⟩,
    ⟨(portUp 3).setF (macPage 3) R.MM_STAT_VERIFY_STATE 2, 3, by decide⟩,
    ⟨(portUp 3).setB (macPage 3) R.FC_CFG_PAUSE_RX true, 3, ⟨false, 0x0180C2000001, true, 0, [7]⟩, 7, by decide⟩,
    ⟨(portUp 3).start (.pause (pauseTimer 3 (some 2))) 0, 3, some 2, by decide⟩,
    ⟨((portUp 3).setB (macPage 3) R.FC_CFG_PAUSE_TX true).setF (macPage 3) R.FC_THRESH_XOFF_CELLS 0, 3, none, by decide⟩,
    ⟨(((portUp 3).setB (macPage 3) R.FC_CFG_PAUSE_TX true).setF (macPage 3) R.FC_THRESH_XOFF_CELLS 0).start (.pauseRepeat (pauseTimer 3 none)) 0, 3,
      none, by decide⟩,
    ⟨3, ⟨false, 0, true, 0, []⟩, none, portUp 3, _, by decide, rfl⟩⟩

theorem wit_PlcaStates :
    (∃ (s : State) (i : Fin 4), s.quiet = true ∧ s.plcaOn i.val = true ∧ s.fld (t1sPage i.val) R.T1S_PLCA_CFG_NODE_ID = 0 ∧ s.mode.rest = .awake ∧
      s.cycleOver i.val = true) ∧
    (∃ (s : State) (i : Fin 4), s.quiet = true ∧ s.plcaOn i.val = true ∧ s.fld (t1sPage i.val) R.T1S_PLCA_CFG_NODE_ID ≠ 0) ∧
    (∃ (s : State) (i : Fin 4), s.quiet = true ∧ s.plcaOn i.val = true ∧ s.fld (t1sPage i.val) R.T1S_PLCA_CFG_NODE_ID = 0) ∧
    (∃ (s : State) (i : Fin 4), s.quiet = true ∧ s.due (.beacon i.val) = true) ∧
    (∃ (s : State) (i : Fin 4) (x : Sending), s.quiet = true ∧ s.flag (t1sPage i.val) R.T1S_STAT_CSMA = true ∧ (s.eport (24 + i.val)).express = some
      x) ∧
    (∃ (i : Fin 4) (s t : State), s.quiet = true ∧ exec (.plcaCycleStart i) s = .next t) :=
  ⟨⟨((portUp 25).setB (t1sPage 1) R.T1S_PLCA_CFG_PLCA_EN true).setF (t1sPage 1) R.T1S_PLCA_CFG_NODE_ID 0, 1, by decide⟩,
    ⟨((portUp 25).setB (t1sPage 1) R.T1S_PLCA_CFG_PLCA_EN true).setF (t1sPage 1) R.T1S_PLCA_CFG_NODE_ID 3, 1, by decide⟩,
    ⟨((portUp 25).setB (t1sPage 1) R.T1S_PLCA_CFG_PLCA_EN true).setF (t1sPage 1) R.T1S_PLCA_CFG_NODE_ID 0, 1, by decide⟩,
    ⟨((portUp 25).setB (t1sPage 1) R.T1S_STAT_PLCA_ACTIVE true).start (.beacon 1) 0, 1, by decide⟩,
    ⟨(onWire 25).setB (t1sPage 1) R.T1S_STAT_CSMA true, 1, aSending, by decide⟩,
    ⟨1, portUp 25, _, by decide, rfl⟩⟩

theorem wit_MdioAndTxSa :
    (∃ (s : State) (m : Master) (port : Fin 28) (v : Word), s.quiet = true ∧ s.writable m (macPage port.val) R.MACSEC_TXAN.off = true) ∧
    (∃ (s : State) (m : Master) (pair : Fin 2) (v : Word), s.quiet = true ∧ s.writable m (mdioPage pair.val) 0x044 = true ∧ s.flag (mdioPage
      pair.val) R.MDIO_STAT_BUSY = false) ∧
    (∃ (s : State) (pair : Fin 2) (data : BitVec 16) (v : Word), s.quiet = true ∧ s.clocked 0 = true ∧ mget s.eth.mdio pair.val = some v) ∧
    (∃ (s : State) (pair : Fin 2) (l : List (BitVec 16)), s.quiet = true ∧ s.on 3 = true ∧ s.clocked 0 = true ∧ s.fld (mdioPage pair.val)
      R.MDIO_CFG_POLL_INT ≠ 0 ∧ s.running (.mdioPoll pair.val) = false) ∧
    (∃ (m : Master) (port : Fin 28) (pair : Fin 2) (v : Word) (d : BitVec 16) (l : List (BitVec 16)) (s t : State), s.quiet = true ∧ exec
      (.macsecTxanWrite m port v) s = .next t) :=
  ⟨⟨live, .m1, 3, 2, by decide⟩,
    ⟨live, .m1, 1, 0x12345678, by decide⟩,
    ⟨{ live with eth := { live.eth with mdio := [(1, 2)] } }, 1, 0xBEEF, 2, by decide⟩,
    ⟨(live.setF 0x07C R.MDIO_CFG_POLL_INT 3).setF 0x07C (R.MDIO_POLL_ADDR_EN 2) 1, 0, [1, 2, 3], by decide⟩,
    ⟨.m1, 3, 1, 0, 0, [], live, _, by decide, rfl⟩⟩

theorem wit_PipelineSteps :
    (∃ (s : State) (f : Frame) (l : List Frame), s.quiet = true ∧ s.clocked 0 = true ∧ s.fwd.classQ = f :: l ∧ s.matchFilter f (s.parse f) = none ∧
      (s.identify f (s.parse f) = none ∨ s.flagAt f.epoch pgCls (R.CLS_PORT_SF_STRICT f.src) = false)) ∧
    (∃ (s : State) (f : Frame) (l : List Frame), s.quiet = true ∧ s.clocked 0 = true ∧ s.fwd.classQ = f :: l ∧ (s.classRest.classify f).code = 0) ∧
    (∃ (s : State) (f : Frame) (l : List Frame), s.quiet = true ∧ s.clocked 0 = true ∧ s.fwd.classQ = f :: l ∧ s.matchFilter f (s.parse f) = none ∧
      (s.identify f (s.parse f)).isSome = true ∧ s.flagAt f.epoch pgCls (R.CLS_PORT_SF_STRICT f.src) = true) ∧
    (∃ (s : State) (f : Frame) (l : List Frame), s.quiet = true ∧ s.clocked 0 = true ∧ s.fwd.classQ = f :: l ∧ (s.classRest.classify f).code ≠ 0) ∧
    (∃ (s : State) (f : Frame) (l : List Frame) (a b c : Bool) (d : OnwardParity), s.quiet = true ∧ s.clocked 0 = true ∧ s.fwd.lookQ = f :: l ∧
      f.src < 30 ∧ f.epoch = s.heat.liveE ∧ s.roleOf f.epoch f.src < 2 ∧ s.servingSlice (s.roleOf f.epoch f.src) < 3 ∧ s.up (5 + s.servingSlice
      (s.roleOf f.epoch f.src)) = true) ∧
    (∃ (s : State) (f : Frame) (l : List Frame), s.quiet = true ∧ s.clocked 0 = true ∧ s.fwd.lookQ = f :: l ∧ f.src < 30 ∧ f.epoch = s.heat.liveE ∧
      s.roleOf f.epoch f.src < 2 ∧ s.servingSlice (s.roleOf f.epoch f.src) < 3 ∧ s.up (5 + s.servingSlice (s.roleOf f.epoch f.src)) = true ∧
      s.pairGet pgVlan (s.frameVid f (s.parse f)) f.epoch = none ∧ f.tx = none) ∧
    (∃ (s : State) (r : LearnReq) (l : List LearnReq), s.quiet = true ∧ s.clocked 0 = true ∧ s.fwd.learnQ = r :: l ∧ s.fwd.copying = none ∧
      s.loadedChanges = [] ∧ ((∀ i ∈ (List.range 4).map (s.place pgL2 (l2Key r.vid r.mac.toNat)), (s.slot (0x200 + r.slice) i).isFree = true)) ∧
      (r.role < 2 ∧ r.vid < 4096)) :=
  ⟨⟨{ live with fwd := { live.fwd with classQ := [aFrame] } }, aFrame, [], by decide⟩,
    ⟨{ live with fwd := { live.fwd with classQ := [aFrame] } }, aFrame, [], by decide⟩,
    ⟨({ live with fwd := { live.fwd with classQ := [aFrame] } } : State).setB pgCls (R.CLS_PORT_SF_STRICT 0) true, aFrame, [], by decide⟩,
    ⟨({ live with fwd := { live.fwd with classQ := [aFrame] } } : State).setB pgCls (R.CLS_PORT_SF_STRICT 0) true, aFrame, [], by decide⟩,
    ⟨{ live with fwd := { live.fwd with lookQ := [aFrame] } }, aFrame, [], false, false, false, .good, by decide⟩,
    ⟨{ live with fwd := { live.fwd with lookQ := [aFrame] } }, aFrame, [], by decide⟩,
    ⟨{ live with fwd := { live.fwd with learnQ := [⟨0, 0, 1, 0x123456789ABC, 3, 0, false⟩] } }, ⟨0, 0, 1, 0x123456789ABC, 3, 0, false⟩, [], by
      decide⟩⟩

theorem wit_ForwardingUpkeep :
    (∃ (s : State), s.quiet = true ∧ s.clocked 0 = true ∧ s.ageNow ≠ s.fwd.ageTick) ∧
    (∃ (s : State) (m : Master) (role : Fin 2) (v : Word), s.quiet = true ∧ s.writable m (rolePage role.val) 0x060 = true ∧ s.servingSlice role.val
      < 3 ∧ s.fwd.copying = none ∧ s.flushRuns role.val = false ∧ v.getLsbD 1 = false ∧ v.getLsbD 7 = false) ∧
    (∃ (s : State) (m : Master) (k : Fin 4) (v : Word), s.quiet = true ∧ s.writable m pgFwd (0x060 + 4 * k.val) = true ∧ s.mode.service = .halt ∧
      s.heat.live = 0) ∧
    (∃ (s : State) (m : Master) (k : Fin 4) (v : Word), s.quiet = true ∧ s.writable m pgFwd (0x060 + 4 * k.val) = true ∧ (s.mode.service ≠ .halt ∨
      s.heat.live ≠ 0)) ∧
    (∃ (s : State), s.quiet = true ∧ s.clocked 0 = true ∧ s.heatMoves = false ∧ s.running .shadow = false) ∧
    (∃ (s : State) (i : Fin 3) (k : BitVec 24) (d : BitVec 256), s.quiet = true ∧ s.clocked 0 = true ∧ s.heatMoves = false ∧ s.running .shadow =
      false ∧ s.fwd.strays = [] ∧ s.poweredSlices.contains i.val = true ∧ s.up (5 + i.val) = true ∧ (s.slot pgVlan k.toNat).v = true ∧ (s.slot
      pgVlan k.toNat).b = true ∧ (s.slot pgVlan k.toNat).rsv = false ∧ d ≠ (s.slot pgVlan k.toNat).data) ∧
    (∃ (m : Master) (role : Fin 2) (k : Fin 4) (v : Word) (s t : State), s.quiet = true ∧ exec (.learnFlush m role v) s = .next t) :=
  ⟨⟨{ live with time := { live.time with tl := 10 ^ 27 } }, by decide⟩,
    ⟨live.setSlot 0x201 77 ⟨true, false, true, false, 5⟩, .m1, 1, 0, by decide⟩,
    ⟨inService .halt, .m1, 2, 0x1234, by decide⟩,
    ⟨live, .m1, 2, 0x1234, by decide⟩,
    ⟨live, by decide⟩,
    ⟨live.putPair pgVlan 5 9, 1, 10, 0, by decide⟩,
    ⟨.m1, 0, 1, 5, live, _, by decide, rfl⟩⟩

theorem wit_SlicesSubstituted :
    (∃ (s : State) (r : TestRun), s.calm = true ∧ s.test.run = some r ∧ unitClass r.unit = 1 ∧ r.phase = .out ∧ s.fwd.copying = none ∧
      s.reserveSlice < 3) ∧
    (∃ (s : State) (r a b : Nat) (x : TestRun), s.calm = true ∧ s.clocked 0 = true ∧ s.fwd.copying = some (r, a, b) ∧ r < 2 ∧ b < 3 ∧ s.test.run =
      some x) ∧
    (∃ (s : State) (i : Fin 3), s.quiet = true ∧ s.roleSlice 0 = i.val ∧ s.roleSlice 1 ≠ i.val ∧ s.reserveSlice < 3 ∧ s.reserveSlice ≠ i.val) :=
  ⟨⟨testing 0x100 .out 2, ⟨0x100, .out, 0, false, false, 2, false, 0⟩, by decide⟩,
    ⟨{ testing 0x100 .out 2 with fwd := { live.fwd with copying := some (0, 0, 2) } }, 0, 0, 2, ⟨0x100, .out, 0, false, false, 2, false, 0⟩, by
      decide⟩,
    ⟨live, 0, by decide⟩⟩

theorem wit_StreamChecksReopen :
    (∃ (s : State) (g : Fin 256) (e : Entry), s.quiet = true ∧ s.clocked 0 = true ∧ s.pairGet pgGate g.val s.heat.liveE = some e ∧ gLength e ≠ 0 ∧
      s.domainValid (gDomain e) = true ∧ (s.gate g.val).s0 ≤ s.nowNs (gDomain e)) ∧
    (∃ (s : State) (m : Master) (v : Word), s.quiet = true ∧ s.writable m pgCls 0x174 = true) ∧
    (∃ (s : State) (m : Master) (v : Word), s.quiet = true ∧ s.writable m pgGate 0x070 = true ∧ (mget s.fwd.gates (getBits v 7 0)).isSome = true) ∧
    (∃ (s : State) (m : Master) (v : Word) (x : Meter), s.quiet = true ∧ s.writable m pgMeter 0x070 = true ∧ mget s.fwd.meters (getBits v 10 0) =
      some x) ∧
    (∃ (m : Master) (v : Word) (s t : State), s.quiet = true ∧ exec (.sfUnblock m v) s = .next t) :=
  ⟨⟨(live.putPair pgGate 7 (eSet (eSet 0 145 139 1) 82 80 4)), 7, eSet (eSet 0 145 139 1) 82 80 4, by decide⟩,
    ⟨{ live with fwd := { live.fwd with blocked := [5, 9] } }, .m1, 5, by decide⟩,
    ⟨(live.setGate 5 { StreamGate.idle with closed := true }), .m1, 5, by decide⟩,
    ⟨live.setMeter 5 ⟨0, 0, 0, true⟩, .m1, 5, ⟨0, 0, 0, true⟩, by decide⟩,
    ⟨.m1, 5, live, _, by decide, rfl⟩⟩

theorem wit_LanesServe :
    (∃ (s : State) (k : Fin 1024) (x : Paced) (l : List Paced), s.quiet = true ∧ s.clocked 0 = true ∧ s.pacerQ k.val = x :: l ∧ s.pairGet pgPacer
      k.val s.heat.liveE = none) ∧
    (∃ (s : State) (k : Fin 1024) (x : Paced) (l : List Paced) (e : Entry), s.quiet = true ∧ s.clocked 0 = true ∧ s.pacerQ k.val = x :: l ∧
      s.pairGet pgPacer k.val s.heat.liveE = some e ∧ fpEn e = true ∧ ((s.advancePacer k.val e).pacerLevels k.val).tok < 0) ∧
    (∃ (s : State) (k : Fin 1024) (x : Paced) (l : List Paced) (e : Entry) (n i : Nat) (c : Copy), s.quiet = true ∧ s.clocked 0 = true ∧ s.pacerQ
      k.val = x :: l ∧ s.pairGet pgPacer k.val s.heat.liveE = some e ∧ fpEn e = true ∧ 0 ≤ ((s.advancePacer k.val e).pacerLevels k.val).tok ∧
      x.copies = [(n, i, c)] ∧ x.rings = [] ∧ x.mirrors = [] ∧ x.tx = none ∧ n < 28 ∧ i < 8 ∧ s.laneCells n i + x.cells ≤ s.fld (lanePage n)
      (R.LANE_BUF_MAX_CELLS i) ∧ x.cells + s.reserveAfter x.cells [(n, i, c)] ≤ s.freeCells) ∧
    (∃ (s : State) (port : Fin 28) (i : Nat) (c : Copy) (l : List Copy), s.quiet = true ∧ s.portRuns port.val = true ∧ s.portEnabled port.val = true
      ∧ s.pauseWaits port.val = none ∧ s.mPackets port.val = [] ∧ (s.eport port.val).express = none ∧ (s.chosen port.val).2 = some i ∧ (s.chosen
      port.val).1.lineFree port.val = true ∧ ((s.chosen port.val).1.lane port.val i).q = c :: l ∧ s.flag (macPage port.val) R.MAC_STAT_LINK = true ∧
      c.oversize = false ∧ c.bytes.length + 4 ≤ s.maxLen port.val ∧ s.secTx port.val = false ∧ s.secLost port.val = 0) ∧
    (∃ (s : State) (port : Fin 28) (x : Sending), s.quiet = true ∧ s.portRuns port.val = true ∧ s.portEnabled port.val = true ∧ (s.choosePort
      port.val).onLine port.val = some (false, x)) ∧
    (∃ (s : State) (port : Fin 28) (x : Sending) (m : BitVec 12) (a : BitVec 20) (b : BitVec 7), s.quiet = true ∧ s.portRuns port.val = true ∧
      s.portEnabled port.val = true ∧ (s.choosePort port.val).onLine port.val = some (false, x) ∧ (s.choosePort port.val).test.corrected.any (fun e
      => e.1.mem == bufferMemory m.toNat && e.1.addr == a.toNat && s.time.tl ≤ e.2 + msT 86400000) = true ∧ (s.choosePort port.val).test.soft.length
      < 264) ∧
    (∃ (s : State) (port : Fin 28) (x : Sending), s.quiet = true ∧ s.clocked 0 = true ∧ s.onLine port.val = some (false, x) ∧ s.lineDue port.val x =
      true ∧ s.flag (macPage port.val) R.MAC_CFG_LOOPBACK = false ∧ x.inverted = false) ∧
    (∃ (s : State) (port : Fin 28), s.quiet = true ∧ s.clocked 0 = true ∧ s.up (portDomain port.val) = true ∧ s.hlEn port.val = true ∧ s.hlLen
      port.val ≠ 0 ∧ s.domainValid (s.hlDomain port.val) = true ∧ (s.eport port.val).hurdle.s0 ≤ s.nowNs (s.hlDomain port.val)) ∧
    (∃ (s : State) (port : Fin 28) (x : Nat), s.quiet = true ∧ s.clocked 0 = true ∧ s.up (portDomain port.val) = true ∧ s.hlEn port.val = true ∧
      s.hlLen port.val ≠ 0 ∧ s.domainValid (s.hlDomain port.val) = true ∧ s.nextHoldStart port.val = some x ∧ x ≤ s.nowNs (s.hlDomain port.val) +
      s.holdAdvance port.val) :=
  ⟨⟨(withPacket live).setPacerQ 5 [aPaced], 5, aPaced, [], by decide⟩,
    ⟨({ ((withPacket live).setPacerQ 5 [aPaced]).putPair pgPacer 5 (eSet 0 66 66 1) with fwd := { ((withPacket live).setPacerQ 5 [aPaced]).fwd with
      pacerLv := [(5, ⟨-7, 0, 0⟩)] } }), 5, aPaced, [], eSet 0 66 66 1, by decide⟩,
    ⟨(live.setPacerQ 5 [aPaced]).putPair pgPacer 5 (eSet 0 66 66 1), 5, aPaced, [], eSet 0 66 66 1, 4, 3, aCopy, by decide⟩,
    ⟨inLane 4, 4, 3, aCopy, [], by decide⟩,
    ⟨onWire 4, 4, aSending, by decide⟩,
    ⟨{ onWire 4 with test := { (onWire 4).test with corrected := [(⟨bufferMemory 3, 77, 9, false⟩, 0)] } }, 4, aSending, 3, 77, 12, by decide⟩,
    ⟨onWire 4, 4, aSending, by decide⟩,
    ⟨(((portUp 4).setB (lanePage 4) R.HL_CFG_EN true).setF (lanePage 4) R.HL_CFG_LENGTH 2).setF (lanePage 4) R.HL_CFG_DOMAIN 4, 4, by decide⟩,
    ⟨((((portUp 4).setB (lanePage 4) R.HL_CFG_EN true).setF (lanePage 4) R.HL_CFG_LENGTH 2).setF (lanePage 4) R.HL_CFG_DOMAIN 4).putPair (lanePage
      4) 0 (eSet 0 41 40 1), 4, 0, by decide⟩⟩

theorem wit_CanFramesTakenAndSent :
    (∃ (s : State) (c : Fin 48) (w : CanWire), s.quiet = true ∧ s.canOn c.val = true ∧ s.errState c.val < 2 ∧ s.running_ = true ∧ s.mode.rest =
      .awake ∧ w.fmt = 0) ∧
    (∃ (s : State) (c : Fin 48) (d b : Nat), s.quiet = true ∧ s.canOn c.val = true ∧ s.errState c.val < 2 ∧ s.running_ = true ∧ (s.chan
      c.val).locked = none ∧ s.canCtl c.val R.CAN_CTRL_LISTEN_ONLY = false ∧ s.chooseTxb c.val = some b ∧ (mget (s.chan c.val).bufs b).isSome =
      true) ∧
    (∃ (s : State) (c : Fin 48) (b : Nat) (h : CanHeld), s.quiet = true ∧ (s.chan c.val).locked = some b ∧ b < 3 ∧ mget (s.chan c.val).bufs b = some
      h ∧ s.canCtl c.val R.CAN_CTRL_LOOPBACK = false ∧ h.cts = none) ∧
    (∃ (s : State) (c : Fin 48) (b : Nat), s.quiet = true ∧ (s.chan c.val).locked = some b ∧ b < 3) :=
  ⟨⟨canUp 3, 3, aWire, by decide⟩,
    ⟨holding 3, 3, 0, 1, by decide⟩,
    ⟨sending 3, 3, 1, aHeld, by decide⟩,
    ⟨sending 3, 3, 1, by decide⟩⟩

theorem wit_CanErrorStates :
    (∃ (s : State) (c : Fin 48) (e : CanError), s.quiet = true ∧ s.canOn c.val = true ∧ s.errState c.val < 2 ∧ e.kind = .bit) ∧
    (∃ (s : State) (c : Fin 48) (n : Nat), s.quiet = true ∧ s.canOn c.val = true ∧ s.errState c.val = 2 ∧ 128 ≤ s.fld (canPage c.val)
      R.CAN_STAT_BOFF_COUNT + n) ∧
    (∃ (s : State) (c : Fin 48) (n : Nat), s.quiet = true ∧ s.canOn c.val = true ∧ s.errState c.val = 2 ∧ s.fld (canPage c.val)
      R.CAN_STAT_BOFF_COUNT + n < 128) ∧
    (∃ (s : State) (c : Fin 48), s.quiet = true ∧ s.canOn c.val = true ∧ s.errState c.val = 3 ∧ s.tec c.val ≤ 127 ∧ s.recCount c.val ≤ 127) ∧
    (∃ (s : State) (c : Fin 48), s.quiet = true ∧ s.clocked 1 = true ∧ (s.chan c.val).locked = none) :=
  ⟨⟨canUp 3, 3, anError .bit, by decide⟩,
    ⟨(canUp 3).setF (canPage 3) R.CAN_STAT_ERR_STATE 2, 3, 130, by decide⟩,
    ⟨(canUp 3).setF (canPage 3) R.CAN_STAT_ERR_STATE 2, 3, 3, by decide⟩,
    ⟨(canUp 3).setF (canPage 3) R.CAN_STAT_ERR_STATE 3, 3, by decide⟩,
    ⟨(canUp 3).setChan 3 { CanChan.empty with timing := [(0x040, 5)] }, 3, by decide⟩⟩

theorem wit_CanBuffersServed :
    (∃ (s : State) (m : Master) (c : Fin 48) (b : Fin 3), s.quiet = true ∧ s.writable m (canPage c.val) (0x200 + 0x50 * b.val) = true ∧ s.hostOwned
      c.val b.val = true ∧ s.flag (canPage c.val) (R.TXB_CTRL_REQ b.val) = false ∧ mget (s.chan c.val).bufs b.val = none ∧ s.canBad c.val
      (s.canWindow c.val (0x204 + 0x50 * b.val)) = false) ∧
    (∃ (s : State) (m : Master) (c : Fin 48) (b : Fin 3), s.quiet = true ∧ s.writable m (canPage c.val) (0x200 + 0x50 * b.val) = true ∧ s.hostOwned
      c.val b.val = true ∧ (mget (s.chan c.val).bufs b.val).isSome = true ∧ s.flag (canPage c.val) (R.TXB_CTRL_SRC b.val) = false ∧ (s.chan
      c.val).locked ≠ some b.val) ∧
    (∃ (s : State) (m : Master) (c : Fin 48) (v : Word), s.quiet = true ∧ s.writable m (canPage c.val) R.TXQ_PUSH.off = true ∧ s.canBad c.val
      (s.canWindow c.val 0x100) = false ∧ (s.entries c.val).length < 256 ∧ max 1 (ceilDiv (s.canPadded c.val (s.canWindow c.val 0x100)).data.length
      64) ≤ s.freeGranules c.val) ∧
    (∃ (s : State) (m : Master) (c : Fin 48) (v : Word), s.quiet = true ∧ s.writable m (canPage c.val) R.TXQ_CANCEL.off = true ∧ ((s.chan
      c.val).queue.any fun h => h.handle == getBits v 15 0) = true) ∧
    (∃ (s : State) (m : Master) (c : Fin 48) (h o : Nat) (x : Bool) (l : List (Nat × Nat × Bool)), s.quiet = true ∧ s.readable m (canPage c.val)
      R.TXEV_HANDLE.off = true ∧ (s.chan c.val).events = (h, o, x) :: l) ∧
    (∃ (s : State) (c : Fin 48) (h : CanHeld), s.quiet = true ∧ (s.chan c.val).bufs = [] ∧ (s.chan c.val).queue = [h] ∧ s.expired h = true) ∧
    (∃ (s : State) (m : Master) (c : Fin 48) (i : Fin 33), s.quiet = true ∧ s.readable m (canPage c.val) (mbHdr i.val) = true) :=
  ⟨⟨(canUp 3).setF (canPage 3) R.CAN_CTRL_TXB_HOST 7, .m1, 3, 1, by decide⟩,
    ⟨(holding 3).setF (canPage 3) R.CAN_CTRL_TXB_HOST 7, .m1, 3, 1, by decide⟩,
    ⟨canUp 3, .m1, 3, 0, by decide⟩,
    ⟨(canUp 3).setChan 3 { CanChan.empty with queue := [aHeld] }, .m1, 3, 0x105, by decide⟩,
    ⟨(canUp 3).setChan 3 { CanChan.empty with events := [(5, 1, false)] }, .m1, 3, 5, 1, false, [], by decide⟩,
    ⟨(canUp 3).setChan 3 { CanChan.empty with queue := [{ aHeld with expiry := some 0 }] }, 3, { aHeld with expiry := some 0 }, by decide⟩,
    ⟨(canUp 3).wr (canPage 3) (mbHdr 4) 0x00003301, .m1, 3, 4, by decide⟩⟩

theorem wit_CanHandover :
    (∃ (s : State) (c : Fin 48) (k : Fin 3) (r : TestRun), s.calm = true ∧ s.movingCan c.val = some r ∧ (s.chan c.val).attached = none ∧ k.val = (if
      r.phase = .out then r.reserve else r.ownCore) ∧ ((k.val ≠ 0 → s.canCoreFree (k.val - 1) = true))) ∧
    (∃ (s : State) (c : Fin 48) (k : Nat) (r : TestRun), s.calm = true ∧ s.movingCan c.val = some r ∧ r.phase = .out ∧ (s.chan c.val).attached =
      some k ∧ k < 16 ∧ (s.chan c.val).locked = none) ∧
    (∃ (s : State) (c : Fin 48) (k : Nat) (r : TestRun), s.calm = true ∧ s.movingCan c.val = some r ∧ (s.chan c.val).attached = some k ∧ s.due
      (.canHandover c.val) = true) ∧
    (∃ (s : State) (c : Fin 48) (k : Nat), s.quiet = true ∧ s.fld (canPage c.val) R.RESERVE_MAP_SERVING = 0 ∧ s.freeCanCore = some k) :=
  ⟨⟨handing 3 1 none, 3, 1, ⟨0x203, .out, 0, false, false, 1, false, 3⟩, by decide⟩,
    ⟨handing 3 1 (some 1), 3, 1, ⟨0x203, .out, 0, false, false, 1, false, 3⟩, by decide⟩,
    ⟨(handing 3 1 (some 1)).start (.canHandover 3) 0, 3, 1, ⟨0x203, .out, 0, false, false, 1, false, 3⟩, by decide⟩,
    ⟨canUp 3, 3, 1, by decide⟩⟩

theorem wit_LinSlotsAndResponses :
    (∃ (s : State) (n : Fin 12), s.quiet = true ∧ s.linSlotDue n.val = true ∧ (s.linChan n.val).polls = [] ∧ (s.linChan n.val).next = none ∧ s.fld
      (linPage n.val) R.LIN_SCHED_REQ_SCHED < 4) ∧
    (∃ (s : State) (n : Fin 12) (pid : Byte) (rate : BitVec 16), s.quiet = true ∧ s.linOn n.val = true ∧ s.linCommander n.val = false ∧ s.linAsleep
      n.val = false ∧ linPid (pid.toNat % 64) = pid.toNat ∧ lfDir (s.linFrame n.val (pid.toNat % 64)) = 1 ∧ s.running_ = true ∧ lfEvent (s.linFrame
      n.val (pid.toNat % 64)) = false) ∧
    (∃ (s : State) (n : Fin 12) (l : List Byte) (fr : Bool) (x : LinSlot), s.quiet = true ∧ s.linOn n.val = true ∧ (s.linChan n.val).slot = some x ∧
      x.id < 64 ∧ x.publish = true) ∧
    (∃ (s : State) (n : Fin 12) (d : List Byte) (x : LinSlot), s.quiet = true ∧ s.linOn n.val = true ∧ s.running_ = true ∧ s.mode.rest = .awake ∧
      (s.linChan n.val).slot = some x ∧ x.publish = false ∧ x.type ≠ 1 ∧ x.id < 0x3C ∧ lfDir (s.linFrame n.val x.id) = 2 ∧ lfLen (s.linFrame n.val
      x.id) ≤ d.length) ∧
    (∃ (s : State) (n : Fin 12) (x : LinSlot), s.quiet = true ∧ s.due (.linResponse n.val) = true ∧ (s.linChan n.val).slot = some x ∧ x.id < 64 ∧
      x.type ≠ 1) :=
  ⟨⟨(linUp 2 true 5 1).setB (linPage 2) R.LIN_SCHED_REQ_RUN true, 2, by decide⟩,
    ⟨linUp 2 false 5 1, 2, BitVec.ofNat 8 (linPid 5), 9, by decide⟩,
    ⟨inSlot (linUp 2 false 5 1) 2 ⟨5, 7, true, 0⟩, 2, [], false, ⟨5, 7, true, 0⟩, by decide⟩,
    ⟨inSlot (linUp 2 false 5 2) 2 ⟨5, 7, false, 0⟩, 2, [7, 8], ⟨5, 7, false, 0⟩, by decide⟩,
    ⟨(inSlot (linUp 2 false 5 2) 2 ⟨5, 7, false, 0⟩).start (.linResponse 2) 0, 2, ⟨5, 7, false, 0⟩, by decide⟩⟩

theorem wit_LinDataAndSleep :
    (∃ (s : State) (m : Master) (n : Fin 12) (id : BitVec 6) (v : Word), s.quiet = true ∧ s.writable m (linPage n.val) (0x204 + 8 * id.toNat) =
      true) ∧
    (∃ (s : State) (m : Master) (n : Fin 12) (id : BitVec 6), s.quiet = true ∧ s.readable m (linPage n.val) (0x200 + 8 * id.toNat) = true) ∧
    (∃ (s : State) (m : Master) (n : Fin 12), s.quiet = true ∧ s.writable m (linPage n.val) R.LIN_CMD_WAKE.off = true ∧ s.linOn n.val = true) ∧
    (∃ (s : State) (n : Fin 12) (us : Nat), s.quiet = true ∧ s.linOn n.val = true ∧ 250 ≤ us ∧ us ≤ 5000) ∧
    (∃ (s : State) (n : Fin 12), s.quiet = true ∧ s.linOn n.val = true ∧ s.due (.linIdle n.val) = true) ∧
    (∃ (s : State) (n : Fin 12), s.quiet = true ∧ s.due (.linResume n.val) = true) ∧
    (∃ (s : State) (n : Fin 12) (r : TestRun), s.calm = true ∧ s.moving (0x300 + n.val) = some r ∧ r.phase = .out ∧ (s.linChan n.val).slot = none) ∧
    (∃ (m : Master) (n : Fin 12) (id : BitVec 6) (v : Word) (s t : State), s.quiet = true ∧ exec (.linDataCommit m n id v) s = .next t) :=
  ⟨⟨inSlot (linUp 2 false 5 2) 2 ⟨5, 7, false, 0⟩, .m1, 2, 5, 0x12345678, by decide⟩,
    ⟨(linUp 2 false 5 2).setB (linPage 2) (R.LIN_FSTAT_NEW 5) true, .m1, 2, 5, by decide⟩,
    ⟨(linUp 2 false 5 2).setB (linPage 2) R.LIN_STAT_SLEEP true, .m1, 2, by decide⟩,
    ⟨(linUp 2 false 5 2).setB (linPage 2) R.LIN_STAT_SLEEP true, 2, 250, by decide⟩,
    ⟨(linUp 2 false 5 2).start (.linIdle 2) 0, 2, by decide⟩,
    ⟨(linUp 2 true 5 2).start (.linResume 2) 0, 2, by decide⟩,
    ⟨testing 0x302 .out 1, 2, ⟨0x302, .out, 0, false, false, 1, false, 0⟩, by decide⟩,
    ⟨.m1, 2, 5, 0, live, _, by decide, rfl⟩⟩

theorem wit_RelayQueueAndRoutes :
    (∃ (s : State) (p : Pdu) (l : List Pdu), s.quiet = true ∧ s.relay.coming = p :: l ∧ s.relayOn = true ∧ p.src ≠ 60 ∧ s.relay.inq.length < 512 ∧
      pduGranules p ≤ s.comingRest.relayFree) ∧
    (∃ (s : State) (p : Pdu) (l : List Pdu), s.quiet = true ∧ s.relay.coming = p :: l ∧ s.relayOn = true ∧ p.src = 60 ∧ s.relay.inq.length < 512 ∧
      pduGranules p ≤ s.comingRest.relayFree) ∧
    (∃ (s : State) (p : Pdu) (l : List Pdu), s.quiet = true ∧ s.relay.coming = p :: l ∧ s.relayOn = true ∧ s.comingRest.relayFree < pduGranules p) ∧
    (∃ (s : State) (p : Pdu) (l : List Pdu) (r : Option (Fin 16)), s.quiet = true ∧ s.relay.inq = p :: l ∧ s.relayOn = true ∧ s.authRoom p = true ∧
      p.epoch = s.heat.liveE ∧ (s.setInq l).routeOf p = none) ∧
    (∃ (s : State) (p : Pdu) (l : List Pdu) (r : Option (Fin 16)), s.quiet = true ∧ s.relay.inq = p :: l ∧ s.relayOn = true ∧ s.authRoom p = true ∧
      p.epoch = s.heat.liveE ∧ ((s.setInq l).routeOf p).isSome = true) ∧
    (∃ (s : State) (p : Pdu) (l : List Pdu) (r : Option (Fin 16)), s.quiet = true ∧ s.relay.inq = p :: l ∧ s.relayOn = true ∧ s.authRoom p = true ∧
      p.epoch = s.heat.liveE) ∧
    (∃ (s : State) (c : RelayCopy), s.quiet = true ∧ s.relay.waiting = [⟨c, none⟩] ∧ c.kind = 1 ∧ c.port < 12 ∧ c.msg.id < 64 ∧ c.deadline = none) ∧
    (∃ (b : Bool) (r : Option (Fin 16)) (s t : State), s.quiet = true ∧ exec (.relayPduEnqueue) s = .next t) :=
  ⟨⟨withRelay { live.relay with coming := [aPdu] }, aPdu, [], by decide⟩,
    ⟨withRelay { live.relay with coming := [{ aPdu with src := 60 }] }, { aPdu with src := 60 }, [], by decide⟩,
    ⟨withRelay { live.relay with coming := [aPdu], inq := List.replicate 1024 aPdu }, aPdu, [], by decide⟩,
    ⟨withRelay { live.relay with inq := [aPdu] }, aPdu, [], none, by decide⟩,
    ⟨(withRelay { live.relay with inq := [aPdu] }).putPair 0x152 4 (eSet (eSet (eSet 0 60 32 0) 150 144 0x7F) 154 151 15), aPdu, [], none, by
      decide⟩,
    ⟨withRelay { live.relay with inq := [aPdu] }, aPdu, [], none, by decide⟩,
    ⟨withRelay { live.relay with waiting := [⟨{ relayCopyTo 1 with msg := { Pdu.msg aPdu with id := 5 } }, none⟩] }, { relayCopyTo 1 with msg := {
      Pdu.msg aPdu with id := 5 } }, by decide⟩,
    ⟨false, none, live, _, by decide, rfl⟩⟩

theorem wit_RelayMonitorsAndStreams :
    (∃ (s : State) (k : Fin 4096) (e : Entry) (x : Monitor), s.quiet = true ∧ s.monitorDue k.val = true ∧ s.tmon k.val = some e ∧ tmAction e = 0 ∧
      mget s.relay.monitors k.val = some x) ∧
    (∃ (s : State) (k : Fin 64) (b : Builder) (e : Entry), s.quiet = true ∧ s.relayOn = true ∧ s.due (.acf k.val) = true ∧ s.up 8 = true ∧ mget
      s.relay.builders k.val = some b ∧ b.msgs ≠ [] ∧ ((∀ m ∈ b.msgs, m.deadline = none)) ∧ s.pairGet pgAcf k.val s.heat.liveE = some e) ∧
    (∃ (s : State) (k : Nat) (f : Frame) (l : List (Nat × Frame)) (e : Entry), s.quiet = true ∧ s.fwd.acfIn = (k, f) :: l ∧ s.relayOn = true ∧
      s.pairGet pgAcf k f.epoch = some e ∧ byteAt (f.bytes.drop (s.acfRest.parse f).pay) 0 = (if acTscf e = true then 5 else 0x82) ∧ byteAt
      (f.bytes.drop (s.acfRest.parse f).pay) 1 / 16 % 8 = 0) ∧
    (∃ (s : State) (k : Nat) (f : Frame) (l : List (Nat × Frame)) (e : Entry), s.quiet = true ∧ s.fwd.acfIn = (k, f) :: l ∧ s.relayOn = true ∧
      s.pairGet pgAcf k f.epoch = some e ∧ byteAt (f.bytes.drop (s.acfRest.parse f).pay) 0 ≠ (if acTscf e = true then 5 else 0x82)) ∧
    (∃ (k : Fin 4096) (j : Fin 64) (s t : State), s.quiet = true ∧ exec (.monitorExpiry k) s = .next t) :=
  ⟨⟨((withRelay { live.relay with monitors := [(7, ⟨0, false, 4⟩)] }).putPair pgTmon 7 (eSet 0 16 16 1)), 7, eSet 0 16 16 1, ⟨0, false, 4⟩, by
      decide⟩,
    ⟨((withRelay { live.relay with builders := [(5, ⟨[⟨Pdu.msg aPdu, 2, true, aStamp, none⟩], false⟩)] }).putPair pgAcf 5 1).start (.acf 5) 0, 5,
      ⟨[⟨Pdu.msg aPdu, 2, true, aStamp, none⟩], false⟩, 1, by decide⟩,
    ⟨({ live with fwd := { live.fwd with acfIn := [(5, acfFrame)] } } : State).putPair pgAcf 5 7, 5, acfFrame, [], 7, by decide⟩,
    ⟨({ live with fwd := { live.fwd with acfIn := [(5, aFrame)] } } : State).putPair pgAcf 5 3, 5, aFrame, [], 3, by decide⟩,
    ⟨7, 5, live, _, by decide, rfl⟩⟩

theorem wit_CountersRunAndStep :
    (∃ (s : State) (n : Nat), s.quiet = true ∧ s.released = true) ∧
    (∃ (s : State) (m : Master) (k : Fin 4), s.quiet = true ∧ s.writable m (pgDom k.val) 0x07C = true ∧ (s.rd (pgDom k.val) R.SET_NS.off).toNat ≤
      999999999) ∧
    (∃ (s : State) (m : Master) (k : Fin 4), s.quiet = true ∧ s.writable m (pgDom k.val) 0x07C = true ∧ 0 ≤ (s.clock k.val : Int) + signed (s.rd
      (pgDom k.val) R.SET_NS.off).toNat 32 * (nsUnit : Nat) ∧ (s.clock k.val : Int) + signed (s.rd (pgDom k.val) R.SET_NS.off).toNat 32 * (nsUnit :
      Nat) < (secUnit * 2 ^ 48 : Nat)) ∧
    (∃ (s : State) (m : Master) (k : Fin 4) (v : Word), s.quiet = true ∧ s.writable m (pgDom k.val) R.DOM_RATE.off = true ∧ s.fld (pgDom k.val)
      R.DOM_CFG_SRC = 0) ∧
    (∃ (s : State) (m : Master) (k : Fin 4) (v : Word), s.quiet = true ∧ s.writable m (pgDom k.val) R.DOM_RATE.off = true ∧ s.fld (pgDom k.val)
      R.DOM_CFG_SRC ≠ 0) ∧
    (∃ (s : State) (m : Master) (g : Fin 5), s.quiet = true ∧ s.readable m (if g.val < 4 then pgDom g.val else pgTime) (if g.val < 4 then 0x060 else
      0x040) = true) ∧
    (∃ (m : Master) (k : Fin 4) (v : Word) (s t : State), s.quiet = true ∧ exec (.timeSet m k) s = .next t) :=
  ⟨⟨live, 5, by decide⟩,
    ⟨(live.setF 0x182 R.SET_SEC_LO 100).wr 0x182 R.SET_NS.off 7, .m1, 1, by decide⟩,
    ⟨({ live with time := { live.time with t1 := 10 ^ 25 } } : State).wr 0x182 R.SET_NS.off 0xFFFFFF00, .m1, 1, by decide⟩,
    ⟨live, .m1, 1, 0xFFFF0000, by decide⟩,
    ⟨live.setF 0x182 R.DOM_CFG_SRC 2, .m1, 1, 0xFFFF0000, by decide⟩,
    ⟨({ live with time := { live.time with t2 := 12345678901234567890123 } }), .m1, 2, by decide⟩,
    ⟨.m1, 1, 5, live, _, by decide, rfl⟩⟩

theorem wit_ServoAndIntegrity :
    (∃ (s : State) (m : Master) (k : Fin 4) (v : Word), s.quiet = true ∧ s.writable m (pgDom k.val) R.HOST_OFS.off = true ∧ s.fld (pgDom k.val)
      R.DOM_CFG_SRC = 2 ∧ s.servoState k.val = 0 ∧ mget s.time.dual k.val = none ∧ (s.servo k.val).last = none) ∧
    (∃ (s : State) (k : Fin 4), s.quiet = true ∧ s.due (.holdover k.val) = true ∧ (s.servoState k.val = 1 ∨ s.servoState k.val = 2)) ∧
    (∃ (s : State) (k : Fin 4) (d : Int), s.quiet = true ∧ s.released = true ∧ nsT 2 < d.natAbs) ∧
    (∃ (s : State) (a b : Int), s.quiet = true ∧ s.released = true ∧ a.natAbs ≤ nsT 2 ∧ nsT 2 < b.natAbs ∧ nsT 2 < (a - b).natAbs) ∧
    (∃ (s : State) (a b : Int), s.quiet = true ∧ s.released = true ∧ nsT 2 < a.natAbs ∧ nsT 2 < b.natAbs ∧ (a - b).natAbs ≤ nsT 2) ∧
    (∃ (s : State) (a b : Int), s.quiet = true ∧ s.released = true ∧ nsT 2 < a.natAbs ∧ nsT 2 < b.natAbs ∧ nsT 2 < (a - b).natAbs) :=
  ⟨⟨live.setF 0x182 R.DOM_CFG_SRC 2, .m1, 1, 0x00001000, by decide⟩,
    ⟨((live.setF 0x182 R.DOM_STAT_SERVO 2).start (.holdover 1) 0), 1, by decide⟩,
    ⟨(live.setF pgTime R.TIME_STAT_VALID 15), 1, -(10 ^ 30), by decide⟩,
    ⟨live, 1, 10 ^ 30, by decide⟩,
    ⟨live, 10 ^ 30, 10 ^ 30 + 1, by decide⟩,
    ⟨live, 10 ^ 30, -(10 ^ 30), by decide⟩⟩

theorem wit_GptpMessagesTaken :
    (∃ (s : State) (port : Fin 24), s.quiet = true ∧ s.ptpOn port.val = true ∧ s.running (.pdelay port.val) = false ∧ (s.ptpPort port.val).asked =
      false) ∧
    (∃ (s : State) (port : Fin 24) (msg : PtpMsg), s.quiet = true ∧ s.ptpHears port.val = true ∧ s.answers port.val msg = true ∧ msg.kind =
      .pdelayResp ∧ s.ptpService port.val = (msg.sdo.toNat, msg.domain.toNat)) ∧
    (∃ (s : State) (port : Fin 24), s.quiet = true ∧ s.due (.pdelayResp port.val) = true ∧ s.due (exchangeTmr port.val true) = false) ∧
    (∃ (s : State) (port : Fin 24), s.quiet = true ∧ s.due (.pdelayResp port.val) = false ∧ s.due (exchangeTmr port.val true) = true) ∧
    (∃ (s : State) (port : Fin 24) (msg : PtpMsg), s.quiet = true ∧ s.ptpHears port.val = true) ∧
    (∃ (s : State) (port : Fin 24) (msg : PtpMsg) (k : Nat), s.quiet = true ∧ s.ptpHears port.val = true ∧ s.syncDomain port.val msg = some k ∧ k <
      4 ∧ msg.twoStep = true) ∧
    (∃ (s : State) (port : Fin 24) (msg : PtpMsg) (k : Nat) (st : Stamps) (cf : Int), s.quiet = true ∧ s.ptpHears port.val = true ∧ s.syncDomain
      port.val msg = some k ∧ k < 4 ∧ (s.gptp k).sync = some (port.val, msg.seq.toNat, st, cf) ∧ s.time.tl ≤ st.tl + s.holdTo k) ∧
    (∃ (s : State) (port : Fin 24) (k : Fin 4), s.quiet = true ∧ s.ptpOn port.val = true ∧ s.ptpRole port.val k.val = 2 ∧ s.syncSource k.val = true
      ∧ s.running (.sync (port.val * 4 + k.val)) = false) ∧
    (∃ (s : State) (port : Fin 24) (msg : PtpMsg) (r : BmcaResult) (k : Nat), s.quiet = true ∧ s.ptpHears port.val = true ∧ ((List.range 4).find?
      fun j => s.fld (pgDom j) R.DOM_CFG_DOMAIN_NUM == msg.domain.toNat && s.flag (pgDom j) R.DOM_CFG_BMCA_EN) = some k ∧ k < 4) ∧
    (∃ (port : Fin 24) (k : Fin 4) (msg : PtpMsg) (d : Option BmcaResult) (s t : State), s.quiet = true ∧ exec (.pdelayReqSend port) s = .next t) ∧
    (∃ (port : Fin 24) (k : Fin 4) (s t : State), s.quiet = true ∧ exec (.pdelayReqSend port) s = .next t) :=
  ⟨⟨ptpUp 3 1, 3, by decide⟩,
    ⟨asking, 3, anAnswer, ⟨by decide, by decide, own_identity, rfl, by decide⟩⟩,
    ⟨(ptpUp 3 1).start (.pdelayResp 3) 0, 3, by decide⟩,
    ⟨((ptpUp 3 1).start (exchangeTmr 3 true) 0).setPtp 3 { ((live.ptpPort 3) : PtpPort) with older := some (6, none, none) }, 3, by decide⟩,
    ⟨ptpUp 3 1, 3, aMsg .pdelayReq, by decide⟩,
    ⟨ptpUp 3 1, 3, { aMsg .sync with twoStep := true }, 0, by decide⟩,
    ⟨(ptpUp 3 1).setGptp 0 ⟨some (3, 7, aStamp, 5), none, none, 0⟩, 3, aMsg .followUp, 0, aStamp, 5, by decide⟩,
    ⟨((ptpUp 3 2).setF pgTime R.TIME_STAT_VALID 15).setB (pgDom 0) R.DOM_STAT_GM true, 3, 0, by decide⟩,
    ⟨(ptpUp 3 1).setB (pgDom 0) R.DOM_CFG_BMCA_EN true, 3, aMsg .announce, ⟨[(3, 2)], true, true⟩, 0, by decide⟩,
    ⟨4, 1, aMsg .sync, none, live, _, by decide, rfl⟩,
    ⟨4, 1, live, _, by decide, rfl⟩⟩

theorem wit_PistolsCapturesAndCanTime :
    (∃ (s : State) (p : Fin 16), s.quiet = true ∧ s.pistolDue p.val = true) ∧
    (∃ (s : State) (p : Fin 16), s.quiet = true ∧ s.pulseDue p.val = true) ∧
    (∃ (s : State) (i : Fin 8), s.quiet = true ∧ s.released = true ∧ s.mode.power ≠ .rest ∧ s.clocked 2 = true ∧ s.flag pgCapture (R.CAP_CFG_EN
      i.val) = true ∧ s.fld pgCapture (R.CAP_CFG_EDGE i.val) = 1 ∧ (s.capture_ i.val).fifo.length < 16 ∧ (s.capture_ i.val).last = none) ∧
    (∃ (s : State) (m : Master) (i : Fin 8) (q : Nat) (r v : Bool) (l : List (Nat × Bool × Bool)), s.quiet = true ∧ s.readable m pgCapture (0x044 +
      32 * i.val) = true ∧ (s.capture_ i.val).fifo = (q, r, v) :: l) ∧
    (∃ (s : State) (i : Fin 8), s.quiet = true ∧ s.ctsDue i.val = true) ∧
    (∃ (s : State) (i : Fin 8) (w : CanWire) (n : Nat), s.quiet = true ∧ s.ctsHears i.val = true ∧ s.ctsMatches i.val (s.ctsChannel i.val)
      (CanWire.frame w) 0x10 = true) ∧
    (∃ (s : State) (i : Fin 8) (w : CanWire) (st : Stamps) (n : Nat), s.quiet = true ∧ s.ctsHears i.val = true ∧ s.ctsMatches i.val (s.ctsChannel
      i.val) (CanWire.frame w) 0x18 = true ∧ (s.ctsSlot i.val).sync = some (byteAt w.data 2 % 16, st, n) ∧ s.time.tl ≤ st.tl + msT 1) ∧
    (∃ (s : State) (c : Fin 48) (j : Fin 16) (e : Nat), s.quiet = true ∧ s.ttOpenNow c.val j.val = some e) ∧
    (∃ (s : State) (c : Fin 48) (e : Entry), s.quiet = true ∧ s.ttSchedule c.val = some e) ∧
    (∃ (s : State) (c : Fin 48) (e : Entry) (w : Nat × Nat), s.quiet = true ∧ s.ttSchedule c.val = some e ∧ (s.chan c.val).windows = [w] ∧ w.2 ≤
      s.nowNs (ttDomain e) ∧ (mget (s.chan c.val).bufs (w.1 % 4)).isSome = true) ∧
    (∃ (s : State) (c : Fin 48), s.quiet = true ∧ s.ttSchedule c.val = none) ∧
    (∃ (m : Master) (i : Fin 8) (c : Fin 48) (j : Fin 16) (s t : State), s.quiet = true ∧ exec (.capTsPop m i) s = .next t) :=
  ⟨⟨pistolUp, 2, by decide⟩,
    ⟨({ pistolUp with time := { pistolUp.time with pistols := [(2, ⟨none, some 0⟩)] } } : State).setB pgPistol (R.PST_STAT_LEVEL 2) true, 2, by
      decide⟩,
    ⟨(live.setB pgCapture (R.CAP_CFG_EN 4) true).setF pgCapture (R.CAP_CFG_EDGE 4) 1, 4, by decide⟩,
    ⟨live.setCapture 4 ⟨[(12345678901, true, false)], none⟩, .m1, 4, 12345678901, true, false, [], by decide⟩,
    ⟨ctsUp false, 2, by decide⟩,
    ⟨(ctsUp true), 2, { aWire with id := 0x123, data := [0x10, 0, 3, 0, 0, 0, 1, 2] }, 50, by decide⟩,
    ⟨(ctsUp true).setCts 2 ⟨0, none, some (3, aStamp, 7)⟩, 2, { aWire with id := 0x123, data := [0x18, 0, 3, 0, 0, 0, 1, 2] }, aStamp, 7, by decide⟩,
    ⟨ttUp, 3, 0, 1000, by decide⟩,
    ⟨ttShutting, 3, (ttShutting.ttSchedule 3).getD 0, by decide⟩,
    ⟨ttShutting, 3, (ttShutting.ttSchedule 3).getD 0, (1, 0), by decide⟩,
    ⟨(canUp 3).setChan 3 { CanChan.empty with windows := [(1, 5)] }, 3, by decide⟩,
    ⟨.m1, 1, 5, 2, live, _, by decide, rfl⟩⟩

theorem wit_RingsControlled :
    (∃ (s : State) (m : Master) (fn : Fin 11) (r : Fin 32) (v : Word), s.quiet = true ∧ ringExists fn.val r.val = true ∧ s.writable m (fnPage
      fn.val) (ringBlock r.val + 0x14) = true ∧ s.flag (fnPage fn.val) (R.RING_CFG_EN r.val) = false ∧ getBits v 14 12 < 5) ∧
    (∃ (s : State) (m : Master) (fn : Fin 11) (r : Fin 32) (v : Word), s.quiet = true ∧ ringExists fn.val r.val = true ∧ s.writable m (fnPage
      fn.val) (ringBlock r.val + 0x14) = true ∧ s.flag (fnPage fn.val) (R.RING_CFG_EN r.val) = true ∧ getBits v 14 12 < 5 ∧ (s.ring fn.val
      r.val).filled = []) ∧
    (∃ (s : State) (m : Master) (fn : Fin 11) (r : Fin 32) (v : Word), s.quiet = true ∧ ringExists fn.val r.val = true ∧ s.writable m (fnPage
      fn.val) (ringBlock r.val + 0x0C) = true ∧ getBits v 11 0 < s.ringSize fn.val r.val) ∧
    (∃ (s : State) (fn : Fin 11) (r : Fin 32) (e : BitVec 256), s.quiet = true ∧ s.ringRuns fn.val r.val = true ∧ r.val < 16 ∧ s.posted fn.val r.val
      ≠ 0 ∧ (s.ring fn.val r.val).rx.length < 8 ∧ rxDescBad (rxDesc (s.ring fn.val r.val).fetch e) = false) ∧
    (∃ (s : State) (fn : Fin 11) (r : Fin 32) (e : BitVec 256), s.quiet = true ∧ s.ringRuns fn.val r.val = true ∧ r.val < 16 ∧ s.posted fn.val r.val
      ≠ 0 ∧ (s.ring fn.val r.val).rx.length < 8 ∧ rxDescBad (rxDesc (s.ring fn.val r.val).fetch e) = true) ∧
    (∃ (s : State) (fn : Fin 11) (r : Fin 32), s.quiet = true ∧ ringExists fn.val r.val = true ∧ s.on 4 = true ∧ s.ringActive fn.val r.val = true) ∧
    (∃ (s : State) (fn : Fin 11), s.quiet = true ∧ s.on 4 = true ∧ fn.val < 10) ∧
    (∃ (s : State) (k : Fin 2), s.quiet = true ∧ s.on 4 = true) ∧
    (∃ (m : Master) (fn : Fin 11) (r : Fin 32) (v : Word) (s t : State), s.quiet = true ∧ exec (.ringEnable m fn r v) s = .next t) :=
  ⟨⟨live, .m1, 2, 3, 0, by decide⟩,
    ⟨ringUp 2 3 { Ring.empty with queue := [anItem] }, .m1, 2, 3, 1, by decide⟩,
    ⟨ringUp 2 3 Ring.empty, .m1, 2, 3, 9, by decide⟩,
    ⟨ringUp 2 3 Ring.empty, 2, 3, eSet 0 79 64 128, by decide⟩,
    ⟨ringUp 2 3 Ring.empty, 2, 3, eSet 0 79 64 32, by decide⟩,
    ⟨ringUp 2 3 { Ring.empty with queue := [anItem] }, 2, 3, by decide⟩,
    ⟨ringUp 2 3 { Ring.empty with queue := [anItem] }, 2, by decide⟩,
    ⟨ringUp 2 3 { Ring.empty with queue := [anItem] }, 0, by decide⟩,
    ⟨.m1, 2, 3, 0, live, _, by decide, rfl⟩⟩

theorem wit_RingsMoveData :
    (∃ (s : State) (fn : Fin 11) (r : Fin 32) (x : RxItem) (l : List RxItem) (d : RxDesc) (ds : List RxDesc), s.quiet = true ∧ s.ringRuns fn.val
      r.val = true ∧ r.val < 16 ∧ (s.ring fn.val r.val).queue = x :: l ∧ (s.ring fn.val r.val).rx = d :: ds ∧ (s.ring fn.val r.val).filled = [] ∧
      (s.ring fn.val r.val).written = 0 ∧ x.packet = none ∧ s.past x.deadline = false ∧ x.bytes ≠ [] ∧ x.bytes.length ≤ d.len) ∧
    (∃ (s : State) (fn : Fin 11) (r : Fin 32) (x : RxItem) (l : List RxItem), s.quiet = true ∧ s.due (.ringWait (ringKey fn.val r.val)) = true ∧
      (s.ring fn.val r.val).queue = x :: l ∧ (s.ring fn.val r.val).filled = [] ∧ x.packet = none ∧ (s.ring fn.val r.val).rx = [] ∧ s.posted fn.val
      r.val = 0) ∧
    (∃ (s : State) (fn : Fin 11) (r : Fin 32), s.quiet = true ∧ s.due (.ringWait (ringKey fn.val r.val)) = true ∧ s.posted fn.val r.val ≠ 0) ∧
    (∃ (s : State) (data : List Byte) (fn r : Nat) (h : TxDesc), s.quiet = true ∧ s.on 4 = true ∧ s.clocked 0 = true ∧ s.flag 0x020
      R.BRG_STAT_LINK_UP = true ∧ s.txNext = some (fn, r) ∧ (wholeFrame (s.ring fn r).fetched).head? = some h ∧ h.pduForm = false ∧ s.running_ =
      true ∧ s.mode.rest = .awake ∧ s.up 8 = true) ∧
    (∃ (s : State) (fn : Fin 11) (r : Fin 32) (w : TxWait) (l : List TxWait), s.quiet = true ∧ s.on 4 = true ∧ s.clocked 0 = true ∧ ringExists
      fn.val r.val = true ∧ 16 ≤ r.val ∧ (s.ring fn.val r.val).waits = w :: l ∧ w.known = true) ∧
    (∃ (s : State) (fn : Fin 11) (r : Fin 32) (w : TxWait) (l : List TxWait), s.quiet = true ∧ ringExists fn.val r.val = true ∧ 16 ≤ r.val ∧ (s.ring
      fn.val r.val).waits = w :: l ∧ w.ts = true ∧ w.known = false ∧ w.since + msT 100 ≤ s.time.tl) ∧
    (∃ (s : State) (fn : Fin 11) (r : Fin 32), s.quiet = true ∧ ringExists fn.val r.val = true ∧ s.due (.ringMod (ringKey fn.val r.val)) = true) ∧
    (∃ (l : List Byte) (s t : State), s.quiet = true ∧ exec (.txFrameEnter l) s = .next t) :=
  ⟨⟨ringUp 2 3 { Ring.empty with queue := [anItem], rx := [⟨0, 0x2000, 64⟩] }, 2, 3, anItem, [], ⟨0, 0x2000, 64⟩, [], by decide⟩,
    ⟨(ringUp 2 3 { Ring.empty with queue := [anItem], fetch := 5 }).start (.ringWait (ringKey 2 3)) 0, 2, 3, anItem, [], by decide⟩,
    ⟨((ringUp 2 3 { Ring.empty with queue := [anItem] }).setB (fnPage 2) (R.RING_STAT_WAITING 3) true).start (.ringWait (ringKey 2 3)) 0, 2, 3, by
      decide⟩,
    ⟨ringUp 2 17 { Ring.empty with tx := [aTxDesc] }, [1, 2, 3], 2, 17, aTxDesc, by decide⟩,
    ⟨ringUp 2 17 { Ring.empty with waits := [aWait true] }, 2, 17, aWait true, [], by decide⟩,
    ⟨{ ringUp 2 17 { Ring.empty with waits := [aWait false] } with time := { live.time with tl := 10 ^ 24 } }, 2, 17, aWait false, [], by decide⟩,
    ⟨(ringUp 2 17 { Ring.empty with unsignalled := 2 }).start (.ringMod (ringKey 2 17)) 0, 2, 17, by decide⟩,
    ⟨[], ringUp 2 19 Ring.empty, _, by decide, rfl⟩⟩

theorem wit_KeySlotsChange :
    (∃ (s : State) (m : Master), s.quiet = true ∧ (m = .m0 ∨ m = .m1) ∧ s.writable m pgKeySlot 0x040 = true ∧ s.flag pgKeySlot R.TBL_STAT_BUSY =
      false ∧ (s.fld pgKeySlot R.TBL_IDX) < 1024 ∧ 4 ≤ bits (s.fld pgKeySlot R.TBL_IDX) 7 0 ∧ bits (s.fld pgKeySlot R.TBL_IDX) 9 8 = 1) ∧
    (∃ (s : State) (m : Master), s.quiet = true ∧ (m = .m0 ∨ m = .m1) ∧ s.writable m pgKeySlot 0x040 = true ∧ s.flag pgKeySlot R.TBL_STAT_BUSY =
      false ∧ (s.fld pgKeySlot R.TBL_IDX) < 1024 ∧ 4 ≤ bits (s.fld pgKeySlot R.TBL_IDX) 7 0 ∧ bits (s.fld pgKeySlot R.TBL_IDX) 9 8 = 2) ∧
    (∃ (s : State) (m : Master) (k : BitVec 256), s.quiet = true ∧ (m = .m0 ∨ m = .m1) ∧ s.writable m pgKeySlot 0x040 = true ∧ s.flag pgKeySlot
      R.TBL_STAT_BUSY = false ∧ (s.fld pgKeySlot R.TBL_IDX) < 1024 ∧ 4 ≤ bits (s.fld pgKeySlot R.TBL_IDX) 7 0 ∧ bits (s.fld pgKeySlot R.TBL_IDX) 7 0
      < 128 ∧ bits (s.fld pgKeySlot R.TBL_IDX) 9 8 = 0 ∧ 1 ≤ eBits (s.tblData pgKeySlot) 3 0 ∧ eBits (s.tblData pgKeySlot) 3 0 ≤ 4 ∧ eBit (s.tblData
      pgKeySlot) 4 = false ∧ (s.loadBuf (Master.num m)).key = some k) ∧
    (∃ (s : State) (m : Master) (v : Word), s.quiet = true ∧ (m = .m0 ∨ m = .m1) ∧ s.writable m pgKeyCtrl 0x040 = true ∧ 4 ≤ (getBits v 15 8) ∧
      (getBits v 15 8) < 128 ∧ s.flag pgKeyCtrl R.KEY_STAT_BUSY = false ∧ (bits (s.rd pgKeyCtrl R.KEY_CMD_ATTR.off).toNat 3 0) ≠ 0 ∧ (bits (s.rd
      pgKeyCtrl R.KEY_CMD_ATTR.off).toNat 3 0) ≤ 4 ∧ bit (s.rd pgKeyCtrl R.KEY_CMD_ATTR.off).toNat 4 = false ∧ s.deriveCode (getBits v 23 16)
      (Master.num m) (s.rd pgKeyCtrl R.KEY_CMD_ATTR.off).toNat = 0) ∧
    (∃ (s : State) (m : Master) (v : Word), s.quiet = true ∧ (m = .m0 ∨ m = .m1) ∧ s.writable m pgKeyCtrl 0x040 = true ∧ 4 ≤ (getBits v 15 8) ∧
      (getBits v 15 8) < 128 ∧ s.flag pgKeyCtrl R.KEY_STAT_BUSY = false ∧ (bits (s.rd pgKeyCtrl R.KEY_CMD_ATTR.off).toNat 3 0) ≠ 0 ∧ (bits (s.rd
      pgKeyCtrl R.KEY_CMD_ATTR.off).toNat 3 0) ≤ 4 ∧ bit (s.rd pgKeyCtrl R.KEY_CMD_ATTR.off).toNat 4 = false ∧ s.drbgDown = false) ∧
    (∃ (s : State) (m : Master) (v : Word), s.quiet = true ∧ (m = .m0 ∨ m = .m1) ∧ s.writable m pgKeyCtrl 0x040 = true ∧ 4 ≤ (getBits v 15 8) ∧
      (getBits v 15 8) < 128 ∧ s.flag pgKeyCtrl R.KEY_STAT_BUSY = false) ∧
    (∃ (s : State) (n : Fin 256), s.quiet = true ∧ s.clocked 1 = true ∧ (s.keySlot n.val).orphaned = true ∧ s.slotInUse n.val = false) ∧
    (∃ (m : Master) (v : Word) (s t : State), s.quiet = true ∧ exec (.keyLoad m) s = .next t) :=
  ⟨⟨(keyUp 9 1).wr pgKeySlot 0x044 0x109, .m1, by decide⟩,
    ⟨(keyUp 9 1).wr pgKeySlot 0x044 0x209, .m1, by decide⟩,
    ⟨(loaded.wr pgKeySlot 0x044 9).wr pgKeySlot 0x050 0x0000FF01, .m1, 5, by decide⟩,
    ⟨(keyUp 9 4).wr pgKeyCtrl R.KEY_CMD_ATTR.off 0x00000101, .m1, 0x00090A00, by decide⟩,
    ⟨(keyUp 9 4).wr pgKeyCtrl R.KEY_CMD_ATTR.off 0x00000101, .m1, 0x00090A00, by decide⟩,
    ⟨keyUp 10 4, .m1, 0x00000A00, by decide⟩,
    ⟨live.setKeySlot 9 { KeySlot.empty 4 with orphaned := true, usage := 1 }, 9, by decide⟩,
    ⟨.m1, 5, live, _, by decide, rfl⟩⟩

theorem wit_StoreAttestLife :
    (∃ (s : State) (w : NvWrite) (l : List NvWrite), s.quiet = true ∧ s.clocked 1 = true ∧ s.bridge.p0.stall = [] ∧ s.bridge.p1.stall = [] ∧
      s.key.writes = w :: l ∧ w.job = .none ∧ w.pos < 256) ∧
    (∃ (s : State) (w : NvWrite) (l : List NvWrite), s.quiet = true ∧ s.clocked 1 = true ∧ s.bridge.p0.stall = [] ∧ s.bridge.p1.stall = [] ∧
      s.key.writes = w :: l ∧ s.key.reserveBank.isSome = true) ∧
    (∃ (s : State) (w : NvWrite) (l : List NvWrite), s.quiet = true ∧ s.clocked 1 = true ∧ s.bridge.p0.stall = [] ∧ s.bridge.p1.stall = [] ∧
      s.key.writes = w :: l ∧ s.key.reserveBank = none) ∧
    (∃ (s : State) (m : Master) (v : Word), s.quiet = true ∧ (m = .m1 ∨ m = .m2 ∨ m = .m4) ∧ s.writable m pgAttest 0x040 = true ∧ s.attRefusal = 0) ∧
    (∃ (s : State) (p : List Byte), s.quiet = true ∧ s.clocked 1 = true ∧ s.key.attPayload = some p ∧ s.up 15 = true ∧ s.drbgDown = false) ∧
    (∃ (s : State), s.quiet = true ∧ s.clocked 1 = true ∧ s.drbgDown = false) ∧
    (∃ (s : State), s.quiet = true ∧ s.clocked 1 = true ∧ s.due .drbg = true) ∧
    (∃ (s : State) (m : Master), s.quiet = true ∧ s.readable m pgDrbg R.DRBG_OUT.off = true ∧ s.drbgDown = false) ∧
    (∃ (s : State) (m : Master), s.quiet = true ∧ s.readable m pgDrbg R.DRBG_OUT.off = true ∧ s.drbgDown = true) ∧
    (∃ (s : State), s.quiet = true ∧ s.writable .m1 pgLife 0x040 = true ∧ s.mode.life = .dev ∧ s.fuseMode = true ∧ s.key.lcPending ≤ 2 ∧ s.key.lcRun
      = none ∧ s.key.writes = []) ∧
    (∃ (s : State) (v : Word), s.quiet = true ∧ s.writable .m1 pgLife 0x054 = true ∧ s.fuseMode = true ∧ s.mode.life = .prod ∧ s.key.rollback <
      s.fld 0 R.DEV_FW_VER_SECVER ∧ s.fld 0 R.DEV_FW_VER_SECVER ≤ 64) ∧
    (∃ (m : Master) (v : Word) (s t : State), s.quiet = true ∧ exec (.attGo m v) s = .next t) :=
  ⟨⟨{ live with key := { live.key with writes := [⟨20, .ceilings [(3, 9)], .none, none⟩] } }, ⟨20, .ceilings [(3, 9)], .none, none⟩, [], by decide⟩,
    ⟨{ live with key := { live.key with reserveBank := some 0, writes := [⟨20, .ceilings [(3, 9)], .none, none⟩] } }, ⟨20, .ceilings [(3, 9)],
      .none, none⟩, [], by decide⟩,
    ⟨{ live with key := { live.key with writes := [⟨20, .ceilings [(3, 9)], .none, none⟩] } }, ⟨20, .ceilings [(3, 9)], .none, none⟩, [], by decide⟩,
    ⟨keyUp 1 5, .m1, 0, by decide⟩,
    ⟨{ keyUp 1 5 with key := { (keyUp 1 5).key with attPayload := some [1, 2] } }, [1, 2], by decide⟩,
    ⟨keyUp 1 5, by decide⟩,
    ⟨((keyUp 1 5).setB pgDrbg R.DRBG_STAT_FAIL true).start .drbg 0, by decide⟩,
    ⟨keyUp 1 5, .m1, by decide⟩,
    ⟨(keyUp 1 5).setB pgDrbg R.DRBG_STAT_FAIL true, .m1, by decide⟩,
    ⟨(maintaining .dev).setKeySlot 9 { KeySlot.empty 4 with usage := 1 }, by decide⟩,
    ⟨maintaining .prod, 0, by decide⟩,
    ⟨.m1, 5, live, _, by decide, rfl⟩⟩

theorem wit_TestCommandsTaken :
    (∃ (s : State), s.quiet = true ∧ s.clocked 0 = true ∧ s.due .lap = true ∧ s.flag pgSt R.ST_CFG_LAPS_EN = true ∧ s.lapPeriod ≠ 0 ∧ s.lapMode =
      true) ∧
    (∃ (s : State) (m : Master), s.quiet = true ∧ s.writable m pgSt 0x044 = true ∧ s.testMaster (Master.num m) = true ∧ (s.mode.service ≠ .maintain
      ∨ s.mode.maintPending = true) ∧ s.testPower = true) ∧
    (∃ (s : State) (m : Master), s.calm = true ∧ s.writable m pgSt 0x044 = true ∧ s.testMaster (Master.num m) = true) ∧
    (∃ (s : State) (m : Master) (u : BitVec 16) (x : TestPhase × Nat), s.quiet = true ∧ s.writable m pgSt 0x044 = true ∧ s.testMaster (Master.num m)
      = true ∧ testable u.toNat = true ∧ s.mode.service ≠ .maintain ∧ s.testPower = true ∧ s.testStart u.toNat = some x) ∧
    (∃ (s : State) (m : Master), s.quiet = true ∧ s.writable m pgSt 0x044 = true ∧ s.testMaster (Master.num m) = true ∧ s.mode.service = .maintain ∧
      s.testPower = true) ∧
    (∃ (s : State) (m : Master), s.quiet = true ∧ s.writable m pgSt 0x044 = true ∧ s.testMaster (Master.num m) = true ∧ s.mode.service = .maintain ∧
      s.testPower = true ∧ s.mode.trust ≠ .quarantine) ∧
    (∃ (s : State) (u : BitVec 16) (x : SliceRun), s.calm = true ∧ s.clocked 0 = true ∧ s.test.op = 2 ∧ testable u.toNat = true ∧ verdict x = 1) ∧
    (∃ (s : State), s.calm = true ∧ s.clocked 0 = true ∧ s.test.op = 3 ∧ s.mode.power = .full) :=
  ⟨⟨((live.setB pgSt R.ST_CFG_LAPS_EN true).setF pgSt R.ST_CFG_LAP_PERIOD 5).start .lap 0, by decide⟩,
    ⟨{ live with mode := { live.mode with life := .dev } }, .m1, by decide⟩,
    ⟨{ testing 0x201 .slice 1 with mode := { live.mode with life := .dev } }, .m1, by decide⟩,
    ⟨{ live with mode := { live.mode with life := .dev } }, .m1, 0x201, (.out, 1), by decide⟩,
    ⟨maintaining .dev, .m1, by decide⟩,
    ⟨maintaining .dev, .m1, by decide⟩,
    ⟨{ maintaining .dev with test := { live.test with op := 2 } }, 0x201, ⟨9, 9, 5, 5⟩, by decide⟩,
    ⟨{ maintaining .dev with test := { live.test with op := 3, soft := [⟨1, 2, 3, false⟩] } }, by decide⟩⟩

theorem wit_TestRunsAndContracts :
    (∃ (s : State) (x : SliceRun) (r : TestRun), s.calm = true ∧ s.clocked 0 = true ∧ s.test.run = some r ∧ r.phase = .slice ∧ verdict x = 1 ∧
      r.slice + 1 ≠ unitSlices r.unit) ∧
    (∃ (s : State) (r : TestRun), s.calm = true ∧ s.clocked 0 = true ∧ s.due .tsGap = true ∧ s.test.run = some r ∧ r.phase = .gap) ∧
    (∃ (s : State) (port : Fin 28) (r : TestRun), s.calm = true ∧ s.moving (0x400 + port.val) = some r ∧ r.attached = false) ∧
    (∃ (s : State) (r : TestRun), s.calm = true ∧ s.test.run = some r ∧ unitClass r.unit = 4 ∧ r.attached = true ∧ r.phase = .out) ∧
    (∃ (s : State) (n : Fin 12), s.calm = true ∧ s.test.run.isSome = true ∧ s.fld (linPage n.val) R.RESERVE_MAP_SERVING = 0) ∧
    (∃ (s : State) (port : Fin 28), s.quiet = true ∧ s.fld (macPage port.val) R.RESERVE_MAP_SERVING = 0 ∧ s.engineFree = true) ∧
    (∃ (s : State) (m : Master) (x : MbEntry) (l : List MbEntry), s.quiet = true ∧ s.readable m pgMbist 0x040 = true ∧ s.test.mbLog = x :: l) ∧
    (∃ (s : State) (k : Nat) (e : Entry), s.quiet = true ∧ s.liveEntries pgContract = [(k, e)]) ∧
    (∃ (m : Master) (s t : State), s.quiet = true ∧ exec (.mbLogPop m) s = .next t) ∧
    (∃  (s t : State), s.quiet = true ∧ exec (.contractStateUpdate) s = .next t) :=
  ⟨⟨testing 0x201 .slice 1, ⟨9, 9, 5, 5⟩, ⟨0x201, .slice, 0, false, false, 1, false, 0⟩, by decide⟩,
    ⟨(testing 0x201 .gap 1).start .tsGap 0, ⟨0x201, .gap, 0, false, false, 1, false, 0⟩, by decide⟩,
    ⟨testing 0x403 .out 1, 3, ⟨0x403, .out, 0, false, false, 1, false, 0⟩, by decide⟩,
    ⟨{ testing 0x403 .out 1 with test := { live.test with op := 1, run := some ⟨0x403, .out, 0, false, false, 1, true, 0⟩ } }, ⟨0x403, .out, 0,
      false, false, 1, true, 0⟩, by decide⟩,
    ⟨testing 0x201 .slice 1, 4, by decide⟩,
    ⟨live, 3, by decide⟩,
    ⟨{ live with test := { live.test with mbLog := [⟨7, 9, 3, false, true, false⟩] } }, .m1, ⟨7, 9, 3, false, true, false⟩, [], by decide⟩,
    ⟨live.putPair pgContract 4 1, 4, 1, by decide⟩,
    ⟨.m1, live, _, by decide, rfl⟩,
    ⟨live, _, by decide, rfl⟩⟩

theorem wit_CanPageSoftReset :
    (∃ (s : State) (m : Master) (c : Fin 48) (v : Word), s.quiet = true ∧ s.headWritable m (canPage c.val) 0x008 = true ∧ s.pageUp (canPage c.val) =
      true) :=
  ⟨((sending 3).wr (canPage 3) (mbHdr 5) 0x300).setF (canPage 3) R.CAN_ECNT_TEC 9, .m1, 3, 0, by decide⟩

theorem wit_StepRunsFront : ∃ (s : State) (c : Instr) (l : List Instr), s.pending = c :: l :=
  ⟨{ live with pending := [.droopDetect] }, .droopDetect, [], rfl⟩

theorem wit_EmptyQueueTick :
    (∃ s : State, s.pending = [] ∧ s.quiet = true ∧ s.faultShown ∧ s.released = true) ∧
    (∃ s : State, s.pending = [] ∧ s.quiet = true ∧ s.faultShown ∧ s.released = false) :=
  ⟨⟨{ live with fault := { live.fault with pin := true } }, rfl, by decide, fun _ => rfl, by decide⟩,
    ⟨State.reset, rfl, by decide, fun _ => rfl, by decide⟩⟩

theorem wit_FaultPinHeld : ∃ s t : State, s.faultShown ∧ step s = .next t :=
  ⟨State.reset, _, fun _ => rfl, rfl⟩

theorem wit_CanEventsFrame :
    ∃ (c : Fin 48) (w : CanWire) (begun : Bool) (d n : Nat) (e : CanError) (s t : State), s.quiet = true ∧ exec (.canFrameReceive c w begun) s =
      .next t :=
  ⟨3, aWire, false, 5, 9, anError .bit, canUp 3, _, by decide, rfl⟩

theorem wit_LinEventsFrame :
    ∃ (n : Fin 12) (pid : Byte) (rate : BitVec 16) (l : List Byte) (fr started bad : Bool) (us : Nat) (s t : State), s.quiet = true ∧ exec
      (.linSlotStart n) s = .next t :=
  ⟨2, 0x80, 1, [1, 2], true, true, false, 300, linUp 2 true 5 1, _, by decide, rfl⟩

theorem wit_TimeEventsFrame :
    ∃ (n : Nat) (off : List Island) (k : Fin 4) (p : Fin 16) (i : Fin 8) (rising : Bool) (w : CanWire) (port : Fin 24) (msg : PtpMsg) (c : Fin 48)
      (s t : State), s.quiet = true ∧ exec (.timeFanoutUpdate n off) s = .next t :=
  ⟨5, [], 1, 2, 3, true, aWire, 4, aMsg .sync, 3, live, _, by decide, rfl⟩

theorem wit_PipelineFrame :
    ∃ (k : Fin 1024) (g : Fin 256) (port : Fin 28) (prio : Option (Fin 8)) (s t : State), s.quiet = true ∧ exec (.frameClassify) s = .next t :=
  ⟨5, 7, 3, none, { live with fwd := { live.fwd with classQ := [aFrame] } }, _, by decide, rfl⟩

theorem wit_HostReadsFrame :
    ∃ (m : Master) (p : BitVec 14) (off : BitVec 12) (s t : State), s.quiet = true ∧ exec (.errCountRead m p) s = .next t :=
  ⟨.m1, 0x044, 0x080, live, _, by decide, rfl⟩

theorem wit_StoreEventsFrame :
    ∃ (n : Fin 256) (s t : State), s.quiet = true ∧ exec (.orphanWipe n) s = .next t :=
  ⟨9, keyUp 9 1, _, by decide, rfl⟩

theorem wit_RingEventsFrame :
    ∃ (fn : Fin 11) (r : Fin 32) (descs : List (BitVec 256)) (s t : State), s.quiet = true ∧ exec (.descFetch fn r descs) s = .next t :=
  ⟨1, 2, [5], ringUp 1 2 Ring.empty, _, by decide, rfl⟩

theorem wit_LogbookFrame :
    ∃ (n : Nat) (s t : State), s.quiet = true ∧ exec (.logRecordWrite) s = .next t :=
  ⟨3, live, _, by decide, rfl⟩

theorem wit_CanCommandsFrame :
    ∃ (m : Master) (c : Fin 48) (b : Fin 3) (v : Word) (i : Fin 33) (s t : State), s.quiet = true ∧ exec (.txbReq m c b) s = .next t :=
  ⟨.m0, 5, 1, 3, 2, holding 5, _, by decide, rfl⟩

end Sys2Proof.Tests
end

section
/-! SUPPORT. What the events of the time subsystem leave still: a projection of the state, and that registers, reports and timers, the stores of
the time subsystem, stream gates and hurdle lists keep it. -/

namespace Sys2Proof.Frames

open Sys2Proof.Machine Sys2Proof.Laws

/-! ### The entries of a map that are watched -/

section

variable {α : Type} {q : Nat → Bool}

theorem mget_mkeep (m : SMap α) {k : Nat} (h : q k = true) : mget (mkeep m q) k = mget m k := by
  induction m with
  | nil => rfl
  | cons e m ih =>
    obtain ⟨i, v⟩ := e
    by_cases hi : q i = true
    · have hcons : mkeep ((i, v) :: m) q = (i, v) :: mkeep m q := List.filter_cons_of_pos hi
      rw [hcons, mget, mget, ih]
    · have hcons : mkeep ((i, v) :: m) q = mkeep m q := List.filter_cons_of_neg hi
      have hik : i ≠ k := fun hk => hi (hk ▸ h)
      rw [hcons, ih, mget, if_neg hik]

theorem mkeep_mdel (m : SMap α) {k : Nat} (h : q k = false) : mkeep (mdel m k) q = mkeep m q := by
  unfold mkeep mdel
  rw [List.filter_filter]
  refine List.filter_congr fun e _ => ?_
  by_cases hk : e.1 = k
  · simp [hk, h]
  · simp [hk]

theorem mkeep_minsert (m : SMap α) {k : Nat} (v : α) (h : q k = false) : mkeep (minsert m k v) q = mkeep m q := by
  have hnew (l : SMap α) : mkeep ((k, v) :: l) q = mkeep l q := List.filter_cons_of_neg (by simp [h])
  induction m with
  | nil => exact hnew []
  | cons e m ih =>
    obtain ⟨i, w⟩ := e
    unfold minsert
    split
    · exact hnew _
    · simp only [mkeep, List.filter_cons] at ih ⊢
      rw [ih]

theorem mkeep_mset (m : SMap α) {k : Nat} (v : α) (h : q k = false) : mkeep (mset m k v) q = mkeep m q :=
  (mkeep_minsert _ v h).trans (mkeep_mdel m h)

end

/-! ### What is left still -/

/-- The parts of the state that the passing of time leaves alone: of the relay engine all but the PDUs on their way to it, of the register file the
registers whose keys are watched. -/
structure Still where
  boot : BootState
  power : PowerState
  slots : SMap Slot
  wake : WakeState
  test : TestState
  lin : SMap LinChan
  key : KeyState
  relay : RelayState
  rings : SMap Ring
  regs : SMap Word

/-- The still part of a state; `q` says which registers are watched. -/
def still (q : Nat → Bool) (s : State) : Still :=
  { boot := s.boot, power := s.power, slots := s.slots, wake := s.wake, test := s.test, lin := s.lin, key := s.key
    relay := { s.relay with coming := [] }, rings := s.rings, regs := mkeep s.regs q }

/-- No register is watched. -/
def noReg (_ : Nat) : Bool := false

@[simp] theorem noReg_eq (k : Nat) : noReg k = false := by rw [noReg]

section

variable {q : Nat → Bool} {s t : State}

/-- A watched register reads the same in two states that are still alike. -/
theorem rd_of_still (h : still q t = still q s) (p off : Nat) (hq : q (regKey p off) = true) : t.rd p off = s.rd p off := by
  have hr : mkeep t.regs q = mkeep s.regs q := congrArg Still.regs h
  unfold State.rd
  rw [← mget_mkeep t.regs hq, hr, mget_mkeep s.regs hq]

/-- States that are still alike for some watched registers are so for none. -/
theorem still_noReg (h : still q t = still q s) : still noReg t = still noReg s := by
  have hno (m : SMap Word) : mkeep m noReg = [] := List.filter_eq_nil_iff.mpr fun e _ => by simp
  have hx : { still q t with regs := [] } = { still q s with regs := [] } := congrArg (fun x : Still => { x with regs := [] }) h
  simpa only [still, hno] using hx

@[simp] theorem still_ite (c : Prop) [Decidable c] (a b : State) : still q (if c then a else b) = if c then still q a else still q b :=
  apply_ite (still q) c a b

/-- A fold of steps that keep the still part keeps it. -/
theorem still_foldl {α : Type} (f : State → α → State) (l : List α) (h : ∀ u, ∀ x ∈ l, still q (f u x) = still q u) (s : State) :
    still q (l.foldl f s) = still q s := by
  induction l generalizing s with
  | nil => rfl
  | cons x l ih => exact (ih (fun u y hy => h u y (List.mem_cons_of_mem _ hy)) _).trans (h s x (List.mem_cons_self ..))

/-! ### Registers and reports -/

@[simp] theorem still_wr {p off : Nat} (v : Word) (h : q (regKey p off) = false) : still q (s.wr p off v) = still q s := by
  have hr : mkeep (s.wr p off v).regs q = mkeep s.regs q := by
    unfold State.wr
    dsimp only
    split
    · exact mkeep_mdel _ h
    · exact mkeep_mset _ _ h
  exact congrArg (Still.mk s.boot s.power s.slots s.wake s.test s.lin s.key { s.relay with coming := [] } s.rings) hr

@[simp] theorem still_setF {p : Nat} {f : Fld} (x : Nat) (h : q (regKey p f.off) = false) : still q (s.setF p f x) = still q s := still_wr _ h
@[simp] theorem still_setB {p : Nat} {f : Fld} (x : Bool) (h : q (regKey p f.off) = false) : still q (s.setB p f x) = still q s := still_wr _ h
@[simp] theorem still_count {p : Nat} {f : Fld} (h : q (regKey p f.off) = false) : still q (s.count p f) = still q s := still_wr _ h
@[simp] theorem still_countN {p : Nat} {f : Fld} (n : Nat) (h : q (regKey p f.off) = false) : still q (s.countN p f n) = still q s := still_wr _ h
@[simp] theorem still_countSat {p : Nat} {f : Fld} (h : q (regKey p f.off) = false) : still q (s.countSat p f) = still q s := still_wr _ h

@[simp] theorem still_emit (o : Out) : still q (s.emit o) = still q s := rfl
@[simp] theorem still_start (x : Tmr) (d : Nat) : still q (s.start x d) = still q s := rfl
@[simp] theorem still_stop (x : Tmr) : still q (s.stop x) = still q s := rfl
@[simp] theorem still_draw : still q s.draw = still q s := rfl
@[simp] theorem still_drop (code : Nat) : still q (s.drop code) = still q s := rfl

theorem still_of_signals (h : Signals s t) : still q t = still q s := by
  obtain ⟨o, b, f, m, rfl⟩ := h
  rfl

@[simp] theorem still_raise {p : Nat} (i : Nat) (h : ∀ off, q (regKey p off) = false) : still q (s.raise p i) = still q s :=
  (still_of_signals (raise_signals s p i)).trans (still_wr _ (h _))

@[simp] theorem still_captureInternal {p : Nat} (a code : Nat) (h : ∀ off, q (regKey p off) = false) :
    still q (s.captureInternal p a code) = still q s := by
  simp [State.captureInternal, State.capture, h]

@[simp] theorem still_record (r : LogRec) : still q (s.record r) = still q s := by
  obtain ⟨l, h⟩ := record_shape s r
  rw [h]
  rfl

end

/-! ### The answer of a command -/

/-- In a quiet state a command that leaves self-test alone answers the state that it makes, but for FAULT_N. -/
theorem still_answer (q : Nat → Bool) {s t u : State} (hs : s.quiet = true) (ht : t.test = s.test) (h : answer s t = .next u) :
    still q u = still q t := by
  simp only [State.quiet, Bool.and_eq_true, Option.isNone_iff_eq_none, Bool.not_eq_true', List.isEmpty_iff] at hs
  obtain ⟨⟨⟨⟨⟨hw, hl⟩, -⟩, -⟩, -⟩, hc⟩ := hs
  rw [answer_quiet s t (ht ▸ hw) (ht ▸ hl) (ht ▸ hc)] at h
  cases h
  exact (show still q { t.settleFault with pending := s.pending } = still q t.settleFault from rfl).trans
    (still_of_signals (settleFault_signals t))

/-! ### Stores of one block -/

section

variable {q : Nat → Bool} {s : State}

theorem still_time (x : TimeState) : still q { s with time := x } = still q s := rfl
@[simp] theorem still_elapse (n : Nat) : still q (s.elapse n) = still q s := still_time _
@[simp] theorem still_setClock (k v : Nat) : still q (s.setClock k v) = still q s := by
  unfold State.setClock
  split <;> rfl
@[simp] theorem still_setPistol (p : Nat) (x : Pistol) : still q (s.setPistol p x) = still q s := rfl
@[simp] theorem still_putServo (k : Nat) (x : Servo) : still q (s.putServo k x) = still q s := rfl
@[simp] theorem still_setDual (k : Nat) (d : Int) (w : Bool) : still q (s.setDual k d w) = still q s := rfl
@[simp] theorem still_setCapture (i : Nat) (x : Capture) : still q (s.setCapture i x) = still q s := rfl
@[simp] theorem still_setCts (i : Nat) (x : CtsSlot) : still q (s.setCts i x) = still q s := rfl
@[simp] theorem still_setPtp (n : Nat) (x : PtpPort) : still q (s.setPtp n x) = still q s := rfl
@[simp] theorem still_setGptp (k : Nat) (x : Gptp) : still q (s.setGptp k x) = still q s := rfl
@[simp] theorem still_setGate (g : Nat) (x : StreamGate) : still q (s.setGate g x) = still q s := rfl
@[simp] theorem still_setLane (n i : Nat) (l : Lane) : still q (s.setLane n i l) = still q s := rfl
@[simp] theorem still_setPort (n : Nat) (p : EgressPort) : still q (s.setPort n p) = still q s := rfl
@[simp] theorem still_stepHeats (k : Nat) : still q (s.stepHeats k) = still q s := rfl

@[simp] theorem still_releaseHeld (k : Nat) : still q (s.releaseHeld k) = still q s := by
  unfold State.releaseHeld
  split
  · split <;> rfl
  · rfl

@[simp] theorem still_setChan {c : Nat} (k : CanChan) (h : ∀ off, q (regKey (canPage c) off) = false) :
    still q (s.setChan c k) = still q s := by
  simp only [State.setChan, still_setB _ (h _), still_setF _ (h _)]
  rfl

end

/-! ### Gates and hurdle lists -/

section

variable {q : Nat → Bool} {s : State}

@[simp] theorem still_advanceGate (g : Nat) : still q (s.advanceGate g) = still q s := by
  unfold State.advanceGate
  split
  · rfl
  · simp

@[simp] theorem still_advancePort (n : Nat) : still q (s.advancePort n) = still q s :=
  still_foldl (fun u i => u.advanceLane n i) _ (fun _ _ _ => still_setLane ..) s

@[simp] theorem still_settleLine (n : Nat) : still q (s.settleLine n) = still q s := by
  unfold State.settleLine
  dsimp only
  split
  · rfl
  · split
    · rfl
    · simp

@[simp] theorem still_holdNow (n : Nat) : still q (s.holdNow n) = still q s := by
  unfold State.holdNow
  dsimp only
  split
  · rfl
  · simp

@[simp] theorem still_unask (n : Nat) : still q (s.unask n) = still q s := by
  unfold State.unask
  dsimp only
  split <;> simp

@[simp] theorem still_closeLine (n : Nat) : still q (s.closeLine n) = still q s := by
  unfold State.closeLine
  dsimp only
  split
  · simp
  · rfl

variable {n : Nat} (hl : ∀ off, q (regKey (lanePage n) off) = false) (hm : ∀ off, q (regKey (macPage n) off) = false)

include hl in
theorem still_noteInvalid : still q (s.noteInvalid n) = still q s := by
  simp [State.noteInvalid, hl]

include hl hm

theorem still_setHold (on : Bool) : still q (s.setHold n on) = still q s := by
  simp [State.setHold, State.putHold, hl, hm]

theorem still_takeHold : still q (s.takeHold n) = still q s := by
  simp [State.takeHold, still_setHold hl hm, hm]

theorem still_advanceList : still q (s.advanceList n) = still q s := by
  simp [State.advanceList, still_noteInvalid hl, still_setHold hl hm, still_takeHold hl hm, hl]

theorem still_stepList : still q (s.stepList n) = still q s := by
  simp [State.stepList, still_advanceList hl hm, still_setHold hl hm, still_takeHold hl hm]

end

end Sys2Proof.Frames
end

section
/-! SUPPORT. Pistols, time-triggered windows, and steps, samples and the validity of a domain keep what is still. -/

namespace Sys2Proof.Frames

open Sys2Proof.Machine Sys2Proof.Laws

/-- No watched register lies in a page that a step, a sample or a change of validity of domain `k` may write. -/
structure SparesTime (q : Nat → Bool) (k : Nat) : Prop where
  dom : ∀ off, q (regKey (pgDom k) off) = false
  time : ∀ off, q (regKey pgTime off) = false
  pistol : ∀ off, q (regKey pgPistol off) = false
  tt : ∀ off, q (regKey pgTt off) = false
  can : ∀ c < 48, ∀ off, q (regKey (canPage c) off) = false
  lane : ∀ n < 28, ∀ off, q (regKey (lanePage n) off) = false
  mac : ∀ n < 28, ∀ off, q (regKey (macPage n) off) = false

theorem sparesTime_noReg (k : Nat) : SparesTime noReg k := by
  constructor <;> simp

/-! ### Pistols -/

section

variable {q : Nat → Bool} {s : State} (hp : ∀ off, q (regKey pgPistol off) = false)

include hp

theorem still_driveP (p : Nat) (a : Bool) : still q (s.driveP p a) = still q s := by
  simp [State.driveP, hp]

theorem still_resumePistol (p : Nat) : still q (s.resumePistol p) = still q s := by
  simp [State.resumePistol, still_driveP hp, hp]

theorem still_pistolEdge (p : Nat) : still q (s.pistolEdge p) = still q s := by
  unfold State.pistolEdge
  split
  · rfl
  · simp [still_driveP hp, hp]

theorem still_pulseEnd (p : Nat) : still q (s.pulseEnd p) = still q s := by
  simp [State.pulseEnd, still_driveP hp]

end

/-! ### Time-triggered windows -/

section

variable {q : Nat → Bool} {s : State} {c : Nat} (hc : ∀ off, q (regKey (canPage c) off) = false)

include hc

theorem still_ttOpen (j : Nat) : still q (s.ttOpen c j) = still q s := by
  unfold State.ttOpen
  split
  · rfl
  · simp [hc]

variable (ht : ∀ off, q (regKey pgTt off) = false)

include ht

theorem still_ttShut (shut : Nat × Nat → Bool) : still q (s.ttShut c shut) = still q s := by
  unfold State.ttShut
  exact (still_foldl _ _ (fun u w _ => by simp [ht]) _).trans (still_setChan _ hc)

theorem still_ttClose : still q (s.ttClose c) = still q s := still_ttShut hc ht _

end

/-! ### Steps and validity of a domain -/

section

variable {q : Nat → Bool} {s : State} {k : Nat} (hq : SparesTime q k)

include hq

theorem still_ttResync : still q (s.ttResync k) = still q s := by
  unfold State.ttResync
  refine still_foldl _ _ (fun u c hc => ?_) s
  have hc' := hq.can c (List.mem_range.mp hc)
  split
  · rfl
  · rw [still_ite, still_foldl _ _ (fun v j _ => still_ttOpen hc' j), still_ttShut hc' hq.tt, ite_self]

theorem still_syncGates : still q (s.syncGates k) = still q s := by
  unfold State.syncGates
  have hlist : ∀ u : State, ∀ n ∈ List.range 28,
      still q (if u.hlEn n && u.hlDomain n == k then u.stepList n else u) = still q u := by
    intro u n hn
    have hn' := List.mem_range.mp hn
    rw [still_ite, still_stepList (hq.lane n hn') (hq.mac n hn'), ite_self]
  refine (still_foldl _ _ (fun u g _ => ?_) _).trans (still_foldl _ _ hlist s)
  split
  · rw [still_ite, still_advanceGate, ite_self]
  · rfl

theorem still_setValid (v : Bool) : still q (s.setValid k v) = still q s := by
  have hresume (u : State) (l : List Nat) : still q (l.foldl (fun t p => t.resumePistol p) u) = still q u :=
    still_foldl _ _ (fun _ p _ => still_resumePistol hq.pistol p) u
  have hhold (u : State) (l : List Nat) : still q (l.foldl (fun t p => t.setB pgPistol (R.PST_STAT_HELD p) true) u) = still q u :=
    still_foldl _ _ (fun _ p _ => still_setB _ (hq.pistol _)) u
  simp [State.setValid, still_syncGates hq, still_ttResync hq, hresume, hhold, hq.dom, hq.time]

theorem still_stepTo (v op : Nat) : still q (s.stepTo k v op) = still q s := by
  have hresume (u : State) (l : List Nat) :
      still q (l.foldl (fun t p => if t.domainValid k then t.resumePistol p else t) u) = still q u :=
    still_foldl _ _ (fun _ p _ => by rw [still_ite, still_resumePistol hq.pistol, ite_self]) u
  simp [State.stepTo, still_syncGates hq, still_ttResync hq, hresume, hq.dom]

/-! ### The servo and samples -/

theorem still_setServo (st : Nat) : still q (s.setServo k st) = still q s := by
  simp [State.setServo, hq.dom]

theorem still_toHoldover : still q (s.toHoldover k) = still q s := by
  simp [State.toHoldover, still_setServo hq, hq.dom]

theorem still_setRate (r : Int) : still q (s.setRate k r) = still q s := still_setF _ (hq.dom _)

theorem still_useSample (e dt : Int) : still q (s.useSample k e dt) = still q s := by
  simp [State.useSample, still_setServo hq, still_setRate hq, still_setValid hq, still_stepTo hq]

theorem still_reloadB : still q (s.reloadB k) = still q s := by
  simp [State.reloadB, still_setServo hq]

theorem still_thirdReference (e : Int) : still q (s.thirdReference k e).1 = still q s := by
  unfold State.thirdReference
  dsimp only
  split
  · rfl
  · split
    · simp [still_setValid hq, hq.time]
    · exact still_reloadB hq

theorem still_sample (e : Int) (t : Nat) : still q (s.sample k e t) = still q s := by
  unfold State.sample
  have h1 := still_thirdReference hq (s := s) e
  generalize s.thirdReference k e = x at h1 ⊢
  obtain ⟨u, d⟩ := x
  dsimp only at h1 ⊢
  split <;> simp [still_useSample hq, hq.dom, h1]

end

end Sys2Proof.Frames
end

section
/-! SUPPORT. A frame or an error of a CAN channel keeps what is still where no watched register lies in the channel's page; so, with no register
watched, do captures and the slave slots of CAN time synchronisation. -/

namespace Sys2Proof.Frames

open Sys2Proof.Machine Sys2Proof.Laws

section

variable {q : Nat → Bool} {s : State} {c : Nat} (hc : ∀ off, q (regKey (canPage c) off) = false)

include hc

/-! ### Transmit buffers and the queue -/

theorem still_putTxb (b : Nat) (req cancel locked : Bool) (outcome : Nat) (late src : Bool) (handle : Nat) :
    still q (s.putTxb c b req cancel locked outcome late src handle) = still q s := still_wr _ (hc _)

theorem still_fillTxb (b : Nat) (h : CanHeld) : still q (s.fillTxb c b h) = still q s := by
  have hdata (u : State) (d : List Byte) : still q ((List.range 16).foldl (fun t k => t.wr (canPage c) (0x204 + 0x50 * b + 12 + 4 * k)
      (BitVec.ofNat 32 (leNat ((d.drop (4 * k)).take 4)))) u) = still q u :=
    still_foldl _ _ (fun _ _ _ => still_wr _ (hc _)) u
  simp only [State.fillTxb, still_setChan _ hc, hdata, still_wr _ (hc _), still_putTxb hc]

theorem still_refillStep {t : State} (h : s.refillStep c = some t) : still q t = still q s := by
  unfold State.refillStep at h
  dsimp only at h
  split at h
  · cases h
  · split at h
    · cases h
      rw [still_fillTxb hc, still_setChan _ hc]
    · split at h
      · cases h
      · split at h
        · cases h
        · split at h
          · cases h
            rw [still_fillTxb hc, still_setChan _ hc]
          · cases h

theorem still_refill : still q (s.refill c) = still q s := by
  refine still_foldl _ _ (fun u _ _ => ?_) s
  cases h : u.refillStep c with
  | none => rfl
  | some t => exact still_refillStep hc h

theorem still_txEvent (h : CanHeld) (outcome : Nat) (late : Bool) : still q (s.txEvent c h outcome late) = still q s := by
  simp [State.txEvent, hc]

theorem still_canDrop (code : Nat) : still q (s.canDrop c code) = still q s := by
  simp [State.canDrop, hc]

theorem still_dropEvent (h : CanHeld) (late : Bool) (code : Nat) : still q (s.dropEvent c h late code) = still q s := by
  simp [State.dropEvent, still_txEvent hc]

theorem still_clearTxb (b outcome : Nat) (late : Bool) : still q (s.clearTxb c b outcome late) = still q s := by
  simp only [State.clearTxb, still_setChan _ hc, still_putTxb hc]

theorem still_endTxb (b outcome : Nat) (late : Bool) (code : Nat) : still q (s.endTxb c b outcome late code) = still q s := by
  unfold State.endTxb
  split
  · rfl
  · simp [still_dropEvent hc, still_canDrop hc, still_clearTxb hc, still_txEvent hc, hc]

theorem still_attemptFails : still q (s.attemptFails c) = still q s := by
  unfold State.attemptFails
  dsimp only
  split
  · rfl
  · split
    · exact still_setChan _ hc
    · simp [still_refill hc, still_endTxb hc, hc]

/-! ### Error confinement -/

theorem still_putErr (tec rec_ : Nat) : still q (s.putErr c tec rec_) = still q s := still_wr _ (hc _)

theorem still_errEval : still q (s.errEval c) = still q s := by
  simp [State.errEval, hc]

theorem still_integrate : still q (s.integrate c) = still q s := by
  simp [State.integrate, hc]

theorem still_ackSeen : still q (s.ackSeen c) = still q s := by
  simp [State.ackSeen, hc]

theorem still_ackMissed : still q (s.ackMissed c) = still q s := by
  simp [State.ackMissed, hc]

theorem still_countError (tx : Bool) (e : CanError) : still q (s.countError c tx e) = still q s := by
  simp [State.countError, still_putErr hc]

theorem still_noteTdc : still q (s.noteTdc c) = still q s := by
  unfold State.noteTdc
  split
  · rfl
  · simp [hc]

theorem still_busError (e : CanError) : still q (s.busError c e) = still q s := by
  simp [State.busError, still_integrate hc, still_attemptFails hc, still_errEval hc, still_ackMissed hc, still_countError hc, still_noteTdc hc, hc]

/-! ### Reception -/

theorem still_mbStore (i : Nat) (f : CanFrame) (st : Stamps) : still q (s.mbStore c i f st) = still q s := by
  simp [State.mbStore, hc]

theorem still_mbDeliver (f : CanFrame) (st : Stamps) : still q (s.mbDeliver c f st) = still q s := by
  unfold State.mbDeliver
  dsimp only
  split
  · exact still_mbStore hc ..
  · split
    · exact still_mbStore hc ..
    · rfl

theorem still_heardCount : still q (s.heardCount c) = still q s := by
  unfold State.heardCount
  dsimp only
  rw [still_count (hc _)]
  split
  · rw [still_draw, still_putErr hc]
  · rw [still_putErr hc]

theorem still_canHeard : still q (s.canHeard c) = still q s := by
  simp [State.canHeard, still_ackSeen hc, still_errEval hc, still_heardCount hc, hc]

omit hc in
theorem still_pduComes (p : Pdu) : still q (s.pduComes p) = still q s := rfl

theorem still_canTaken (f : CanFrame) : still q (s.canTaken c f) = still q s := by
  simp [State.canTaken, still_mbDeliver hc, still_pduComes, still_canDrop hc]

end

/-! ### Captures and the slave slots -/

section

variable {s : State}

theorem still_captureStore (i : Nat) (rising : Bool) (st : Stamps) : still noReg (s.captureStore i rising st) = still noReg s := by
  simp [State.captureStore]

theorem still_captureEdge (i : Nat) (rising : Bool) : still noReg (s.captureEdge i rising) = still noReg s := by
  have hsamples (u : State) (st : Stamps) : still noReg ((List.range 4).foldl (fun t k =>
      if t.fld (pgDom k) R.DOM_CFG_SRC == 3 && t.fld (pgDom k) R.DOM_CFG_SRC_IDX == i then t.sample k (ppsOffset (st.read k)) st.tl else t) u) =
      still noReg u :=
    still_foldl _ _ (fun t k _ => by rw [still_ite, still_sample (sparesTime_noReg k), ite_self]) u
  simp only [State.captureEdge, still_ite, hsamples, still_captureStore, still_setCapture, ite_self]

theorem still_ctsSync (i : Nat) (f : CanFrame) (sof : Stamps) : still noReg (s.ctsSync i f sof) = still noReg s := rfl

theorem still_ctsFollow (i : Nat) (f : CanFrame) : still noReg (s.ctsFollow i f) = still noReg s := by
  unfold State.ctsFollow
  dsimp only
  split
  · simp
  · simp [still_sample (sparesTime_noReg _)]

theorem still_slotsTake (c : Nat) (f : CanFrame) (sof : Stamps) : still noReg (s.slotsTake c f sof) = still noReg s :=
  (still_foldl _ _ (fun _ i _ => still_ctsFollow i f) _).trans (still_foldl _ _ (fun _ i _ => still_ctsSync i f sof) s)

theorem still_slotsHear (c : Nat) (f : CanFrame) : still noReg (s.slotsHear c f) = still noReg s := by
  simp [State.slotsHear, still_slotsTake]

end

end Sys2Proof.Frames
end

section
/-! SUPPORT. gPTP messages, the copies of them for the host, and updates of the replicas: what they keep of what is still. -/

namespace Sys2Proof.Frames

open Sys2Proof.Machine Sys2Proof.Laws

/-! ### The registers that hold HOST_COPY -/

/-- The keys of the registers PTP_PORT, in which HOST_COPY stands. -/
def portReg (k : Nat) : Bool := decide (regKey pgPtp 0x040 ≤ k ∧ k < regKey pgPtp 0x0A0)

theorem portReg_port {n : Nat} (h : n < 24) : portReg (regKey pgPtp (R.PTP_PORT_HOST_COPY n).off) = true := by
  rw [portReg, decide_eq_true_iff]
  simp only [regKey, pgPtp, R.PTP_PORT_HOST_COPY]
  omega

theorem portReg_page {p : Nat} (off : Nat) (h : p ≠ pgPtp) : portReg (regKey p off) = false := by
  simp only [pgPtp] at h
  rw [portReg, decide_eq_false_iff_not]
  simp only [regKey, pgPtp]
  omega

theorem portReg_above {off : Nat} (h : 0x0A0 ≤ off) (h' : off < 4096) : portReg (regKey pgPtp off) = false := by
  rw [portReg, decide_eq_false_iff_not]
  simp only [regKey, pgPtp]
  omega

theorem sparesTime_portReg {k : Nat} (h : k < 4) : SparesTime portReg k where
  dom off := portReg_page off (by simp only [pgDom, pgPtp]; omega)
  time off := portReg_page off (by decide)
  pistol off := portReg_page off (by decide)
  tt off := portReg_page off (by decide)
  can c hc off := portReg_page off (by simp only [canPage, pgPtp]; omega)
  lane n hn off := portReg_page off (by simp only [lanePage, pgPtp]; omega)
  mac n hn off := portReg_page off (by simp only [macPage, pgPtp]; omega)

/-! ### gPTP messages -/

section

variable {s : State} {n : Nat}

section

variable (hn : n < 24)

include hn

theorem still_setPdelayOk (v : Bool) : still portReg (s.setB pgPtp (R.PTP_PSTAT_PDELAY_OK n) v) = still portReg s :=
  still_setB v (portReg_above (by simp only [R.PTP_PSTAT_PDELAY_OK]; omega) (by simp only [R.PTP_PSTAT_PDELAY_OK]; omega))

theorem still_pdelayMissed (older : Bool) : still portReg (s.pdelayMissed n older) = still portReg s := by
  simp [State.pdelayMissed, still_setPdelayOk hn]

theorem still_pdelayDone (older : Bool) (t1 : Nat) (t2 t3 : Int) (t4 : Nat) :
    still portReg (s.pdelayDone n older t1 t2 t3 t4) = still portReg s := by
  have hnrr (u : State) (x : Nat) : still portReg (u.setF pgPtp (R.NRR n) x) = still portReg u :=
    still_setF x (portReg_above (by simp only [R.NRR]; omega) (by simp only [R.NRR]; omega))
  have hdelay (u : State) (x : Nat) : still portReg (u.setF pgPtp (R.LINK_DELAY n) x) = still portReg u :=
    still_setF x (portReg_above (by simp only [R.LINK_DELAY]; omega) (by simp only [R.LINK_DELAY]; omega))
  simp only [State.pdelayDone, still_ite, still_setPdelayOk hn, hdelay, hnrr, still_stop, still_setPtp, ite_self]

theorem still_pdelayFollowUp (older : Bool) (t1 : Option Nat) (resp : Option (Int × Nat)) (m : PtpMsg) :
    still portReg (s.pdelayFollowUp n older t1 resp m) = still portReg s := by
  unfold State.pdelayFollowUp
  split
  · exact still_pdelayDone hn ..
  · rfl

theorem still_pdelayResp (m : PtpMsg) (st : Stamps) : still portReg (s.pdelayResp n m st) = still portReg s := by
  unfold State.pdelayResp
  dsimp only
  split
  · rfl
  · split
    · split
      · exact still_setPtp ..
      · exact still_pdelayFollowUp hn ..
      · rfl
    · split
      · split
        · exact still_setPtp ..
        · exact still_pdelayFollowUp hn ..
        · rfl
      · rfl

end

theorem syncDomain_lt {m : PtpMsg} {k : Nat} (h : s.syncDomain n m = some k) : k < 4 := by
  unfold State.syncDomain at h
  split at h
  · cases h
  · exact List.mem_range.mp (List.mem_of_find?_eq_some h)

theorem still_syncDone {k : Nat} (hk : k < 4) (pot : Nat) (cf rate : Int) (st : Stamps) :
    still portReg (s.syncDone n k pot cf rate st) = still portReg s := by
  simp only [State.syncDone, still_ite, still_sample (sparesTime_portReg hk), still_setGptp, ite_self]

theorem still_syncReceive (m : PtpMsg) (st : Stamps) : still portReg (s.syncReceive n m st) = still portReg s := by
  unfold State.syncReceive
  split
  · rfl
  · split
    · rfl
    · next k hk => rw [still_ite, still_setGptp, still_syncDone (syncDomain_lt hk), ite_self]

theorem still_followUp (m : PtpMsg) : still portReg (s.followUp n m) = still portReg s := by
  unfold State.followUp
  split
  · rfl
  · split
    · rfl
    · next k hk =>
      split
      · rw [still_ite, still_syncDone (syncDomain_lt hk), ite_self]
      · rfl

end

/-! ### Copies for the host -/

/-- What is still, but for the rings. -/
def Still.ringless (x : Still) : Still := { x with rings := [] }

section

variable {s : State}

theorem ringless_toRing (fn r : Nat) (x : RxItem) (new : Nat) :
    (still noReg (s.toRing fn r x new).1).ringless = (still noReg s).ringless := by
  have hdrop (code : Nat) : still noReg (s.ringDrop fn r code) = still noReg s := by simp [State.ringDrop]
  unfold State.toRing
  dsimp only
  split
  · rfl
  · split
    · exact congrArg _ (hdrop _)
    · split
      · exact congrArg _ (hdrop _)
      · split
        · exact congrArg _ (hdrop _)
        · rfl

theorem still_holdPacket (k : Option Nat) (cells src prio : Nat) : still noReg (s.holdPacket k cells src prio).1 = still noReg s := by
  unfold State.holdPacket
  split
  · split <;> rfl
  · rfl

theorem ringless_frameToRing (k : Option Nat) (fn r : Nat) (x : RxItem) :
    (still noReg (s.frameToRing k fn r x).1).ringless = (still noReg s).ringless := by
  unfold State.frameToRing
  dsimp only
  by_cases hc : ((s.toRing fn r x (if k.isSome then 0 else x.cells)).2 != 0) = true
  · rw [if_pos hc]
    exact ringless_toRing ..
  · rw [if_neg hc]
    exact (ringless_toRing ..).trans (congrArg _ (still_holdPacket ..))

theorem ringless_ptpTaken (n : Nat) (m : PtpMsg) (st : Stamps) :
    (still noReg (s.ptpTaken n m st)).ringless = (still noReg s).ringless := by
  unfold State.ptpTaken State.ptpCopy
  split
  · split
    · exact ringless_frameToRing ..
    · rfl
  · rfl

theorem ptpTaken_of_no_copy {n : Nat} (h : s.flag pgPtp (R.PTP_PORT_HOST_COPY n) = false) (m : PtpMsg) (st : Stamps) :
    s.ptpTaken n m st = s := by
  unfold State.ptpTaken
  rw [h]
  rfl

end

/-! ### Updates of the replicas -/

/-- What is still, but for the rings and the relay engine, which hold stamps. -/
def Still.stampless (x : Still) : Still := { x.ringless with relay := RelayState.reset }

section

variable {s : State}

/-- A transition of the life cycle runs on in the keys. -/
theorem still_lcPasses (d : Nat) : ∃ k, still noReg (s.lcPasses d) = { still noReg s with key := k } := by
  unfold State.lcPasses
  split
  · exact ⟨s.key, rfl⟩
  · split
    · exact ⟨s.key, rfl⟩
    · split
      · exact ⟨_, rfl⟩
      · exact ⟨_, rfl⟩

theorem lcPasses_idle (d : Nat) (h : s.key.lcRun = none) : s.lcPasses d = s := by
  unfold State.lcPasses
  rw [h]

theorem key_time (x : TimeState) : ({ s with time := x } : State).key = s.key := rfl
theorem key_elapse (n : Nat) : (s.elapse n).key = s.key := key_time _

theorem still_passes (n : Nat) : ∃ k, still noReg (s.passes n) = { still noReg s with key := k } := by
  unfold State.passes
  split
  · obtain ⟨k, hk⟩ := still_lcPasses (s := s.elapse n) (n * (40 * nsUnit))
    exact ⟨k, by rw [hk, still_elapse]⟩
  · exact ⟨s.key, rfl⟩

/-- Where no transition runs, only the counters move. -/
theorem still_passes_idle (n : Nat) (h : s.key.lcRun = none) : still noReg (s.passes n) = still noReg s := by
  rw [State.passes, lcPasses_idle _ ((key_elapse n).symm ▸ h), still_ite, still_elapse, ite_self]

theorem still_spoilMailboxes (off : List Island) : still noReg (s.spoilMailboxes off) = still noReg s :=
  still_foldl _ _ (fun _ _ _ => still_foldl _ _ (fun _ _ _ => by simp) _) s

theorem stampless_restamp (q : Nat → Bool) (f : Stamps → Stamps) : (still q (s.restamp f)).stampless = (still q s).stampless := rfl

theorem still_spoilCaptures : still noReg s.spoilCaptures = still noReg s := rfl

theorem still_log_time (l : LogState) (x : TimeState) : still noReg { s with log := l, time := x } = still noReg s := rfl

theorem stampless_fanout (off : List Island) : (still noReg (s.fanout off)).stampless = (still noReg s).stampless := by
  have hreport (l : List Island) (u : State) : still noReg (l.foldl (fun t _ => ((t.count pgTime R.FANOUT_FAULT).raise pgTime 0).captureInternal
      pgTime R.FANOUT_FAULT.off Code.TIME_FANOUT) u) = still noReg u :=
    still_foldl _ _ (fun _ _ _ => by simp) u
  unfold State.fanout
  dsimp only
  rw [hreport, still_log_time, still_ite, still_spoilCaptures, ite_self]
  split
  · rfl
  · rw [stampless_restamp, still_spoilMailboxes]

theorem still_fanout_nil : still noReg (s.fanout []) = still noReg s := rfl

end

end Sys2Proof.Frames
end

section
/-! What the passing of time and its checks leave alone (O48): a lemma for each command, and the statement. -/

namespace Sys2Proof.Frames

open Sys2Proof.Machine Sys2Proof.Laws

/-! ### Events that leave everything still -/

section

variable {s t : State}

/-- In a quiet state a command that keeps what is still before its answer keeps it. -/
theorem still_next {q : Nat → Bool} {u : State} (hs : s.quiet = true) (hu : still q u = still q s) (h : answer s u = .next t) :
    still q t = still q s :=
  (still_answer q hs (congrArg Still.test hu) h).trans hu

theorem servoHoldover_still (k : Fin 4) (hs : s.quiet = true) (h : exec (.servoHoldover k) s = .next t) : still noReg t = still noReg s :=
  still_next hs (by rw [still_ite, still_stop, still_toHoldover (sparesTime_noReg _), ite_self]) h

theorem pistolEdge_still (p : Fin 16) (hs : s.quiet = true) (h : exec (.pistolEdge p) s = .next t) : still noReg t = still noReg s :=
  still_next hs (by rw [still_ite, still_pistolEdge (sparesTime_noReg 0).pistol, ite_self]) h

theorem pistolPulseEnd_still (p : Fin 16) (hs : s.quiet = true) (h : exec (.pistolPulseEnd p) s = .next t) :
    still noReg t = still noReg s :=
  still_next hs (by rw [still_ite, still_pulseEnd (sparesTime_noReg 0).pistol, ite_self]) h

theorem captureEdge_still (i : Fin 8) (rising : Bool) (hs : s.quiet = true) (h : exec (.captureEdge i rising) s = .next t) :
    still noReg t = still noReg s :=
  still_next hs (by rw [still_ite, still_captureEdge, ite_self]) h

theorem still_heardTaken (c : Nat) (f : CanFrame) : still noReg ((s.canHeard c).canTaken c f) = still noReg s := by
  rw [still_canTaken (fun _ => noReg_eq _), still_canHeard (fun _ => noReg_eq _)]

theorem ctsSyncReceive_still (i : Fin 8) (w : CanWire) (n : Nat) (hs : s.quiet = true) (h : exec (.ctsSyncReceive i w n) s = .next t) :
    still noReg t = still noReg s :=
  still_next hs (by rw [still_ite, still_slotsTake, still_heardTaken, ite_self]) h

theorem ctsFupReceive_still (i : Fin 8) (w : CanWire) (hs : s.quiet = true) (h : exec (.ctsFupReceive i w) s = .next t) :
    still noReg t = still noReg s :=
  still_next hs (by rw [still_ite, still_slotsTake, still_heardTaken, ite_self]) h

theorem pdelayTimeout_still (port : Fin 24) (hs : s.quiet = true) (h : exec (.pdelayTimeout port) s = .next t) :
    still noReg t = still noReg s := by
  have hmiss (u : State) (older : Bool) : still noReg (u.pdelayMissed port.val older) = still noReg u :=
    still_noReg (still_pdelayMissed port.isLt older)
  exact still_next hs (by rw [still_ite, hmiss, ite_self, still_ite, hmiss, ite_self]) h

theorem ttWindowClose_still (c : Fin 48) (hs : s.quiet = true) (h : exec (.ttWindowClose c) s = .next t) : still noReg t = still noReg s :=
  still_next hs (still_ttClose (fun _ => noReg_eq _) (fun _ => noReg_eq _)) h

theorem canFrameReceive_still (c : Fin 48) (w : CanWire) (begun : Bool) (hs : s.quiet = true)
    (h : exec (.canFrameReceive c w begun) s = .next t) : still noReg t = still noReg s := by
  have hc : ∀ off, noReg (regKey (canPage c.val) off) = false := fun _ => noReg_eq _
  refine still_next hs ?_ h
  simp only [still_ite, still_slotsHear, still_canTaken hc, still_heardCount hc, still_canHeard hc, still_busError hc, ite_self]

end

/-! ### gPTP messages -/

/-- `t` keeps what is still of `s` but for the rings, and these too where port `n` makes no copies for the host. -/
def KeepsButCopies (n : Nat) (s t : State) : Prop :=
  (still noReg t).ringless = (still noReg s).ringless ∧ (s.flag pgPtp (R.PTP_PORT_HOST_COPY n) = false → t.rings = s.rings)

section

variable {s t : State}

theorem keepsButCopies_of_still (n : Nat) (h : still noReg t = still noReg s) : KeepsButCopies n s t :=
  ⟨congrArg _ h, fun _ => congrArg Still.rings h⟩

/-- A message whose handling writes no register PTP_PORT is consumed with its copy. -/
theorem keepsButCopies_of_message {n : Nat} (hn : n < 24) {c : Bool} {u : State} {m : PtpMsg} {st : Stamps} (hs : s.quiet = true)
    (hu : still portReg u = still portReg s) (h : answer s (if c then u.ptpTaken n m st else s) = .next t) : KeepsButCopies n s t := by
  have hu' := still_noReg hu
  cases c with
  | false => exact keepsButCopies_of_still n (still_next hs rfl h)
  | true =>
    have hr : (still noReg (u.ptpTaken n m st)).ringless = (still noReg s).ringless := (ringless_ptpTaken n m st).trans (congrArg _ hu')
    have ht := still_answer noReg hs (congrArg Still.test hr) h
    refine ⟨(congrArg _ ht).trans hr, fun hcopy => ?_⟩
    have hflag : u.flag pgPtp (R.PTP_PORT_HOST_COPY n) = false := by
      rw [← hcopy, State.flag, State.flag, State.fld, State.fld, rd_of_still hu _ _ (portReg_port hn)]
    exact congrArg Still.rings (ht.trans (congrArg (still noReg) (ptpTaken_of_no_copy hflag m st)) |>.trans hu')

theorem pdelayRespReceive_keeps (port : Fin 24) (m : PtpMsg) (hs : s.quiet = true) (h : exec (.pdelayRespReceive port m) s = .next t) :
    KeepsButCopies port.val s t :=
  keepsButCopies_of_message port.isLt hs (still_pdelayResp port.isLt ..) h

theorem syncReceive_keeps (port : Fin 24) (m : PtpMsg) (hs : s.quiet = true) (h : exec (.syncReceive port m) s = .next t) :
    KeepsButCopies port.val s t :=
  keepsButCopies_of_message port.isLt hs (still_syncReceive ..) h

theorem followUpReceive_keeps (port : Fin 24) (m : PtpMsg) (hs : s.quiet = true) (h : exec (.followUpReceive port m) s = .next t) :
    KeepsButCopies port.val s t :=
  keepsButCopies_of_message port.isLt hs (still_followUp ..) h

/-! ### Updates of the replicas -/

/-- An update keeps what is still but for what holds stamps and, with them, the keys. -/
theorem timeFanoutUpdate_stampless (n : Nat) (off : List Island) (hs : s.quiet = true) (h : exec (.timeFanoutUpdate n off) s = .next t) :
    ∃ k, (still noReg t).stampless = { (still noReg s).stampless with key := k } := by
  obtain ⟨k, hk⟩ := still_passes (s := s) n
  have hu : (still noReg ((s.passes n).fanout off)).stampless = { (still noReg s).stampless with key := k } :=
    (stampless_fanout off).trans (congrArg _ hk)
  exact ⟨k, (congrArg _ (still_answer noReg hs (congrArg Still.test hu) h)).trans hu⟩

/-- While no transition of the life cycle runs, an update keeps the keys. -/
theorem timeFanoutUpdate_idle (n : Nat) (off : List Island) (hs : s.quiet = true) (hl : s.key.lcRun = none)
    (h : exec (.timeFanoutUpdate n off) s = .next t) : (still noReg t).stampless = (still noReg s).stampless := by
  have hu : (still noReg ((s.passes n).fanout off)).stampless = (still noReg s).stampless :=
    (stampless_fanout off).trans (congrArg _ (still_passes_idle n hl))
  exact (congrArg _ (still_answer noReg hs (congrArg Still.test hu) h)).trans hu

/-- An update that finds no replica off keeps all but the keys. -/
theorem timeFanoutUpdate_good (n : Nat) (hs : s.quiet = true) (h : exec (.timeFanoutUpdate n []) s = .next t) :
    ∃ k, still noReg t = { still noReg s with key := k } := by
  obtain ⟨k, hk⟩ := still_passes (s := s) n
  have hu : still noReg ((s.passes n).fanout []) = { still noReg s with key := k } := still_fanout_nil.trans hk
  exact ⟨k, (still_answer noReg hs (congrArg Still.test hu) h).trans hu⟩

/-- Every event of the family but an update keeps what is still but for copies of gPTP frames. -/
theorem timeEvent_keeps {n : Nat} {k : Fin 4} {p : Fin 16} {i : Fin 8} {rising : Bool} {w : CanWire} {port : Fin 24} {msg : PtpMsg} {c : Fin 48}
    {cmd : Instr} (hcmd : cmd ∈ ([.servoHoldover k, .pistolEdge p, .pistolPulseEnd p, .captureEdge i rising, .ctsSyncReceive i w n,
      .ctsFupReceive i w, .pdelayRespReceive port msg, .pdelayTimeout port, .syncReceive port msg, .followUpReceive port msg, .ttWindowClose c,
      .canFrameReceive c w rising] : List Instr))
    (hs : s.quiet = true) (h : exec cmd s = .next t) : KeepsButCopies port.val s t := by
  simp only [List.mem_cons, List.not_mem_nil, or_false] at hcmd
  rcases hcmd with rfl | rfl | rfl | rfl | rfl | rfl | rfl | rfl | rfl | rfl | rfl | rfl
  · exact keepsButCopies_of_still _ (servoHoldover_still k hs h)
  · exact keepsButCopies_of_still _ (pistolEdge_still p hs h)
  · exact keepsButCopies_of_still _ (pistolPulseEnd_still p hs h)
  · exact keepsButCopies_of_still _ (captureEdge_still i rising hs h)
  · exact keepsButCopies_of_still _ (ctsSyncReceive_still i w n hs h)
  · exact keepsButCopies_of_still _ (ctsFupReceive_still i w hs h)
  · exact pdelayRespReceive_keeps port msg hs h
  · exact keepsButCopies_of_still _ (pdelayTimeout_still port hs h)
  · exact syncReceive_keeps port msg hs h
  · exact followUpReceive_keeps port msg hs h
  · exact keepsButCopies_of_still _ (ttWindowClose_still c hs h)
  · exact keepsButCopies_of_still _ (canFrameReceive_still c w rising hs h)

/-- The relay engine is the same but for the PDUs on their way to it. -/
theorem relay_but_coming {a b : RelayState} (h : { a with coming := [] } = { b with coming := [] }) : { a with coming := b.coming } = b :=
  congrArg (fun r : RelayState => { r with coming := b.coming }) h

end

/-- Settles O48: an update of the replicas restamps what holds stamps and lets a transition of the life cycle run on; of the other events only the
copy of a gPTP frame for the host reaches a ring, and handling the frame writes no register that holds HOST_COPY. -/
theorem timeEventsFrame : Obligations.TimeEventsFrame := by
  intro n off k p i rising w port msg c s t cmd hcmd hs h
  rcases List.mem_cons.mp hcmd with rfl | hcmd
  · obtain ⟨_, hu⟩ := timeFanoutUpdate_stampless n off hs h
    refine ⟨congrArg Still.boot hu, congrArg Still.power hu, congrArg Still.slots hu, congrArg Still.wake hu, congrArg Still.test hu,
      congrArg Still.lin hu, fun hl => congrArg Still.key (timeFanoutUpdate_idle n off hs (hl rfl) h), fun hoff => ?_⟩
    obtain rfl := hoff rfl
    obtain ⟨_, hg⟩ := timeFanoutUpdate_good n hs h
    exact ⟨relay_but_coming (congrArg Still.relay hg), fun _ => congrArg Still.rings hg⟩
  · obtain ⟨hu, hrings⟩ := timeEvent_keeps hcmd hs h
    exact ⟨congrArg Still.boot hu, congrArg Still.power hu, congrArg Still.slots hu, congrArg Still.wake hu, congrArg Still.test hu,
      congrArg Still.lin hu, fun _ => congrArg Still.key hu, fun _ => ⟨relay_but_coming (congrArg Still.relay hu), hrings⟩⟩

end Sys2Proof.Frames
end
